-- ==== Sys2Proof/Word.lean ====
section
/-! DEFINITION. The word types of the Harfel block (00_scope.md, units and notation; R5) and sparse tables keyed by
a number, with the two laws of reading after writing that everything else rests on. -/

namespace Sys2Proof

/-- A byte. Byte order is little-endian in flits, registers and memory (00_scope.md). -/
abbrev Byte := BitVec 8

/-- A register word (R5). -/
abbrev Word := BitVec 32

/-- A header word of a packet (R71) or a descriptor word (R236). -/
abbrev Word64 := BitVec 64

/-- Sparse data by number: the entry of an unlisted key is the table's default, which the reader names. -/
abbrev Tab (α : Type) := List (Nat × α)

namespace Tab

/-- The entry of key `k`, and `d` where none is listed. -/
def get {α : Type} (d : α) : Tab α → Nat → α
  | [], _ => d
  | (k', v) :: t, k => if k' = k then v else get d t k

/-- The entry of key `k` becomes `v`; every other entry stands. -/
def set {α : Type} : Tab α → Nat → α → Tab α
  | [], k, v => [(k, v)]
  | (k', v') :: t, k, v => if k' = k then (k, v) :: t else (k', v') :: set t k v

/-- The entry of key `k`, if one is listed. -/
def get? {α : Type} : Tab α → Nat → Option α
  | [], _ => none
  | (k', v) :: t, k => if k' = k then some v else get? t k

/-- No entry of key `k` is listed any more. -/
def del {α : Type} (t : Tab α) (k : Nat) : Tab α := t.filter (fun e => e.1 != k)

@[simp] theorem get_set_self {α : Type} (d : α) (t : Tab α) (k : Nat) (v : α) : Tab.get d (Tab.set t k v) k = v := by
  induction t with
  | nil => simp [set, get]
  | cons e t ih =>
    obtain ⟨k', v'⟩ := e
    by_cases h : k' = k <;> simp [set, get, h, ih]

theorem get_set_ne {α : Type} (d : α) (t : Tab α) (k j : Nat) (v : α) (h : j ≠ k) :
    Tab.get d (Tab.set t k v) j = Tab.get d t j := by
  induction t with
  | nil => simp [set, get, Ne.symm h]
  | cons e t ih =>
    obtain ⟨k', v'⟩ := e
    by_cases h' : k' = k
    · subst h'; simp [set, get, Ne.symm h]
    · simp only [set, if_neg h', get, ih]

end Tab

end Sys2Proof
end

