-- ==== Sys2Proof/Wire.lean ====
section
/-! DEFINITION. What travels on the block's wires and through its ports, as data: T-plane packets and flits (R67 to R74),
C-plane messages and flits (R271 to R275), control records (R209), link frames (R363), keeper messages (R341), descriptors
(R236, R583), the path names of R31 and the small enumerations that commands name. Types only; the codecs over them are in
Machine/Codec.lean. -/

namespace Sys2Proof

/-- The two builds (R1, R7). -/
inductive Build where
  | hfE | hfS
  deriving DecidableEq, Repr, Inhabited

/-- What a stop's ECC finds on an arriving flit (R69, R271, R325). -/
inductive Ecc where
  | ok | corrected | bad
  deriving DecidableEq, Repr, Inhabited

/-- A T-plane header: the fields of R71 in word order, word 6 as it stands (R74 chooses its fields). -/
structure THdr where
  prio : BitVec 3
  route : BitVec 2
  stile : BitVec 9
  snode : BitVec 12
  pan : BitVec 8
  dtile : BitVec 9
  dnode : BitVec 12
  dmode : BitVec 2
  type : BitVec 4
  vc : BitVec 2
  e2e : BitVec 1
  resend : BitVec 1
  last : BitVec 1
  plen : BitVec 12
  pcnt : BitVec 13
  pidx : BitVec 13
  mseq : BitVec 16
  e2eseq : BitVec 24
  drank : BitVec 20
  srank : BitVec 20
  qepoch : BitVec 8
  addr : BitVec 48
  fmt : BitVec 4
  op : BitVec 4
  child : BitVec 8
  seg : BitVec 20
  coll : BitVec 16
  tstamp : BitVec 32
  sig : BitVec 32
  w6 : BitVec 64
  ctag : BitVec 32
  deriving DecidableEq, Repr, Inhabited

/-- A T-plane packet: a header and its `PLEN` payload bytes (R67). -/
structure Pkt where
  hdr : THdr
  data : List Byte
  deriving DecidableEq, Repr, Inhabited

/-- A T-plane flit with its sideband (R68). `VALID` is that the flit is there; the ECC outcome stands beside it in the command. -/
structure Flit where
  vc : BitVec 2
  head : Bool
  tail : Bool
  kill : Bool
  data : List Byte
  deriving DecidableEq, Repr, Inhabited

/-- A C-plane header flit (R274). -/
structure CHdr where
  mseq : BitVec 16
  epoch : BitVec 8
  alive : BitVec 4
  index : BitVec 6
  pan : BitVec 8
  stile : BitVec 9
  snode : BitVec 12
  dtile : BitVec 9
  dnode : BitVec 12
  plen : BitVec 6
  resend : BitVec 1
  mkind : BitVec 4
  arg : BitVec 32
  deriving DecidableEq, Repr, Inhabited

/-- A C-plane message: its header flit and `PLEN` payload bytes (R271, R274). -/
structure CMsg where
  hdr : CHdr
  data : List Byte
  deriving DecidableEq, Repr, Inhabited

/-- A C-plane flit with its sideband (R271). -/
structure CFlit where
  vc : BitVec 1
  head : Bool
  tail : Bool
  data : List Byte
  deriving DecidableEq, Repr, Inhabited

/-- The one 16-byte control record of a COLL_CTL packet (R209). -/
structure Ctl where
  arg : BitVec 21
  rank : BitVec 20
  saf : BitVec 8
  kind : BitVec 8
  deriving DecidableEq, Repr, Inhabited

/-- A link-frame header (R363). -/
structure FHdr where
  crcnt : BitVec 10
  crvc : BitVec 3
  det : BitVec 1
  nak : BitVec 1
  ackseq : BitVec 10
  fseq : BitVec 10
  nblk : BitVec 5
  last : BitVec 1
  first : BitVec 1
  vc : BitVec 2
  ftype : BitVec 4
  sph : BitVec 2
  stide : BitVec 32
  cid : BitVec 12
  crc : BitVec 32
  deriving DecidableEq, Repr, Inhabited

/-- A link frame: its header block and `NBLK` payload blocks of 32 bytes (R363). -/
structure Frame where
  hdr : FHdr
  data : List Byte
  deriving DecidableEq, Repr, Inhabited

/-- A keeper message: `KTYPE`, `KSEQ` and the payload (R339, R341). -/
structure KMsg where
  ktype : BitVec 8
  kseq : BitVec 8
  data : List Byte
  deriving DecidableEq, Repr, Inhabited

/-- An 8b/10b character of the keeper lane (R338, R339): a K-character, a data byte, or what the receiver saw as a
disparity or code error. -/
inductive KChar where
  | k28_5 | k27_7 | k29_7
  | kOther
  | d (b : Byte)
  | codeError
  deriving DecidableEq, Repr, Inhabited

/-- The asynchronous paths of R31 that R34 watches, by what they join. -/
inductive XPath where
  | cmd (t : Nat) | msg (t : Nat) | dsp (t : Nat) | tp (t : Nat) | mp (t : Nat) | pwr (t : Nat)
  | slice (s : Nat) | sliceEv (s : Nat) | linkRx (n : Nat) | linkTx (n : Nat) | linkEv (n : Nat)
  | control | budget | fuse
  deriving DecidableEq, Repr, Inhabited

/-- Where a queue or ring command comes from (R279): the client's MSG port with its request tag, or a host's write with the
window it came through and the request's own sequence on the C-plane. -/
inductive QSrc where
  | msg (tag : BitVec 4)
  | host (win : Nat) (req : CMsg)
  deriving DecidableEq, Repr, Inhabited

/-- A 64-byte descriptor as its eight words (R236, R583). -/
structure Desc where
  w0 : Word64
  w1 : Word64
  w2 : Word64
  w3 : Word64
  w4 : Word64
  w5 : Word64
  w6 : Word64
  w7 : Word64
  deriving DecidableEq, Repr, Inhabited

/-- A 257-bit block of a data lane as it travels (R333): bit `i` is the one sent `i`-th, the header bit first. -/
abbrev Block := BitVec 257

/-- One codeword at one lane's decoder (R334): the twenty blocks that were sent, and the symbols that arrived wrong, each its place among the
544 and the error in its ten bits. -/
structure Codeword where
  blocks : List Block
  errs : List (Nat × Nat)
  deriving DecidableEq, Repr, Inhabited

/-- A register access as the control port presents it (R591). -/
structure Req where
  win : BitVec 3
  tag : BitVec 6
  wofs : BitVec 22
  wdata : Word
  deriving DecidableEq, Repr, Inhabited

/-- What a RING_SET sets (R287, R301): base and size together from the MSG port, or one register from a host. -/
inductive RingField where
  | both (base : BitVec 40) (size : BitVec 31)
  | baseLo (v : Word) | baseHi (v : Word) | size (v : Word)
  deriving DecidableEq, Repr, Inhabited

/-- A request on a tile's MSG port (R586): the header, bits 127:0, and the QSEND payload bytes after it. -/
structure MsgReq where
  hdr : BitVec 128
  payload : List Byte
  deriving DecidableEq, Repr, Inhabited

/-- A request on a tile's MP port (R581): address, exact bytes, tag and the data bytes written. -/
structure MpReq where
  addr : BitVec 48
  len : Nat
  tag : BitVec 8
  data : List Byte
  deriving DecidableEq, Repr, Inhabited

/-- The memory operations that travel on the M-plane (R310, R321). A FENCE never leaves its M-port. -/
inductive MKind where
  | read | write | add | cas | xchg
  deriving DecidableEq, Repr, Inhabited

/-- An M-plane message (R307 to R310): a request to a slice, or (`ret`) its return with status (0 OK, 1 ERROR). -/
structure MMsg where
  ret : Bool
  kind : MKind
  tile : Nat
  slice : Nat
  tag : BitVec 8
  row : Nat
  lo : Nat
  len : Nat
  guaranteed : Bool
  status : Nat
  data : List Byte
  deriving DecidableEq, Repr, Inhabited

/-- Which pending re-shape a drain or a commit belongs to (R411, R439, R572). -/
inductive SwId where
  | stage (k : Nat) | full | reset (pan : Nat)
  deriving DecidableEq, Repr, Inhabited

/-- A part that the start-up march test found bad (R565). -/
inductive SelfFail where
  | storeBank (t : Nat) (bank : Nat)
  | storeSpare (t : Nat) (group : Nat)
  | queueRow (t : Nat) (queue : Nat)
  | stopSram (t : Nat)
  | linkBuffer (n : Nat)
  | rakeBuffer
  deriving DecidableEq, Repr, Inhabited

/-- Where a client reset comes from (R571): STOP_RST.CLIENT, or a pulse on CRST_REQ (R588). -/
inductive CrstSrc where
  | reg (m : CMsg) | pin
  deriving DecidableEq, Repr, Inhabited

/-- Where a STOP or LINK page access arrives (R598). -/
inductive RegPlace where
  | stop (t : Nat) | link (n : Nat)
  deriving DecidableEq, Repr, Inhabited

end Sys2Proof
end

