-- ==== Sys2Proof/Syntax.lean ====
section
/-! DEFINITION. The commands of the Harfel block, one constructor per row of spec/opcode_table.json, in the table's order.
Operand names: `t` a logical tile id (16 * x + y), `n` a link number, `sl` a slice number, `u` a check unit, `q` a
control-port request to the row's own register, `m` a C-plane message, `p` a T-plane packet, `k` a keeper message, `f` a
flit, a frame or a field, `e` an ECC outcome, `d` a descriptor. What an analogue or far-clock event measures (a
training result, a run of quiet fc, a lane's bit errors) is an operand. -/

namespace Sys2Proof

/-- A command of the block (spec/opcode_table.json). -/
inductive Instr where
  /-- TIDE_TICK (R38). -/
  | tideTick
  /-- ROW_REMAP_DRAINED (R16). -/
  | rowRemapDrained (y : Nat)
  /-- ROW_REMAP_TIMEOUT (R16). -/
  | rowRemapTimeout (y : Nat)
  /-- QUADRANT_TRAINING (R27). -/
  | quadrantTraining (bad : List (Nat × Nat))
  /-- QUADRANT_PHASE_LOST (R28). -/
  | quadrantPhaseLost (p q : Nat)
  /-- CROSSING_TIMEOUT (R35). -/
  | crossingTimeout (x : XPath) (quiet : Nat) (pend : Bool)
  /-- CROSSING_REOPEN (R35). -/
  | crossingReopen (x : XPath) (run : Nat)
  /-- TIDE_PING_RECEIVED (R45). -/
  | tidePingReceived (n : Nat) (k : KMsg)
  /-- TIDE_PONG_RECEIVED (R45). -/
  | tidePongReceived (n : Nat) (k : KMsg)
  /-- TIDE_BURST_COMPLETE (R45). -/
  | tideBurstComplete (n : Nat)
  /-- TIDE_ALIGN_TIMEOUT (R47). -/
  | tideAlignTimeout
  /-- TIDE_STEER_PERIOD (R50). -/
  | tideSteerPeriod
  /-- TIDE_PARENT_LOST (R53). -/
  | tideParentLost
  /-- TIDE_HOLDOVER_EXPIRED (R54). -/
  | tideHoldoverExpired
  /-- TIDE_PARENT_RETURNED (R54). -/
  | tideParentReturned (n : Nat)
  /-- TIDE_CFG_WRITE (R64). -/
  | tideCfgWrite (q : Req)
  /-- TIDE_MASTER_LOAD (R55). -/
  | tideMasterLoad
  /-- TIDE_REALIGN (R57). -/
  | tideRealign (q : Req)
  /-- TIDE_BURST_CMD (R61). -/
  | tideBurstCmd (q : Req)
  /-- TIDE_NOW_READ (R59). -/
  | tideNowRead (q : Req)
  /-- TIDE_STEP_READ (R66). -/
  | tideStepRead (q : Req)
  /-- TIDE_OOB_CLEAR (R51). -/
  | tideOobClear (q : Req)
  /-- T_FLIT_ARRIVE (R69). -/
  | tFlitArrive (t port : Nat) (f : Flit) (e : Ecc)
  /-- OUTPUT_CYCLE (R155). -/
  | outputCycle (t port : Nat)
  /-- CREDIT_RETURN (R70). -/
  | creditReturn (t port vc : Nat)
  /-- SI_INJECT (R602). -/
  | siInject (t : Nat)
  /-- MESSAGE_ISSUE (R83). -/
  | messageIssue (t : Nat)
  /-- PUT_ARRIVE (R85). -/
  | putArrive (t : Nat) (p : Pkt)
  /-- MRESP_ARRIVE (R86). -/
  | mrespArrive (t : Nat) (p : Pkt)
  /-- MWRITE_ARRIVE (R323). -/
  | mwriteArrive (t : Nat) (p : Pkt)
  /-- MREAD_ARRIVE (R323). -/
  | mreadArrive (t : Nat) (p : Pkt)
  /-- RINGMSG_ARRIVE (R280). -/
  | ringmsgArrive (t : Nat) (p : Pkt)
  /-- MCAST_ARRIVE (R129). -/
  | mcastArrive (t port : Nat) (p : Pkt)
  /-- RED_DOWN_ARRIVE (R249). -/
  | redDownArrive (t : Nat) (p : Pkt)
  /-- ACK_ARRIVE (R89). -/
  | ackArrive (t : Nat) (p : Pkt)
  /-- NACK_ARRIVE (R89). -/
  | nackArrive (t : Nat) (p : Pkt)
  /-- ASSEMBLY_TIMEOUT (R87). -/
  | assemblyTimeout (t : Nat) (snode stile vc mseq : Nat)
  /-- COMPLETED_KEY_EXPIRE (R88). -/
  | completedKeyExpire (t : Nat) (snode stile vc mseq : Nat)
  /-- RESEND_BACKOFF_EXPIRE (R89). -/
  | resendBackoffExpire (t mseq : Nat)
  /-- ANSWER_TIMEOUT (R90). -/
  | answerTimeout (t plane mseq : Nat)
  /-- SLUICE_EVAL (R121). -/
  | sluiceEval (t : Nat)
  /-- CLIENT_FENCE (R112). -/
  | clientFence (t : Nat)
  /-- ROUTER_FENCE (R114). -/
  | routerFence (t : Nat)
  /-- FENCE_SET_SWITCH (R116). -/
  | fenceSetSwitch
  /-- MCAST_EJECT_TIMEOUT (R129). -/
  | mcastEjectTimeout (t : Nat) (p : Pkt) (waited : Nat)
  /-- COLLECTOR_ANSWER (R131). -/
  | collectorAnswer (t : Nat) (p : Pkt)
  /-- COLLECTOR_TIMEOUT (R131). -/
  | collectorTimeout (t snode stile mseq : Nat)
  /-- COLLECTOR_KEY_EXPIRE (R131). -/
  | collectorKeyExpire (t snode stile mseq : Nat)
  /-- MCAST_ROUND_END (R133). -/
  | mcastRoundEnd (t mseq : Nat)
  /-- SLOT_BANK_SWAP (R144). -/
  | slotBankSwap
  /-- SLOT_ARM (R145). -/
  | slotArm (q : Req)
  /-- SLOT_CANCEL (R167). -/
  | slotCancel (q : Req)
  /-- CIRCUIT_FLIT_ARRIVE (R149). -/
  | circuitFlitArrive (t port : Nat) (f : Flit) (e : Ecc)
  /-- STOP_PRIO_WRITE (R159). -/
  | stopPrioWrite (t : Nat) (m : CMsg)
  /-- STOP_ARB_WRITE (R162). -/
  | stopArbWrite (t : Nat) (m : CMsg)
  /-- RED_UP_ARRIVE (R211). -/
  | redUpArrive (t : Nat) (p : Pkt) (own : Bool)
  /-- CU_PACKET_COMBINE (R212). -/
  | cuPacketCombine (t : Nat) (p : Pkt) (own : Bool) (killed : Option Nat)
  /-- CU_LANE_ERROR (R202). -/
  | cuLaneError (t lane : Nat)
  /-- CONTRIBUTION_BACKOFF_EXPIRE (R215). -/
  | contributionBackoffExpire (t mseq : Nat)
  /-- DONE_ENTRY_EXPIRE (R214). -/
  | doneEntryExpire (t coll seg pnode : Nat)
  /-- BYPASS_ENTRY_EXPIRE (R216). -/
  | bypassEntryExpire (t coll seg pnode : Nat)
  /-- COLL_BYPASS (R217). -/
  | collBypass (t : Nat) (p : Pkt)
  /-- STORE_CORRECTED (R219). -/
  | storeCorrected (t slot : Nat)
  /-- STORE_UNCORRECTABLE (R219). -/
  | storeUncorrectable (t slot : Nat)
  /-- BANK_SPARE_TAKEOVER (R220). -/
  | bankSpareTakeover (t bank : Nat)
  /-- COLL_ALL_REDUCE (R242). -/
  | collAllReduce (t : Nat) (d : Desc)
  /-- COLL_REDUCE_SCATTER (R244). -/
  | collReduceScatter (t : Nat) (d : Desc)
  /-- COLL_ALL_GATHER (R242). -/
  | collAllGather (t : Nat) (d : Desc)
  /-- COLL_BROADCAST (R246). -/
  | collBroadcast (t : Nat) (d : Desc)
  /-- COLL_BARRIER (R242). -/
  | collBarrier (t : Nat) (d : Desc)
  /-- COLL_ALL_TO_ALL (R245). -/
  | collAllToAll (t : Nat) (d : Desc)
  /-- COLL_DESCRIPTOR_RELEASE (R238). -/
  | collDescriptorRelease (t : Nat)
  /-- COMMIT_PROGRESS_TIMER (R249). -/
  | commitProgressTimer (t coll : Nat)
  /-- COLL_MISMATCH_RECORD (R254). -/
  | collMismatchRecord (t : Nat) (p : Pkt)
  /-- COLL_COMMIT_PROGRESS (R259). -/
  | collCommitProgress (t : Nat) (p : Pkt)
  /-- COLL_COMMIT_FINAL (R255). -/
  | collCommitFinal (t : Nat) (p : Pkt)
  /-- COLL_ABORT (R255). -/
  | collAbort (t : Nat) (p : Pkt)
  /-- COLL_REPLAY_CAUSE (R258). -/
  | collReplayCause (t : Nat) (p : Pkt)
  /-- COLL_REPLAY_ORDER (R260). -/
  | collReplayOrder (t : Nat) (p : Pkt)
  /-- DEPUTY_TAKEOVER (R262). -/
  | deputyTakeover (t coll : Nat)
  /-- GTL_TIMEOUT (R252). -/
  | gtlTimeout (t coll : Nat)
  /-- MEMBER_TIMEOUT (R251). -/
  | memberTimeout (t coll : Nat)
  /-- ROOT_RECORD_END (R250). -/
  | rootRecordEnd (t coll : Nat)
  /-- ENDED_ENTRY_EXPIRE (R255). -/
  | endedEntryExpire (t coll sig : Nat)
  /-- STOP_COLL_ABORT_WRITE (R256). -/
  | stopCollAbortWrite (t : Nat) (m : CMsg)
  /-- C_FLIT_ARRIVE (R271). -/
  | cFlitArrive (t port : Nat) (f : CFlit) (e : Ecc)
  /-- C_MESSAGE_FORWARD (R272). -/
  | cMessageForward (t port : Nat)
  /-- QSEND_ARRIVE (R280). -/
  | qsendArrive (t : Nat) (m : CMsg)
  /-- QANS_RECEIVED (R276). -/
  | qansReceived (t : Nat) (m : CMsg)
  /-- RING_WRITE_COMPLETE (R290). -/
  | ringWriteComplete (t queue : Nat)
  /-- QUEUE_OPEN (R279). -/
  | queueOpen (t queue : Nat) (src : QSrc)
  /-- QUEUE_CLOSE (R279). -/
  | queueClose (t queue : Nat) (src : QSrc)
  /-- QUEUE_RESET (R279). -/
  | queueReset (t queue : Nat) (src : QSrc)
  /-- QUEUE_PAUSE (R279). -/
  | queuePause (t queue : Nat) (src : QSrc)
  /-- QUEUE_RESUME (R279). -/
  | queueResume (t queue : Nat) (src : QSrc)
  /-- QUEUE_POP (R282). -/
  | queuePop (t queue : Nat) (tag : BitVec 4) (fixed : Bool) (bad : Nat)
  /-- DISPATCH_SEND (R284). -/
  | dispatchSend (t : Nat) (room : Bool)
  /-- RING_SET (R287). -/
  | ringSet (t queue : Nat) (src : QSrc) (f : RingField)
  /-- RING_RD_WRITE (R291). -/
  | ringRdWrite (t queue : Nat) (src : QSrc) (lap : Bool) (ofs : Nat)
  /-- MSG_QSEND (R586). -/
  | msgQsend (t : Nat) (r : MsgReq)
  /-- MSG_LOCK_ACQ (R586). -/
  | msgLockAcq (t : Nat) (r : MsgReq)
  /-- MSG_LOCK_REL (R586). -/
  | msgLockRel (t : Nat) (r : MsgReq)
  /-- LOCK_ACQ_ARRIVE (R294). -/
  | lockAcqArrive (t : Nat) (m : CMsg)
  /-- LOCK_REL_ARRIVE (R294). -/
  | lockRelArrive (t : Nat) (m : CMsg)
  /-- LOCK_ANS_RECEIVED (R297). -/
  | lockAnsReceived (t : Nat) (m : CMsg)
  /-- LOCK_BACKOFF_EXPIRE (R295). -/
  | lockBackoffExpire (t tag : Nat)
  /-- LOCK_LIMIT_EXPIRE (R295). -/
  | lockLimitExpire (t tag : Nat)
  /-- TILE_LOST_RECEIVED (R296). -/
  | tileLostReceived (t : Nat) (m : CMsg)
  /-- RED_SMALL_ARRIVE (R277). -/
  | redSmallArrive (t : Nat) (m : CMsg)
  /-- RED_ANS_RECEIVED (R277). -/
  | redAnsReceived (t : Nat) (m : CMsg)
  /-- TIME_MESSAGE (R275). -/
  | timeMessage (t : Nat) (m : CMsg)
  /-- MP_READ (R310). -/
  | mpRead (t : Nat) (r : MpReq)
  /-- MP_WRITE (R310). -/
  | mpWrite (t : Nat) (r : MpReq)
  /-- ATOMIC_ADD (R321). -/
  | atomicAdd (t : Nat) (r : MpReq)
  /-- ATOMIC_CAS (R321). -/
  | atomicCas (t : Nat) (r : MpReq)
  /-- ATOMIC_XCHG (R321). -/
  | atomicXchg (t : Nat) (r : MpReq)
  /-- MP_FENCE (R320). -/
  | mpFence (t : Nat) (tag : BitVec 8) (len : BitVec 9)
  /-- FENCE_COMPLETE (R320). -/
  | fenceComplete (t : Nat)
  /-- M_FLIT_ARRIVE (R325). -/
  | mFlitArrive (t port sub : Nat) (m : MMsg) (idx : Nat) (e : Ecc)
  /-- SLICE_REQUEST_PRESENT (R313). -/
  | sliceRequestPresent (sl : Nat)
  /-- SLICE_RETURN (R325). -/
  | sliceReturn (sl : Nat) (tag : BitVec 8) (st : Nat) (data : List Byte)
  /-- MEM_REQUEST_TIMEOUT (R325). -/
  | memRequestTimeout (t tag : Nat)
  /-- MEM_TAG_RELEASE (R325). -/
  | memTagRelease (t tag : Nat)
  /-- LINK_ENABLE (R343). -/
  | linkEnable (n : Nat) (m : CMsg)
  /-- LINK_DISABLE (R347). -/
  | linkDisable (n : Nat) (m : CMsg)
  /-- LINK_RETRAIN (R354). -/
  | linkRetrain (n : Nat) (m : CMsg)
  /-- LINK_LOOP_WRITE (R352). -/
  | linkLoopWrite (n : Nat) (m : CMsg)
  /-- RECEIVER_DETECT (R344). -/
  | receiverDetect (n : Nat) (present : BitVec 3) (keeper : Bool)
  /-- HELLO_TIMER (R341). -/
  | helloTimer (n : Nat)
  /-- HELLO_RECEIVED (R343). -/
  | helloReceived (n : Nat) (k : KMsg)
  /-- STAGE_TIMEOUT (R343). -/
  | stageTimeout (n : Nat)
  /-- LINK_NOT_DETECTED (R343). -/
  | linkNotDetected (n : Nat)
  /-- DOWN_HOLDOFF_END (R343). -/
  | downHoldoffEnd (n : Nat)
  /-- TRAIN_REQ_RECEIVED (R345). -/
  | trainReqReceived (n : Nat) (k : KMsg)
  /-- TRAIN_ANS_RECEIVED (R345). -/
  | trainAnsReceived (n : Nat) (k : KMsg)
  /-- TRAIN_WINDOW_END (R345). -/
  | trainWindowEnd (n lane errors : Nat) (giveUp : Bool)
  /-- LOCK_MSG_TIMER (R341). -/
  | lockMsgTimer (n : Nat)
  /-- LOCK_MSG_RECEIVED (R343). -/
  | lockMsgReceived (n : Nat) (k : KMsg)
  /-- CODEWORD_RECEIVED (R334). -/
  | codewordReceived (n lane : Nat) (c : Codeword) (full : Bool)
  /-- CAPS_RECEIVED (R348). -/
  | capsReceived (n : Nat) (k : KMsg)
  /-- CAPS_ACK_RECEIVED (R348). -/
  | capsAckReceived (n : Nat) (k : KMsg)
  /-- KEEPER_CHARACTER (R338). -/
  | keeperCharacter (n : Nat) (v : BitVec 10)
  /-- KEEPER_TRANSMIT (R340). -/
  | keeperTransmit (n : Nat)
  /-- KEEPER_RESEND_TIMEOUT (R340). -/
  | keeperResendTimeout (n : Nat)
  /-- KEEPER_LOSS_TIMEOUT (R347). -/
  | keeperLossTimeout (n : Nat)
  /-- KEEPER_DOWN_RECEIVED (R347). -/
  | keeperDownReceived (n : Nat) (k : KMsg)
  /-- LANE_HEALTH_WINDOW (R349). -/
  | laneHealthWindow (n lane : Nat)
  /-- SWAP_REQ_SPARE_IN (R350). -/
  | swapReqSpareIn (n : Nat) (k : KMsg)
  /-- SWAP_REQ_DROP_LANE (R350). -/
  | swapReqDropLane (n : Nat) (k : KMsg)
  /-- SWAP_ACK_RECEIVED (R350). -/
  | swapAckReceived (n : Nat) (k : KMsg)
  /-- TX_MAP_SWITCH (R350). -/
  | txMapSwitch (n : Nat)
  /-- RX_MAP_SWITCH (R350). -/
  | rxMapSwitch (n : Nat)
  /-- TEST_REQ_STOP (R352). -/
  | testReqStop (n : Nat) (k : KMsg)
  /-- TEST_REQ_LOOP (R352). -/
  | testReqLoop (n : Nat) (k : KMsg)
  /-- TEST_REQ_PATTERN (R353). -/
  | testReqPattern (n : Nat) (k : KMsg)
  /-- TEST_ACK_RECEIVED (R352). -/
  | testAckReceived (n : Nat) (k : KMsg)
  /-- LINK_PRBS_CTL_WRITE (R359). -/
  | linkPrbsCtlWrite (n : Nat) (m : CMsg)
  /-- LINK_LANE_WRITE (R356). -/
  | linkLaneWrite (n lane : Nat) (m : CMsg)
  /-- FRAME_TDATA_RECEIVED (R370). -/
  | frameTdataReceived (n : Nat) (f : Frame) (full : Bool)
  /-- FRAME_CDATA_RECEIVED (R370). -/
  | frameCdataReceived (n : Nat) (f : Frame) (full : Bool)
  /-- FRAME_CTRL_RECEIVED (R370). -/
  | frameCtrlReceived (n : Nat) (f : Frame) (full : Bool)
  /-- FRAME_CIRC_RECEIVED (R383). -/
  | frameCircReceived (n : Nat) (f : Frame) (full : Bool)
  /-- FRAME_SEND (R372). -/
  | frameSend (n : Nat)
  /-- REPLAY_TIMEOUT (R371). -/
  | replayTimeout (n : Nat)
  /-- NAK_TIMEOUT (R370). -/
  | nakTimeout (n : Nat)
  /-- ACK_IDLE_TIMEOUT (R372). -/
  | ackIdleTimeout (n : Nat)
  /-- LINK_LOST (R376). -/
  | linkLost (n : Nat)
  /-- EGRESS_REWRITE (R377). -/
  | egressRewrite (n : Nat)
  /-- EGRESS_RESTORE (R377). -/
  | egressRestore (n : Nat)
  /-- E2E_RETRANSMIT (R379). -/
  | e2eRetransmit (n : Nat)
  /-- NODE_LOST (R381). -/
  | nodeLost (node : Nat)
  /-- RESEND_TILE_TAKE (R398). -/
  | resendTileTake (t : Nat) (p : Pkt)
  /-- EGRESS_COMPLETE (R399). -/
  | egressComplete (t mseq : Nat)
  /-- PAN_ARM_GO (R412). -/
  | panArmGo (q : Req)
  /-- PAN_ARM_CANCEL (R425). -/
  | panArmCancel (q : Req)
  /-- PAN_DRAIN_START (R413). -/
  | panDrainStart (w : SwId)
  /-- PAN_COMMIT (R414). -/
  | panCommit (w : SwId)
  /-- PAN_RESET_ARM (R572). -/
  | panResetArm (q : Req)
  /-- IMG_LOAD (R435). -/
  | imgLoad (q : Req)
  /-- IMG_DATA_WRITE (R435). -/
  | imgDataWrite (q : Req)
  /-- IMAGE_CHECK_COMPLETE (R435). -/
  | imageCheckComplete
  /-- IMG_SWITCH (R439). -/
  | imgSwitch (q : Req)
  /-- IMG_CANCEL (R439). -/
  | imgCancel (q : Req)
  /-- IMG_RESTORE_FACTORY (R444). -/
  | imgRestoreFactory (q : Req)
  /-- IMG_DISCARD (R436). -/
  | imgDiscard (q : Req)
  /-- IMAGE_COMMIT (R440). -/
  | imageCommit
  /-- FACTORY_RESTORE_TICK (R444). -/
  | factoryRestoreTick
  /-- FAULT_REPORT (R455). -/
  | faultReport (unit quiet held : Nat)
  /-- BROKEN_WIRE_DETECT (R455). -/
  | brokenWireDetect (unit quiet held : Nat)
  /-- FAULT_MESSAGE (R456). -/
  | faultMessage (m : CMsg)
  /-- FAULT_MESSAGE_TIMEOUT (R456). -/
  | faultMessageTimeout (unit : Nat)
  /-- ESCALATION_EXPIRE (R461). -/
  | escalationExpire (entry : Nat)
  /-- ATTN_RECEIVED (R467). -/
  | attnReceived (n : Nat) (k : KMsg)
  /-- FLT_CLR_CLEAR (R479). -/
  | fltClrClear (q : Req)
  /-- FLT_CLR_ACT (R479). -/
  | fltClrAct (q : Req)
  /-- FLT_CLR_ALL (R479). -/
  | fltClrAll (q : Req)
  /-- FAULT_STATE_EXIT (R466). -/
  | faultStateExit
  /-- FLT_INJ_GO (R468). -/
  | fltInjGo (q : Req)
  /-- FENCE_ROUTER_WRITE (R469). -/
  | fenceRouterWrite (t : Nat) (m : CMsg)
  /-- FENCE_CLIENT_WRITE (R469). -/
  | fenceClientWrite (t : Nat) (m : CMsg)
  /-- UNFENCE_CLIENT (R469). -/
  | unfenceClient (t : Nat) (m : CMsg)
  /-- STOP_CONTROL_PARITY (R469). -/
  | stopControlParity (t ty : Nat)
  /-- MESH_WIRE_FAILING (R471). -/
  | meshWireFailing (t port plane group wire : Nat)
  /-- MESH_WIRE_SWAP (R471). -/
  | meshWireSwap (t port plane group : Nat)
  /-- HRV_REQ (R487). -/
  | hrvReq (q : Req)
  /-- HRV_THAW (R498). -/
  | hrvThaw (q : Req)
  /-- HARVEST_PIN (R486). -/
  | harvestPin (low : Nat)
  /-- HARVEST_FREEZE_MSG (R488). -/
  | harvestFreezeMsg (n : Nat) (k : KMsg)
  /-- HARVEST_THAW_MSG (R498). -/
  | harvestThawMsg (n : Nat) (k : KMsg)
  /-- HARVEST_FLOOD_REPEAT (R488). -/
  | harvestFloodRepeat
  /-- HARVEST_FREEZE (R491). -/
  | harvestFreeze
  /-- CAPTURE_SETTLED (R494). -/
  | captureSettled (n : Nat)
  /-- HARVEST_THAW (R499). -/
  | harvestThaw
  /-- SCAN_DATA_READ (R496). -/
  | scanDataRead (q : Req)
  /-- SCAN_SEL_WRITE (R521). -/
  | scanSelWrite (q : Req)
  /-- SCAN_TRACE (R497). -/
  | scanTrace (q : Req)
  /-- RAKE_TRIG (R505). -/
  | rakeTrig (src : Nat) (q : Option Req)
  /-- RAKE_REARM (R504). -/
  | rakeRearm (q : Req)
  /-- RAKE_MARK_WRITE (R528). -/
  | rakeMarkWrite (q : Req)
  /-- RAKE_RECORD_SEND (R501). -/
  | rakeRecordSend
  /-- RAKE_SINK_WRITE (R503). -/
  | rakeSinkWrite
  /-- TRACE_CODEWORD_SLOT (R508). -/
  | traceCodewordSlot (up : Option (List Byte))
  /-- CHK_CLAIM (R541). -/
  | chkClaim (u : Nat) (q : Req)
  /-- CHK_RELEASE (R541). -/
  | chkRelease (u : Nat) (q : Req)
  /-- CHK_INIT (R531). -/
  | chkInit (u : Nat) (q : Req)
  /-- CHK_START (R535). -/
  | chkStart (u : Nat) (q : Req)
  /-- CHK_ABORT (R537). -/
  | chkAbort (u : Nat) (q : Req)
  /-- CHK_DATA8 (R533). -/
  | chkData8 (u : Nat) (q : Req)
  /-- CHK_DATA16 (R533). -/
  | chkData16 (u : Nat) (q : Req)
  /-- CHK_DATA32 (R533). -/
  | chkData32 (u : Nat) (q : Req)
  /-- CHK_VAL_READ (R539). -/
  | chkValRead (u : Nat) (q : Req)
  /-- CHK_VAL_WRITE (R539). -/
  | chkValWrite (u : Nat) (hi : Bool) (q : Req)
  /-- SCAN_READ_ISSUE (R536). -/
  | scanReadIssue
  /-- SCAN_READ_RETURN (R536). -/
  | scanReadReturn (u : Nat) (tag : BitVec 8) (ok : Bool) (data : List Byte)
  /-- BUDGET_VALUE (R549). -/
  | budgetValue (b : BitVec 16) (full : Bool)
  /-- POWER_EVALUATE (R550). -/
  | powerEvaluate
  /-- CORE_POWER_REQUEST (R552). -/
  | corePowerRequest (t : Nat) (w : Word) (full : Bool)
  /-- PWR_REQUEST_FORWARD (R552). -/
  | pwrRequestForward (t : Nat)
  /-- PWR_GRANT_RECEIVED (R552). -/
  | pwrGrantReceived (t : Nat) (m : CMsg) (full : Bool)
  /-- SPARE_LANE_WAKE (R555). -/
  | spareLaneWake (n lane : Nat)
  /-- PORST_ASSERT (R563). -/
  | porstAssert
  /-- PORST_RELEASE (R564). -/
  | porstRelease
  /-- FUSE_READ_COMPLETE (R564). -/
  | fuseReadComplete (words : List Word)
  /-- CLOCK_LOCKED (R564). -/
  | clockLocked
  /-- SELFTEST_COMPLETE (R565). -/
  | selftestComplete (fails : List SelfFail)
  /-- STARTUP_PHASE_TIMEOUT (R564). -/
  | startupPhaseTimeout (wires : List (Nat × Nat))
  /-- FLT_RST_WRITE (R569). -/
  | fltRstWrite (q : Req)
  /-- BLOCK_RESET_START (R569). -/
  | blockResetStart
  /-- CLIENT_RESET (R571). -/
  | clientReset (t : Nat) (src : CrstSrc)
  /-- CLIENT_RESET_DONE (R571). -/
  | clientResetDone (t : Nat)
  /-- DSC_PUT (R583). -/
  | dscPut (t : Nat) (d : Desc)
  /-- DSC_MWRITE (R583). -/
  | dscMwrite (t : Nat) (d : Desc)
  /-- DSC_MREAD (R583). -/
  | dscMread (t : Nat) (d : Desc)
  /-- DSC_RINGMSG (R583). -/
  | dscRingmsg (t : Nat) (d : Desc)
  /-- DSC_MCAST (R583). -/
  | dscMcast (t : Nat) (d : Desc)
  /-- TP_READ_DATA (R601). -/
  | tpReadData (t : Nat) (tag : BitVec 4) (last err : Bool) (data : List Byte)
  /-- REG_RD_RECEIVED (R598). -/
  | regRdReceived (at_ : RegPlace) (m : CMsg)
  /-- REG_WR_RECEIVED (R598). -/
  | regWrReceived (at_ : RegPlace) (m : CMsg)
  /-- REG_ANS_RECEIVED (R598). -/
  | regAnsReceived (m : CMsg)
  /-- REG_ANSWER_TIMEOUT (R598). -/
  | regAnswerTimeout
  /-- BLK_ATTN_READ (R600). -/
  | blkAttnRead (q : Req)
  /-- REGISTER_WRITE (R595). -/
  | registerWrite (q : Req)
  /-- REGISTER_READ (R595). -/
  | registerRead (q : Req)
  /-- PATTERN_CHECKER_RECEIVE (R353). -/
  | patternCheckerReceive (n lane : Nat) (bits : List Bool)
  /-- TIDE_EXCHANGE_TIMER (R45). -/
  | tideExchangeTimer (n : Nat)
  /-- LANE_LOSS_OF_SIGNAL (R337). -/
  | laneLossOfSignal (n lane : Nat)
  /-- SLICE_EVENT (R589). -/
  | sliceEvent (sl : Nat) (code : Byte) (full : Bool)
  /-- HARVEST_N_RELEASE (R514). -/
  | harvestNRelease
  deriving DecidableEq, Repr

end Sys2Proof
end

