-- ==== Sys2Proof/Decode.lean ====
section
/-! DEFINITION. The commands that words spell: none, since spec/opcode_table.json gives no row bits. -/

namespace Sys2Proof

/-- The command that a word spells by the table's bits. No row of the table has bits, so no word spells a command. -/
def decodeTableWord (_nbits _w : Nat) : Option Instr := none

end Sys2Proof
end

