-- ==== Sys2Proof/Machine/Bits.lean ====
section
/-! DEFINITION. Bit fields, little-endian bytes, saturating counters, rotation and the CRCs of the manual: plain helpers that
every other file of the machine uses. -/

namespace Sys2Proof.Machine

/-- Bits `hi:lo` of a number (00_scope.md, bit ranges). -/
def bits (v hi lo : Nat) : Nat := (v >>> lo) % 2 ^ (hi + 1 - lo)

/-- Bit `k` of a number. -/
def bit (v k : Nat) : Bool := v.testBit k

/-- `b` as a bit. -/
def b2n (b : Bool) : Nat := if b then 1 else 0

/-- The `n` low bytes of `v`, lowest first (00_scope.md, byte order). -/
def bytesOf : Nat → Nat → List Byte
  | 0, _ => []
  | n + 1, v => BitVec.ofNat 8 v :: bytesOf n (v / 256)

/-- The number whose bytes, lowest first, are `bs`. -/
def natOf : List Byte → Nat
  | [] => 0
  | b :: bs => b.toNat + 256 * natOf bs

/-- Bytes `i` to `i + n - 1` of `bs`, 0 where there are none. -/
def slice (bs : List Byte) (i n : Nat) : List Byte :=
  let c := (bs.drop i).take n
  c ++ List.replicate (n - c.length) 0

/-- The little-endian number in bytes `i` to `i + n - 1` of `bs`. -/
def leAt (bs : List Byte) (i n : Nat) : Nat := natOf ((bs.drop i).take n)

/-- `bs` cut into pieces of `n` bytes, the last perhaps shorter; `fuel` bounds the pieces. -/
def chunksF {α : Type} (n : Nat) : Nat → List α → List (List α)
  | 0, _ => []
  | _, [] => []
  | f + 1, bs => bs.take n :: chunksF n f (bs.drop n)

/-- `bs` cut into pieces of `n` bytes. -/
def chunks {α : Type} (n : Nat) (bs : List α) : List (List α) := chunksF n bs.length bs

/-- An 8-bit event counter that saturates at 255. -/
def inc8 (c : BitVec 8) : BitVec 8 := if c = 255 then c else c + 1

/-- An 8-bit event counter raised by `n`, saturating at 255. -/
def add8 (c : BitVec 8) (n : Nat) : BitVec 8 := BitVec.ofNat 8 (min 255 (c.toNat + n))

/-- A counter of `w` bits raised by `n`, saturating at its highest value. -/
def satAdd {w : Nat} (c : BitVec w) (n : Nat) : BitVec w := BitVec.ofNat w (min (2 ^ w - 1) (c.toNat + n))

/-- `v` limited to `lo .. hi`. -/
def clampI (lo hi v : Int) : Int := if v < lo then lo else if v > hi then hi else v

/-- The upper limit of a division rounded up. -/
def ceilDiv (a b : Nat) : Nat := (a + b - 1) / b

/-- A 32-bit word rotated left by `n`. -/
def rotl32 (w : Word) (n : Nat) : Word := w.rotateLeft n

/-- One bit of a reflected CRC. -/
def crcBit {w : Nat} (poly c : BitVec w) : BitVec w := if c.getLsbD 0 then (c >>> 1) ^^^ poly else c >>> 1

/-- One byte of a reflected CRC of width `w`. -/
def crcByte {w : Nat} (poly c : BitVec w) (b : Byte) : BitVec w :=
  let c := c ^^^ b.setWidth w
  crcBit poly (crcBit poly (crcBit poly (crcBit poly (crcBit poly (crcBit poly (crcBit poly (crcBit poly c)))))))

/-- CRC-32, polynomial 0x04C1_1DB7, reflected, initial and final all ones. -/
def crc32 (bs : List Byte) : BitVec 32 := ~~~(bs.foldl (crcByte (0xEDB88320 : BitVec 32)) 0xFFFFFFFF)

/-- The least set index of a predicate below `n`, if there is one. -/
def firstBelow (p : Nat → Bool) (n : Nat) : Option Nat := (List.range n).find? p

/-- `l` with element `i` replaced by `v`. -/
def setAt {α : Type} (l : List α) (i : Nat) (v : α) : List α := l.set i v

/-- Element `i` of `l`, or `d`. -/
def nth {α : Type} (d : α) (l : List α) (i : Nat) : α := (l[i]?).getD d

/-- The first element of `l` that meets `p` becomes `v`. -/
def replaceFirst {α : Type} (p : α → Bool) (v : α) : List α → List α
  | [] => []
  | x :: xs => if p x then v :: xs else x :: replaceFirst p v xs

/-- Whether bit `k` of a bitmap held as a number is set, with bit `k mod 8` of byte `k / 8` (R132). -/
def bitmapBytes (n m : Nat) : List Byte := bytesOf n m

end Sys2Proof.Machine
end

