-- ==== Sys2Proof/Machine/Codec.lean ====
section
/-! DEFINITION. The bits of what travels: T-plane headers (R71), C-plane headers (R274), control records (R209), frame
headers (R363) and keeper messages (R339), each as an encoder and a decoder over the same layout table, and packets and
messages cut into flits (R67, R271). -/

namespace Sys2Proof.Machine

/-- Word 0 of a T-plane header (R71); reserved bits are sent as 0. -/
def thdrW0 (h : THdr) : Word64 :=
  (0 : BitVec 1) ++ h.prio ++ h.route ++ h.stile ++ h.snode ++ h.pan ++ h.dtile ++ h.dnode ++ h.dmode ++ h.type ++ h.vc

/-- Word 1 of a T-plane header (R71); reserved bits are sent as 0. -/
def thdrW1 (h : THdr) : Word64 :=
  (0 : BitVec 7) ++ h.e2e ++ h.resend ++ h.last ++ h.plen ++ h.pcnt ++ h.pidx ++ h.mseq

/-- Word 2 of a T-plane header (R71); reserved bits are sent as 0. -/
def thdrW2 (h : THdr) : Word64 :=
  h.e2eseq ++ h.drank ++ h.srank

/-- Word 3 of a T-plane header (R71); reserved bits are sent as 0. -/
def thdrW3 (h : THdr) : Word64 :=
  (0 : BitVec 8) ++ h.qepoch ++ h.addr

/-- Word 4 of a T-plane header (R71); reserved bits are sent as 0. -/
def thdrW4 (h : THdr) : Word64 :=
  (0 : BitVec 12) ++ h.fmt ++ h.op ++ h.child ++ h.seg ++ h.coll

/-- Word 5 of a T-plane header (R71); reserved bits are sent as 0. -/
def thdrW5 (h : THdr) : Word64 :=
  h.tstamp ++ h.sig

/-- Word 6 of a T-plane header (R71); reserved bits are sent as 0. -/
def thdrW6 (h : THdr) : Word64 :=
  h.w6

/-- Word 7 of a T-plane header (R71); reserved bits are sent as 0. -/
def thdrW7 (h : THdr) : Word64 :=
  (0 : BitVec 32) ++ h.ctag

/-- The 64 bytes of a T-plane header (R71), little-endian words in order. -/
def thdrBytes (h : THdr) : List Byte :=
  bytesOf 8 (thdrW0 h).toNat ++ bytesOf 8 (thdrW1 h).toNat ++ bytesOf 8 (thdrW2 h).toNat ++ bytesOf 8 (thdrW3 h).toNat ++ bytesOf 8 (thdrW4 h).toNat ++ bytesOf 8 (thdrW5 h).toNat ++ bytesOf 8 (thdrW6 h).toNat ++ bytesOf 8 (thdrW7 h).toNat

/-- The fields of a T-plane header (R71) read from its words; reserved bits are ignored (R72). -/
def thdrOfWords (w0 w1 w2 w3 w4 w5 w6 w7 : Word64) : THdr :=
  { prio := w0.extractLsb' 60 3
    route := w0.extractLsb' 58 2
    stile := w0.extractLsb' 49 9
    snode := w0.extractLsb' 37 12
    pan := w0.extractLsb' 29 8
    dtile := w0.extractLsb' 20 9
    dnode := w0.extractLsb' 8 12
    dmode := w0.extractLsb' 6 2
    type := w0.extractLsb' 2 4
    vc := w0.extractLsb' 0 2
    e2e := w1.extractLsb' 56 1
    resend := w1.extractLsb' 55 1
    last := w1.extractLsb' 54 1
    plen := w1.extractLsb' 42 12
    pcnt := w1.extractLsb' 29 13
    pidx := w1.extractLsb' 16 13
    mseq := w1.extractLsb' 0 16
    e2eseq := w2.extractLsb' 40 24
    drank := w2.extractLsb' 20 20
    srank := w2.extractLsb' 0 20
    qepoch := w3.extractLsb' 48 8
    addr := w3.extractLsb' 0 48
    fmt := w4.extractLsb' 48 4
    op := w4.extractLsb' 44 4
    child := w4.extractLsb' 36 8
    seg := w4.extractLsb' 16 20
    coll := w4.extractLsb' 0 16
    tstamp := w5.extractLsb' 32 32
    sig := w5.extractLsb' 0 32
    w6 := w6
    ctag := w7.extractLsb' 0 32 }

/-- The T-plane header (R71) at the front of `bs`. -/
def thdrOfBytes (bs : List Byte) : THdr :=
  thdrOfWords (BitVec.ofNat 64 (leAt bs 0 8)) (BitVec.ofNat 64 (leAt bs 8 8)) (BitVec.ofNat 64 (leAt bs 16 8)) (BitVec.ofNat 64 (leAt bs 24 8)) (BitVec.ofNat 64 (leAt bs 32 8)) (BitVec.ofNat 64 (leAt bs 40 8)) (BitVec.ofNat 64 (leAt bs 48 8)) (BitVec.ofNat 64 (leAt bs 56 8))

/-- Word 0 of a link-frame header (R363); reserved bits are sent as 0. -/
def fhdrW0 (h : FHdr) : Word64 :=
  (0 : BitVec 16) ++ h.crcnt ++ h.crvc ++ h.det ++ h.nak ++ h.ackseq ++ h.fseq ++ h.nblk ++ h.last ++ h.first ++ h.vc ++ h.ftype

/-- Word 1 of a link-frame header (R363); reserved bits are sent as 0. -/
def fhdrW1 (h : FHdr) : Word64 :=
  (0 : BitVec 30) ++ h.sph ++ h.stide

/-- Word 2 of a link-frame header (R363); reserved bits are sent as 0. -/
def fhdrW2 (h : FHdr) : Word64 :=
  (0 : BitVec 52) ++ h.cid

/-- Word 3 of a link-frame header (R363); reserved bits are sent as 0. -/
def fhdrW3 (h : FHdr) : Word64 :=
  h.crc ++ (0 : BitVec 32)

/-- The 32 bytes of a link-frame header (R363), little-endian words in order. -/
def fhdrBytes (h : FHdr) : List Byte :=
  bytesOf 8 (fhdrW0 h).toNat ++ bytesOf 8 (fhdrW1 h).toNat ++ bytesOf 8 (fhdrW2 h).toNat ++ bytesOf 8 (fhdrW3 h).toNat

/-- The fields of a link-frame header (R363) read from its words; reserved bits are ignored (R72). -/
def fhdrOfWords (w0 w1 w2 w3 : Word64) : FHdr :=
  { crcnt := w0.extractLsb' 38 10
    crvc := w0.extractLsb' 35 3
    det := w0.extractLsb' 34 1
    nak := w0.extractLsb' 33 1
    ackseq := w0.extractLsb' 23 10
    fseq := w0.extractLsb' 13 10
    nblk := w0.extractLsb' 8 5
    last := w0.extractLsb' 7 1
    first := w0.extractLsb' 6 1
    vc := w0.extractLsb' 4 2
    ftype := w0.extractLsb' 0 4
    sph := w1.extractLsb' 32 2
    stide := w1.extractLsb' 0 32
    cid := w2.extractLsb' 0 12
    crc := w3.extractLsb' 32 32 }

/-- The link-frame header (R363) at the front of `bs`. -/
def fhdrOfBytes (bs : List Byte) : FHdr :=
  fhdrOfWords (BitVec.ofNat 64 (leAt bs 0 8)) (BitVec.ofNat 64 (leAt bs 8 8)) (BitVec.ofNat 64 (leAt bs 16 8)) (BitVec.ofNat 64 (leAt bs 24 8))

/-- The 128 bits of a C-plane header flit (R274). -/
def chdrBits (h : CHdr) : BitVec 128 :=
  h.mseq ++ h.epoch ++ h.alive ++ h.index ++ h.pan ++ h.stile ++ h.snode ++ h.dtile ++ h.dnode ++ h.plen ++ h.resend ++ (0 : BitVec 1) ++ h.mkind ++ h.arg

/-- The fields of a C-plane header flit (R274). -/
def chdrOfBits (w : BitVec 128) : CHdr :=
  { mseq := w.extractLsb' 112 16
    epoch := w.extractLsb' 104 8
    alive := w.extractLsb' 100 4
    index := w.extractLsb' 94 6
    pan := w.extractLsb' 86 8
    stile := w.extractLsb' 77 9
    snode := w.extractLsb' 65 12
    dtile := w.extractLsb' 56 9
    dnode := w.extractLsb' 44 12
    plen := w.extractLsb' 38 6
    resend := w.extractLsb' 37 1
    mkind := w.extractLsb' 32 4
    arg := w.extractLsb' 0 32 }

/-- The 128 bits of a control record (R209). -/
def ctlBits (h : Ctl) : BitVec 128 :=
  (0 : BitVec 43) ++ h.arg ++ (0 : BitVec 28) ++ h.rank ++ h.saf ++ h.kind

/-- The fields of a control record (R209). -/
def ctlOfBits (w : BitVec 128) : Ctl :=
  { arg := w.extractLsb' 64 21
    rank := w.extractLsb' 16 20
    saf := w.extractLsb' 8 8
    kind := w.extractLsb' 0 8 }

/-- The 16 bytes of a control record, low byte first. -/
def ctlBytes (c : Ctl) : List Byte := bytesOf 16 (ctlBits c).toNat

/-- The control record in the first 16 bytes of a payload. -/
def ctlOfBytes (bs : List Byte) : Ctl := ctlOfBits (BitVec.ofNat 128 (leAt bs 0 16))

/-- The width of a T-plane flit in bytes (R67). -/
def flitW : Build → Nat
  | .hfE => 128
  | .hfS => 256

/-- The flits a packet of `plen` payload bytes occupies (R67). -/
def flitsOf (b : Build) (plen : Nat) : Nat := ceilDiv (64 + plen) (flitW b)

/-- The flits of one maximum packet: 17 or 9 (R70). -/
def maxFlits (b : Build) : Nat := flitsOf b 2048

/-- The byte stream of a packet: its header and then its payload (R67). -/
def pktBytes (p : Pkt) : List Byte := thdrBytes p.hdr ++ p.data

/-- The flits of a packet, the last filled with 0 (R67, R68). -/
def pktFlits (b : Build) (p : Pkt) : List Flit :=
  let n := flitsOf b p.data.length
  let bs := pktBytes p
  (List.range n).map fun i =>
    { vc := p.hdr.vc, head := i = 0, tail := i + 1 = n, kill := false, data := slice bs (i * flitW b) (flitW b) }

/-- The packet whose flits hold the bytes `bs`: the header and as many payload bytes as `PLEN` says (R67). -/
def pktOfBytes (bs : List Byte) : Pkt :=
  let h := thdrOfBytes bs
  { hdr := h, data := slice bs 64 h.plen.toNat }

/-- The 16 bytes of a C-plane header flit. -/
def chdrBytes (h : CHdr) : List Byte := bytesOf 16 (chdrBits h).toNat

/-- The C-plane header in the first 16 bytes. -/
def chdrOfBytes (bs : List Byte) : CHdr := chdrOfBits (BitVec.ofNat 128 (leAt bs 0 16))

/-- The flits of a C-plane message (R271): a header flit and the payload in 16-byte pieces. -/
def cmsgFlits (m : CMsg) : List CFlit :=
  let n := 1 + ceilDiv m.data.length 16
  (List.range n).map fun i =>
    { vc := if m.hdr.mkind = 2 ∨ m.hdr.mkind = 5 ∨ m.hdr.mkind = 7 ∨ m.hdr.mkind = 11 then 1 else 0
      head := i = 0, tail := i + 1 = n
      data := if i = 0 then chdrBytes m.hdr else slice m.data ((i - 1) * 16) 16 }

/-- The C-plane message whose flits hold the bytes `bs` (R271). -/
def cmsgOfBytes (bs : List Byte) : CMsg :=
  let h := chdrOfBytes bs
  { hdr := h, data := slice bs 16 h.plen.toNat }

/-- One byte of the keeper's CRC-16: polynomial 0x1021, not reflected (R339). -/
def crc16Byte (c : BitVec 16) (b : Byte) : BitVec 16 :=
  let step (c : BitVec 16) : BitVec 16 := if c.getLsbD 15 then (c <<< 1) ^^^ 0x1021 else c <<< 1
  step (step (step (step (step (step (step (step (c ^^^ (b.setWidth 16 <<< 8)))))))))

/-- The keeper's CRC-16: initial value 0xFFFF and no final XOR (R339). -/
def crc16 (bs : List Byte) : BitVec 16 := bs.foldl crc16Byte 0xFFFF

/-- The bytes of a keeper message that its CRC covers: `KTYPE`, `KSEQ` and the payload (R339). -/
def kmsgCovered (k : KMsg) : List Byte := k.ktype :: k.kseq :: k.data

/-- The characters a keeper message takes on the lane (R339). -/
def kmsgChars (k : KMsg) : List KChar :=
  .k27_7 :: (kmsgCovered k ++ bytesOf 2 (crc16 (kmsgCovered k)).toNat).map .d ++ [.k29_7]

/-- The CRC of a frame: header bytes 0 to 27 and the payload (R364). -/
def frameCrc (f : Frame) : BitVec 32 := crc32 ((fhdrBytes f.hdr).take 28 ++ f.data)

/-- A frame with its CRC written. -/
def frameSeal (f : Frame) : Frame := { f with hdr := { f.hdr with crc := frameCrc f } }

/-- Logical x of a 9-bit tile id (R71). -/
def tileX (t : Nat) : Nat := t / 16

/-- Logical y of a 9-bit tile id (R71). -/
def tileY (t : Nat) : Nat := t % 16

/-- The 9-bit logical tile id of L(x,y) (R71). -/
def tileId (x y : Nat) : Nat := 16 * x + y

end Sys2Proof.Machine
end

