-- ==== Sys2Proof/Machine/Flags.lean ====
section
/-! DEFINITION. The tables of codes: NACK codes (R95), register completion codes (R596), the fault sources with class,
scope and default action (R459), units (R454), and which faults mark the block degraded (R473). -/

namespace Sys2Proof.Machine

/-- NACK codes (R95). -/
def nNotReady : Nat := 1
def nClosed : Nat := 2
def nStale : Nat := 3
def nFenced : Nat := 4
def nBounds : Nat := 5
def nPan : Nat := 6
def nMismatch : Nat := 7
def nBusy : Nat := 8
def nIncomplete : Nat := 9
/-- Completion code ERROR of R585 and R587. -/
def nError : Nat := 15

/-- Register completion codes (R596). -/
def rOk : Nat := 0
def rDenied : Nat := 1
def rAbsent : Nat := 2
def rBusy : Nat := 3
def rStale : Nat := 4
def rError : Nat := 5

/-- The scope of a fault (R459). -/
inductive Scope where
  | tile | link | slice | block
  /-- Several scopes, or that of the unit that reports it. -/
  | units
  deriving DecidableEq, Repr

/-- A row of R459: code, class (0 C, 1 U, 2 F), scope and default action. -/
structure FaultRow where
  code : Nat
  cls : Nat
  scope : Scope
  act : Nat
  deriving DecidableEq, Repr

/-- The fault sources of codes 0x01xx to 0x03xx (R459). -/
def faultRows1 : List FaultRow :=
  [⟨0x0101, 2, .block, 5⟩, ⟨0x0102, 2, .block, 5⟩, ⟨0x0103, 1, .units, 0⟩, ⟨0x0104, 1, .units, 0⟩, ⟨0x0105, 1, .units, 0⟩,
   ⟨0x0106, 1, .block, 0⟩, ⟨0x0201, 1, .block, 0⟩, ⟨0x0202, 1, .block, 0⟩, ⟨0x0203, 1, .block, 0⟩, ⟨0x0204, 1, .block, 0⟩,
   ⟨0x0301, 0, .tile, 0⟩, ⟨0x0302, 0, .tile, 0⟩, ⟨0x0303, 1, .tile, 0⟩, ⟨0x0304, 1, .tile, 0⟩, ⟨0x0305, 0, .tile, 0⟩,
   ⟨0x0306, 0, .units, 0⟩, ⟨0x0307, 1, .tile, 0⟩, ⟨0x0308, 1, .tile, 0⟩, ⟨0x0309, 1, .tile, 0⟩, ⟨0x030A, 1, .tile, 0⟩,
   ⟨0x0310, 1, .tile, 1⟩, ⟨0x0311, 1, .link, 2⟩, ⟨0x0312, 1, .block, 0⟩]

/-- The fault sources of codes 0x04xx to 0x06xx (R459). -/
def faultRows2 : List FaultRow :=
  [⟨0x0401, 0, .tile, 0⟩, ⟨0x0402, 0, .tile, 0⟩, ⟨0x0403, 1, .tile, 0⟩, ⟨0x0404, 1, .tile, 0⟩, ⟨0x0501, 0, .tile, 0⟩,
   ⟨0x0502, 0, .tile, 0⟩, ⟨0x0503, 1, .tile, 0⟩, ⟨0x0504, 0, .tile, 0⟩, ⟨0x0505, 0, .tile, 0⟩, ⟨0x0506, 1, .tile, 0⟩,
   ⟨0x0601, 0, .tile, 0⟩, ⟨0x0602, 0, .tile, 0⟩, ⟨0x0603, 1, .tile, 0⟩, ⟨0x0604, 1, .slice, 0⟩]

/-- The fault sources of codes 0x07xx to 0x0Cxx (R459). -/
def faultRows3 : List FaultRow :=
  [⟨0x0701, 0, .link, 0⟩, ⟨0x0702, 1, .link, 0⟩, ⟨0x0703, 1, .link, 0⟩, ⟨0x0704, 1, .link, 0⟩, ⟨0x0705, 1, .link, 2⟩,
   ⟨0x0706, 0, .link, 0⟩, ⟨0x0707, 1, .link, 0⟩, ⟨0x0801, 0, .tile, 0⟩, ⟨0x0802, 1, .tile, 1⟩, ⟨0x0803, 1, .tile, 0⟩,
   ⟨0x0804, 1, .tile, 0⟩, ⟨0x0805, 1, .tile, 0⟩, ⟨0x0806, 1, .tile, 0⟩, ⟨0x0901, 0, .block, 0⟩, ⟨0x0A01, 1, .block, 0⟩,
   ⟨0x0B01, 1, .block, 0⟩, ⟨0x0C01, 1, .block, 0⟩]

/-- Every fault source (R459). -/
def faultRows : List FaultRow := faultRows1 ++ faultRows2 ++ faultRows3

/-- The row of a fault code, if R459 lists it. -/
def faultRow (code : Nat) : Option FaultRow := faultRows.find? (fun r => r.code == code)

/-- The class of a fault code (R459). -/
def faultClass (code : Nat) : Nat := ((faultRow code).map (·.cls)).getD 0

/-- The codes that set DEGRADED (R470, R473). -/
def degrades (code : Nat) : Bool := code ∈ [0x0707, 0x0802, 0x0803, 0x0804, 0x0805, 0x0806]

/-- Unit types (R454). -/
def uT : Nat := 0
def uM : Nat := 1
def uC : Nat := 2
def uSi : Nat := 3
def uCu : Nat := 4
def uQ : Nat := 5
def uLock : Nat := 6
def uPhy : Nat := 7
def uLink : Nat := 8
def uSlice : Nat := 9
def uBlock : Nat := 10

/-- A unit id (R454). -/
def unitId (ty idx : Nat) : Nat := ty * 4096 + idx

end Sys2Proof.Machine
end

