-- ==== Sys2Proof/Machine/Parts.lean ====
section
/-! DEFINITION. The parts of the state that the chapters on the grid, the tide, the T-plane, its messages, routing,
multicast, slots and arbitration name (R12 to R167, R602, R603), as plain data. Each field's docstring names its rule. -/

namespace Sys2Proof.Machine

/-! ## What leaves the block -/

/-- A fault as its unit reports it (R455, R456): the rail report and the FAULT message's fields. -/
structure FaultMsg where
  unit : BitVec 16
  code : BitVec 16
  /-- 0 C, 1 U, 2 F (R456). -/
  cls : BitVec 2
  tick : BitVec 32
  detT : BitVec 16
  detN : BitVec 16
  detV : BitVec 32
  deriving DecidableEq, Repr, Inhabited

/-- What a unit puts on a wire or a port, in order: the record of the block's outputs. Wires inside the block are here too,
since what arrives at their far end is a command of its own. -/
inductive OutEv where
  /-- A T-plane flit leaves tile `t` by output `port` (R68). -/
  | tFlit (t port : Nat) (f : Flit)
  /-- A circuit flit leaves tile `t` by output `port` (R148). -/
  | tCirc (t port cid : Nat) (f : Flit)
  /-- A contribution's packet passes from the SI to the own tile's CU without entering the router (R199). -/
  | cuPkt (t : Nat) (p : Pkt)
  /-- A circuit packet that the destination SI has assembled, to be taken as an arriving packet (R150). -/
  | circPkt (t : Nat) (p : Pkt)
  /-- A credit for one flit returns from input `port` of tile `t` (R70). -/
  | tCredit (t port vc : Nat)
  /-- A C-plane flit leaves tile `t` by output `port` (R271, R272). -/
  | cFlit (t port : Nat) (f : CFlit)
  /-- A unit's report to the collector (R455, R456). -/
  | fault (f : FaultMsg)
  /-- A completion or a receive notice on CMP (R585): CMP_KIND and CMP_DATA. -/
  | cmp (t kind : Nat) (data : BitVec 128)
  /-- A reply on MSGR (R587). -/
  | msgr (t : Nat) (tag : BitVec 4) (data : List Byte)
  /-- A dispatch record on DSP (R284). -/
  | dsp (t : Nat) (w : Word)
  /-- Bytes written into client memory on the TP write channel (R581). -/
  | tpWrite (t addr : Nat) (data : List Byte)
  /-- A TP read request: address, bytes, tag (R581). -/
  | tpRead (t addr len tag : Nat)
  /-- An MP return (R581). -/
  | mpr (t : Nat) (tag : BitVec 8) (st : Nat) (data : List Byte)
  /-- A PWR grant to the client (R581). -/
  | pwrGrant (t : Nat) (w : Word)
  /-- An M-plane message leaves tile `t` by `port` on sub-channel `sub` (R307). -/
  | mMsg (t port sub : Nat) (m : MMsg)
  /-- A request at a slice port (R589): write, address, length, tag, data. -/
  | slq (sl : Nat) (wr : Bool) (addr len tag : Nat) (data : List Byte)
  /-- A scan READ's return, on its way to check unit `u`, with the number of the READ there (R536). -/
  | scanRet (u k : Nat) (ok : Bool) (data : List Byte)
  /-- A frame handed to a link's lanes (R363). -/
  | frame (n : Nat) (f : Frame)
  /-- Bits on physical lane `k` of link `n`, a codeword's or a test pattern's, as PAM4 levels (R332, R353). -/
  | levels (n k : Nat) (l : List (BitVec 2))
  /-- A frame that the receive stream of link `n` holds whole, on its way to the link layer (R336, R363). -/
  | rxFrame (n : Nat) (f : Frame)
  /-- A character handed to the keeper lane's PHY, and the 8b/10b code that it takes, the first bit sent in bit 9 (R338). -/
  | kchar (n : Nat) (c : KChar) (code : BitVec 10)
  /-- A keeper message that the receiver has taken, on its way to the unit it is for (R339). -/
  | keeper (n : Nat) (k : KMsg)
  /-- A control-port reply (R591). -/
  | reply (w : BitVec 64)
  /-- A trace codeword on TRC_TX (R507), or its relayed copy. -/
  | trace (data : List Byte)
  /-- CRST_BUSY of a tile's client port (R588). -/
  | crstBusy (t : Nat) (level : Bool)
  /-- The pins ERR_N, HARVEST_N and TRC_PASS change (R465, R486, R509). -/
  | pin (name : String) (level : Bool)
  deriving DecidableEq, Repr

/-! ## The grid (01) -/

/-- A row held for a new map (R16): the new field entry's effect and when the row must have drained. -/
structure RowHold where
  /-- The removed column and its source under the new map (R13). -/
  col : Nat
  src : Nat
  /-- The fc 2 ms after the switch-over tick. -/
  deadline : Nat
  deriving DecidableEq, Repr, Inhabited

/-- What SPARE_MAP_y and R13 to R16 hold of one row. -/
structure Row where
  /-- The factory fuse entry (FUSE_VLD, FUSE_COL). -/
  fuse : Option Nat
  /-- The active image's field entry (FIELD_VLD, FIELD_COL). -/
  field : Option Nat
  /-- The removed column in force (COL) and its source (SRC). -/
  col : Nat
  src : Nat
  /-- A fenced tile of the row (HOLE, HOLE_COL). -/
  hole : Option Nat
  /-- The row waits to switch to a new map (R16). -/
  hold : Option RowHold
  deriving DecidableEq, Repr, Inhabited

/-- One asynchronous crossing that R34 watches. -/
structure Crossing where
  /-- It timed out and refuses transfers until R35 reopens it. -/
  shut : Bool
  /-- Its fault has been cleared since it timed out (R35). -/
  cleared : Bool
  deriving DecidableEq, Repr, Inhabited

/-! ## The tide (02) -/

/-- TIDE_CFG (R64). -/
structure TideCfg where
  enable : Bool
  master : Bool
  backupVld : Bool
  holdMs : BitVec 8
  backup : BitVec 8
  parent : BitVec 8
  deriving DecidableEq, Repr, Inhabited

/-- What a burst is for (R45 to R47, R50, R53, R54, R61). -/
inductive BurstUse where
  /-- TIDE_LDLY_n only (R46, R61). -/
  | measure
  /-- A first alignment or REALIGN (R47, R57). -/
  | align
  /-- The steering period (R50). -/
  | steer
  /-- On the backup at the loss of the parent (R53). -/
  | holdover
  /-- Re-entry from HOLDOVER when the parent or a backup returns (R54). -/
  | rejoin
  deriving DecidableEq, Repr, Inhabited

/-- A burst in progress on a link (R45). -/
structure Burst where
  use : BurstUse
  /-- Exchanges started, and exchanges whose TIDE_PONG has come. -/
  sent : Nat
  done : Nat
  /-- `c1` of the exchanges whose TIDE_PONG is awaited, by exchange index, in fc. -/
  c1 : Tab (BitVec 64)
  /-- The least round trip so far, with its offset and delay. -/
  best : Option (Int × Int × Int)
  /-- The fc at which the next TIDE_PING leaves (1 µs apart). -/
  next : Nat
  deriving DecidableEq, Repr, Inhabited

/-- The result recorded in TIDE_LDLY_n (R46, R49, R65), at full width. -/
structure LDly where
  ofs : Int
  dly : Int
  deriving DecidableEq, Repr, Inhabited

/-- The tide logic (02). -/
structure Tide where
  /-- The tide count (R38). -/
  count : BitVec 64
  /-- The phase within the tick, 0 to 3 (R38). -/
  phase : Nat
  /-- TIDE_STAT.STATE: 0 FREE, 1 ALIGNING, 2 LOCKED, 3 HOLDOVER (R60). -/
  state : BitVec 2
  oob : Bool
  sat : Bool
  onBackup : Bool
  /-- TIDE_STAT.DEPTH as received, capped by its field (R44, R60). -/
  depth : BitVec 3
  /-- The accumulated error, in fc (R51). -/
  accErr : Int
  /-- The trim in units of 0.05 ppm (R50). -/
  trim : Int
  /-- err_prev (R50). -/
  errPrev : Int
  /-- The offset of the last burst on the parent or backup link, at full width (R49, R63). -/
  ofs : Int
  /-- The signed step of the last alignment (R66). -/
  step : Int
  /-- TIDE_LOAD (R62). -/
  load : BitVec 64
  cfg : TideCfg
  /-- TIDE_LDLY_n of each link that has completed a burst since it came up (R46). -/
  ldly : Tab LDly
  /-- The depth and the accumulated error in the last TIDE_PONG of each link (R44, R51). -/
  heard : Tab (Nat × Int)
  /-- Bursts in progress by link (R45). -/
  burst : Tab Burst
  /-- A burst's pongs leave by 1 ms of the parent link's becoming active (R47). -/
  alignDue : Option Nat
  /-- The next steering burst (R50). -/
  steerDue : Option Nat
  /-- HOLD_MS after the entry to HOLDOVER (R54). -/
  holdDue : Option Nat
  /-- A burst at the return of the parent or a backup lay beyond 8 fc: only REALIGN ends this HOLDOVER (R54). -/
  far : Bool
  /-- The link a first alignment runs on: the parent, or the backup after a timeout (R47). -/
  alignOn : Option Nat
  /-- ENABLE has been set with MASTER and the next phase 0 loads the count (R55). -/
  loadPend : Bool
  /-- TIDE_OOB suspends cross-chip circuits (R51, R54). -/
  suspended : Bool
  /-- The windows' captures of TIDE_NOW_HI and TIDE_STEP_HI (R59, R66). -/
  nowHi : Tab Word
  stepHi : Tab Word
  deriving DecidableEq, Repr, Inhabited

/-- The tide logic after reset: TIDE_CFG.HOLD_MS 10 (R64), every other field 0. -/
def Tide.init : Tide := { (default : Tide) with cfg := { (default : TideCfg) with holdMs := 10 } }

/-! ## The T-plane router (03, 04, 05) -/

/-- One branch of a buffered packet: the output that takes it and the flits that output has sent (R128). -/
structure Branch where
  port : Nat
  sent : Nat
  /-- The output has granted the packet. -/
  won : Bool
  deriving DecidableEq, Repr, Inhabited

/-- A packet in an input VC buffer (R70). -/
structure BufPkt where
  hdr : THdr
  /-- Its whole flit count. -/
  total : Nat
  /-- The flits received so far, first one first. -/
  got : List Flit
  /-- Flits whose buffer place has been freed. -/
  freed : Nat
  /-- The ft at which it came, for the age of its wait (R512). -/
  since : Nat
  /-- Two outputs to choose between until one grants (R108); empty otherwise. -/
  cands : List Nat
  branches : List Branch
  deriving DecidableEq, Repr, Inhabited

/-- One VC's buffer at one input port. -/
structure VcBuf where
  pkts : List BufPkt
  /-- Flits are discarded until the next TAIL flit (R69). -/
  disc : Bool
  deriving DecidableEq, Repr, Inhabited

/-- A circuit flit in an input's skid (R149): the circuit, the flit and the fc it must leave in. -/
structure SkidFlit where
  cid : Nat
  flit : Flit
  due : Nat
  deriving DecidableEq, Repr, Inhabited

/-- One bank of an output's slot table (R141, R603): the transit map, and the listed entries over it. -/
structure Bank where
  tmap : BitVec 256
  entries : List (Nat × Word)
  deriving DecidableEq, Repr, Inhabited

/-- The transit map of a full image without a SLOT section: every index with i mod 16 = 15 (R603). -/
def Bank.defaultMap : BitVec 256 := 0x8000800080008000800080008000800080008000800080008000800080008000

/-- The table an output has where no SLOT section has defined one (R603). -/
def Bank.absent : Bank := { tmap := Bank.defaultMap, entries := [] }

/-- One T-plane output port (R70, R141, R154 to R162). -/
structure OutPort where
  /-- The requester that holds the port, index 4n + VC (R156). -/
  holder : Option Nat
  /-- The first fc in which the holder's head may cross (R157). -/
  headAt : Nat
  /-- The requester whose tail last crossed (R157, R158). -/
  last : Option Nat
  /-- Packets granted consecutively to the holder (R160). -/
  burst : Nat
  /-- The eight round-robin pointers; an unlisted level is 0 (R156). -/
  ptr : Tab Nat
  /-- The transit balance (R154). -/
  tbal : Nat
  /-- Flits sent or reserved per downstream VC and not yet credited (R70). -/
  used : Tab Nat
  /-- The free credits per VC that the port held at the start of the fc given, in which they have changed (R108). -/
  held : Option (Nat × Tab Nat)
  /-- The port faces a fenced router or a lost link (R114, R376). -/
  dead : Bool
  bank0 : Bank
  bank1 : Bank
  deriving DecidableEq, Repr

/-- An output port after reset. -/
def OutPort.init : OutPort :=
  { holder := none, headAt := 0, last := none, burst := 0, ptr := [], tbal := 0, used := [], held := none, dead := false,
    bank0 := Bank.absent, bank1 := Bank.absent }

/-- A register value that takes effect some fc after its write (R159, R162). -/
structure Delayed where
  value : Word
  at_ : Nat
  deriving DecidableEq, Repr, Inhabited

/-- The T-plane router of a stop. -/
structure Router where
  /-- VC buffers, keyed by 4 * input + VC (R70). -/
  bufs : Tab VcBuf
  /-- Output ports by n: 0 N, 1 E, 2 S, 3 W, 4 SI, 5 + j ring port j (R156). -/
  outs : Tab OutPort
  /-- Circuit skids by input (R149). -/
  skid : Tab (List SkidFlit)
  /-- Circuits whose flits are discarded until their next first flit (R149). -/
  cdisc : List Nat
  /-- Ports that were dead at some time since the last bank swap (R151). -/
  ceasedPorts : List Nat
  /-- STOP_PRIO as written, and a value on its way to the arbiters (R159, R161). -/
  prio : Word
  prioNext : List Delayed
  /-- STOP_ARB (R162). -/
  arb : Word
  arbNext : List Delayed
  /-- STOP_SLOT_IDX (R163). -/
  slotIdx : Word
  /-- STOP_SLOT_STAT.CDROP and MISPL (R165). -/
  cdrop : BitVec 8
  mispl : BitVec 8
  deriving DecidableEq, Repr

/-- A router after reset: STOP_ARB.BURST is 4 and every other register 0 (R161, R162). -/
def Router.init : Router :=
  { bufs := [], outs := [], skid := [], cdisc := [], ceasedPorts := [], prio := 0, prioNext := [], arb := 0x00040000,
    arbNext := [], slotIdx := 0, cdrop := 0, mispl := 0 }

/-- The routing tables of a stop (R105, R109, R125), entries that are not listed being 0 (invalid). -/
structure Routes where
  route : Tab (BitVec 16)
  egress : Tab Word
  tree : Tab Word
  /-- Entries of a fence route set that switch in at a named tick (R116). -/
  shadowRoute : Tab (BitVec 16)
  shadowTree : Tab Word
  /-- STOP_RT_IDX (R135). -/
  rtIdx : Word
  /-- STOP_FENCE (R137). -/
  clientFenced : Bool
  routerFenced : Bool
  setActive : Bool
  /-- The route entries of the fence route set in force at this stop (R116, R308). -/
  setRoute : Tab (BitVec 16)
  fnack : BitVec 8
  noroute : BitVec 8
  deriving DecidableEq, Repr, Inhabited

/-- The sluice of a stop (R120 to R123, R138, R139). -/
structure Sluice where
  level : Nat
  eff : Nat
  floor : Nat
  /-- A FLOOR that the arbiter has written and the next evaluation takes (R122). -/
  floorNext : Nat
  metric : BitVec 8
  peak : BitVec 8
  balance : Int
  deriving DecidableEq, Repr, Inhabited

/-! ## Messages (03, 04) -/

/-- What a result or control record sent down a tree of a collective is (R209, R249, R255, R258). -/
inductive Down where
  | launch
  | seg (s : Nat)
  | final
  | abort
  | order
  deriving DecidableEq, Repr, Inhabited

/-- Whose message it is, and what its end does. -/
inductive MsgOwner where
  /-- A descriptor of the client (R583). -/
  | desc
  /-- A unicast copy of the multicast message with the SI's number `parent` (R133). -/
  | copyOf (parent : Nat)
  /-- A collective's data message of a member (R242 to R246). -/
  | member (coll : Nat)
  /-- A group of relay entries that holds a higher tree's message (R397 to R399). -/
  | relay (entry : Nat)
  /-- A member's contribution (R208): RED_UP to its plan node. -/
  | contrib (coll seg : Nat)
  /-- A plan node's partial to its parent, of the combine slot named (R213). -/
  | partialOf (slot : Nat)
  /-- A control record towards the root or the deputy (R209, R254, R257). -/
  | control (coll : Nat) (toDeputy : Bool)
  /-- A result or control record down a tree from a group root (R209, R249, R255, R258). -/
  | down (coll : Nat) (what : Down)
  /-- The reading of an all-to-all's send counts (R245): it never leaves. -/
  | counts (coll : Nat)
  deriving DecidableEq, Repr, Inhabited

/-- What an SI latched when a command's descriptor reached its entry point (R511): start tick and C0 to C4. -/
structure CmdStart where
  tick : Word
  c0 : Word
  c1 : Word
  c2 : Word
  c3 : Word
  c4 : Word
  deriving DecidableEq, Repr, Inhabited

/-- A command record (R511, R530). -/
structure CmdRec where
  ctag : Word
  dkind : Nat
  code : Nat
  start : CmdStart
  /-- The end tick and the counters' deltas. -/
  fin : CmdStart
  deriving DecidableEq, Repr, Inhabited

/-- The counters, records and selectors of an SI's debug page (R511, R529, R530). -/
structure Probe where
  c0 : Word
  c1 : Word
  c2 : Word
  c3 : Word
  c4 : Word
  /-- Newest first, at most 16. -/
  recs : List CmdRec
  recSel : Word
  waitSel : Word
  deriving DecidableEq, Repr, Inhabited

/-- A TP read outstanding (R581, R601): whose data it is, its address, bytes and the beats so far. -/
structure TpRead where
  tag : Nat
  uid : Nat
  addr : Nat
  len : Nat
  got : List Byte
  /-- Its last beat has come. -/
  done : Bool
  deriving DecidableEq, Repr, Inhabited

/-- An end-to-end window (R380): the node, the highest E2ESEQ received, and those received within the window. -/
structure E2eWin where
  node : Nat
  top : Nat
  seen : List Nat
  deriving DecidableEq, Repr, Inhabited

/-- What the origin of a multicast holds of its targets' answers (R131 to R134). -/
structure Mcast where
  /-- The collectors' answers of the first send are awaited; the unicast copies come after. -/
  collecting : Bool
  /-- Collectors in all. -/
  need : Nat
  /-- Nodes whose collector has answered with an ACK or bitmaps, and those that had no free record in this round. -/
  got : List Nat
  noRecord : List Nat
  /-- The code of collectors that never answered, once the origin has given them up (R91, R134). -/
  silent : Option Nat
  /-- Bitmaps by node: the node, `B`, and the retry and fail bitmaps as numbers. -/
  maps : List (Nat × Nat × Nat × Nat)
  /-- Targets that failed: node, tile, code, and whether their resends ended under R91. -/
  failed : List (Nat × Nat × Nat × Bool)
  deriving DecidableEq, Repr, Inhabited

/-- A message of an SI or a CU that is waiting, in flight or backing off (R82 to R91, R133). -/
structure Msg where
  /-- The SI's own number for it. -/
  uid : Nat
  start : CmdStart
  /-- The header of packet 0, from which the others' differ by R81. -/
  hdr : THdr
  owner : MsgOwner
  /-- `DKIND` of the descriptor (R582), 0 for a message that is no descriptor's. -/
  dkind : Nat
  /-- Payload bytes in all (0 for MREAD). -/
  len : Nat
  /-- Client-local source address, and how many of the bytes are read from it; bytes beyond are 0 (R245, R583). -/
  src : Nat
  fetch : Nat
  /-- MREAD: bytes asked for; MCAST: where the final bitmaps go (R583). -/
  aux : Nat
  /-- Data in hand from the front (R601). -/
  data : List Byte
  /-- Bytes asked for on the TP read channel (R581). -/
  asked : Nat
  /-- The circuit it goes by (R150). -/
  circ : Option Nat
  /-- The fc its next packet became ready, for the order of R602. -/
  readyAt : Nat
  /-- `PIDX` of the packets to send, next first. -/
  todo : List Nat
  /-- The packets it is sending belong to a resend (R71, R89). -/
  again : Bool
  /-- It has its MSEQ and its place in flight (R82, R83). -/
  issued : Bool
  /-- Its first packet has been injected: it is in flight (R83). -/
  flown : Bool
  /-- Its packets are those of a resend under R89 or R90, which the sluice does not govern (R120). -/
  exempt : Bool
  /-- Answer timer (R90); none until the tail has left. -/
  deadline : Option Nat
  /-- Resends under R90 or NACK INCOMPLETE (R91). -/
  tries : Nat
  /-- Whole-message resends in all (R585). -/
  resends : Nat
  /-- Consecutive whole-message NOTREADY or BUSY answers (R89, R215). -/
  notReady : Nat
  /-- The end of a backoff (R89, R215). -/
  backoff : Option Nat
  /-- The code of its last answer (R91). -/
  lastCode : Option Nat
  /-- It goes as pieces of RED_SMALL on the C-plane (R277). -/
  small : Bool
  /-- A multicast's account of its targets. -/
  mc : Option Mcast
  deriving DecidableEq, Repr, Inhabited

/-- A collector record (R131). -/
structure CollRec where
  snode : Nat
  stile : Nat
  vc : Nat
  mseq : Nat
  ntgt : Nat
  /-- Targets, and the answers by target: 0 for ACK, else the NACK code. -/
  targets : List Nat
  answers : Tab Nat
  deadline : Nat
  /-- The first packet's header, from which the answer takes its PAN, CTAG and origin. -/
  hdr : THdr
  deriving DecidableEq, Repr, Inhabited

/-- A message key (R85): `SNODE`, `STILE`, `VC`, `MSEQ`. -/
structure Key where
  snode : Nat
  stile : Nat
  vc : Nat
  mseq : Nat
  deriving DecidableEq, Repr, Inhabited

/-- An open assembly (R85, R87). -/
structure Assembly where
  key : Key
  hdr : THdr
  /-- `PIDX` values received. -/
  seen : List Nat
  /-- The next `PIDX` due for delivery. -/
  next : Nat
  /-- Packets held in reorder slots. -/
  held : List Pkt
  deadline : Nat
  /-- Payload bytes delivered so far. -/
  bytes : Nat
  deriving DecidableEq, Repr, Inhabited

/-- A completed or INCOMPLETE key (R88). -/
structure DoneKey where
  key : Key
  complete : Bool
  expires : Nat
  deriving DecidableEq, Repr, Inhabited

/-- A packet ready or nearly ready for the injection port that belongs to no message of `Msg`: an answer, an MRESP packet, a
re-sent single packet (R602). -/
structure Inj where
  pkt : Pkt
  readyAt : Nat
  /-- The sluice governs it (R120). -/
  governed : Bool
  /-- Its place among descriptors and answers (R602), and the message of which it is a packet sent again (R89). -/
  place : Nat
  uid : Option Nat
  deriving DecidableEq, Repr, Inhabited

/-- A packet for a circuit (R150, R151): its owner message and the flits still to send. -/
structure CircPkt where
  cid : Nat
  /-- The SI's number of its message. -/
  uid : Nat
  pkt : Pkt
  sent : Nat
  /-- The last packet of its message's current send, whose tail starts the answer timer (R90). -/
  last : Bool
  deriving DecidableEq, Repr, Inhabited

/-- The message side of a stop interface (03, 04). -/
structure Si where
  /-- `MSEQ` the SI issues next (R82, R99). -/
  mseq : BitVec 16
  /-- MSEQ values issued, with the fc of issue (R82). -/
  issuedAt : List (Nat × Nat)
  /-- The reduction counter (R206). -/
  rseq : BitVec 16
  /-- The C-plane request counter (R276). -/
  cseq : BitVec 16
  msgs : List Msg
  asms : List Assembly
  keys : List DoneKey
  inj : List Inj
  /-- The ft from which the injection port may start the next packet: it starts one at a time (R602). -/
  injAt : Nat
  /-- Packets waiting for a circuit's slots (R150). -/
  circ : List CircPkt
  /-- The circuit packet being assembled for the client (R150). -/
  circRx : List Byte
  circOpen : Bool
  /-- Circuit packets whole in the ejection buffer that the SI has not taken (R150). -/
  circDone : List Pkt
  /-- Circuits this source treats as ceased until the next swap (R151). -/
  circCeased : List Nat
  records : List CollRec
  /-- Messages that a collector without a free record is discarding (R131). -/
  mcRefused : List Key
  /-- Closed records, newest first, with their expiry (R131). -/
  closed : List (CollRec × Nat)
  /-- TP reads outstanding, oldest first (R581). -/
  reads : List TpRead
  /-- The number the next message takes. -/
  nextUid : Nat
  /-- End-to-end windows, least recently used first (R380), and STOP_E2E (R391). -/
  e2eWins : List E2eWin
  e2eDup : BitVec 8
  e2eUnchk : BitVec 8
  /-- STOP_RST.BUSY and COUNT (R577). -/
  rstBusy : Bool
  rstCount : BitVec 8
  /-- STOP_RXLIM (R96). -/
  rxlim : Nat
  /-- STOP_RXSTAT counters (R97). -/
  incomplete : BitVec 8
  bounds : BitVec 8
  killed : BitVec 8
  /-- STOP_TXSTAT counters (R98). -/
  resent : BitVec 8
  undeliv : BitVec 8
  notready : BitVec 8
  /-- STOP_MCAST counters (R140). -/
  mcTimeout : BitVec 8
  ejdrop : BitVec 8
  brdrop : BitVec 8
  deriving DecidableEq, Repr, Inhabited

end Sys2Proof.Machine
end

