-- ==== Sys2Proof/Machine/PartsBlock.lean ====
section
/-! DEFINITION. The parts of the state of the block's own units: the fault collector, harvest, the rake, the check units, the
current arbiter, start-up and the control port (R451 to R600), as plain data. -/

namespace Sys2Proof.Machine

/-! ## Faults (16) -/

/-- A record of the fault log (R457, R478). -/
structure FltRec where
  /-- 0 EMPTY, 1 PENDING, 2 ACTED, 3 CLEARED. -/
  state : Nat
  cls : Nat
  action : Nat
  code : Nat
  count : Nat
  unit : Nat
  detV : Word
  detT : Nat
  detN : Nat
  tick : Word
  lastCode : Nat
  /-- The first code that carried the record's present class (R461). -/
  clsCode : Nat
  /-- The end of the escalation timer, while PENDING. -/
  due : Option Nat
  /-- Order of logging, for the age of class-C records (R457). -/
  age : Nat
  deriving DecidableEq, Repr, Inhabited

/-- A unit's rails (R33, R455). -/
structure Rail where
  /-- The pair has held 00 or 11 for 16 fc. -/
  broken : Bool
  /-- The state last accepted is 10: a report has been counted, and 01 not been accepted since (R33, R455). -/
  high : Bool
  /-- Reports awaiting their FAULT message: the fc by which it is due (R456). -/
  waits : List Nat
  deriving DecidableEq, Repr, Inhabited

/-- A mesh wire's corrected errors in the last 1 ms, and its swap (R471). -/
structure WireGroup where
  t : Nat
  port : Nat
  plane : Nat
  group : Nat
  /-- The wire being steered onto the spare, and the tick of the swap; the spare is then in use. -/
  wire : Nat
  swapAt : Option Nat
  deriving DecidableEq, Repr, Inhabited

/-- The fault collector (R451 to R485). -/
structure Flt where
  /-- Records 0 to 63; an unlisted record is EMPTY. -/
  log : Tab FltRec
  /-- Records logged so far, for their age. -/
  ages : Nat
  stopped : Bool
  degraded : Bool
  fclass : Bool
  ftest : Bool
  lost : BitVec 8
  /-- LOST counts an unread class-U or class-F report (R465). -/
  lostUF : Bool
  /-- FLT_LOG_SEL by window (R477). -/
  sel : Tab Word
  escTime : Nat
  quietTime : Nat
  recov : BitVec 16
  injUnit : BitVec 16
  injCode : BitVec 16
  rails : Tab Rail
  /-- The fc of the latest class-U or class-F report or merge (R466). -/
  lastUF : Nat
  /-- SPARE_FENCE_y by row (R484). -/
  fenced : Tab (BitVec 25)
  /-- Degraded physical tiles, for attention bit 4 (R473). -/
  degTiles : List Nat
  wires : List WireGroup
  /-- SPARE_STAT.WIRES (R485). -/
  nWires : BitVec 8
  /-- Pending fence route set: the fenced tile, and the switch-over tick (R116). -/
  fenceSet : Option (Nat × Nat)
  /-- A set has been used since the last image switch-over (R117). -/
  fenceUsed : Bool
  /-- The fenced tiles whose set is in force or pending (R115). -/
  setTiles : List Nat
  /-- Action 5 has been taken and its harvest tick has not come (R463). -/
  stopDue : Bool
  deriving DecidableEq, Repr, Inhabited

/-- The collector after reset: FLT_ESC_TIME 200, FLT_QUIET_TIME 50 (R480). -/
def Flt.init : Flt := { (default : Flt) with escTime := 200, quietTime := 50 }

/-! ## Harvest (17) -/

/-- A harvest request or thaw seen (R488). -/
structure Seen where
  origin : Nat
  req : Nat
  kind : Nat
  deriving DecidableEq, Repr, Inhabited

/-- The frames and summary that a link's capture holds (R494, R522). -/
structure Capture where
  settled : Bool
  /-- Frames captured in flight. -/
  capt : Nat
  late : BitVec 8
  ovf : BitVec 8
  /-- Captured frames, in order of arrival. -/
  frames : List Frame
  /-- The capture summary: ACKSEQ, NAK and credit of CTRL frames, the latest of each. -/
  ack : Option (BitVec 10)
  nak : Bool
  cred : Option (BitVec 3 × BitVec 10)
  /-- The fc at which it settles. -/
  deadline : Option Nat
  deriving DecidableEq, Repr, Inhabited

/-- An action that a harvest defers to the thaw (R495). -/
inductive Deferred where
  | escalate (entry : Nat)
  /-- The action of a report that no record holds: unit, action, class and code. -/
  | act (unit action cls code : Nat)
  deriving DecidableEq, Repr, Inhabited

/-- The harvest logic (R486 to R499, R514 to R522). -/
structure Harvest where
  /-- 0 IDLE, 1 PENDING, 2 FROZEN, 3 STOPPED (R519). -/
  state : Nat
  pod : Bool
  tpend : Bool
  lateF : Bool
  whit : Bool
  src : Nat
  wnum : Nat
  absorb : BitVec 8
  reqid : BitVec 8
  th : BitVec 64
  tt : BitVec 64
  /-- The tick at which the thaw is taken: T_t, or the next tick where T_t had passed when the thaw was set. -/
  thawAt : Nat
  at_ : BitVec 64
  pinReq : Bool
  autoScope : Bool
  lead : BitVec 16
  seen : List Seen
  ownReq : BitVec 8
  /-- Flood repeats due: message and tick (R488). -/
  repeats : List (KMsg × Nat)
  /-- This chip drives HARVEST_N low (R490). -/
  driving : Bool
  pinLow : Bool
  deferred : List Deferred
  captures : Tab Capture
  scanUnit : BitVec 16
  scanPos : Nat
  scanAll : Bool
  /-- STATE records of a TRACE emission still to leave their unit (R497): unit, field A, field B and the region's words. -/
  scanTodo : List (Nat × Nat × Nat × List Word)
  deriving DecidableEq, Repr, Inhabited

/-- Harvest after reset: AUTO_SCOPE 1, LEAD 1000, HARVEST_N high (R518). -/
def Harvest.init : Harvest := { (default : Harvest) with autoScope := true, lead := 1000 }

/-! ## The rake (17) -/

/-- A trace record with the raw records that follow it (R500, R501): 32 bytes for each. -/
abbrev TrRec := List Byte

/-- The rake (R500 to R508, R523 to R528). -/
structure Rake where
  /-- 0 OFF, 1 RUN, 2 POST, 3 FROZEN (R523). -/
  state : Nat
  srcs : BitVec 7
  trig : BitVec 5
  mute : Word
  wrapped : Bool
  wp : BitVec 31
  tposVld : Bool
  tpos : BitVec 31
  lost : BitVec 16
  gaps : BitVec 8
  xtrig : BitVec 8
  txup : Bool
  rxlock : Bool
  pos : BitVec 4
  share : BitVec 7
  /-- Records that go to the sink before a CENTRE rake that has its trigger is FROZEN (R504). -/
  postLeft : Nat
  armed : Bool
  /-- Source buffers by unit id, and the records each has lost (R501). -/
  bufs : Tab (List TrRec)
  /-- Records lost by unit id: how many, and the time words of the first and the last (R506). -/
  lostBy : Tab (Nat × Word64 × Word64)
  /-- The classes of RAKE_MUTE are muted since the trigger (R505). -/
  muting : Bool
  /-- The fc of that trigger: the muting begins in the next. -/
  muteAt : Nat
  /-- The rake buffer of 256 records of 32 bytes (R501). -/
  buf : List TrRec
  /-- Records lost in the rake buffer or at the sink (R506): how many, and the time words of the first and the last. -/
  ownLost : Option (Nat × Word64 × Word64)
  /-- Codewords taken from upstream and waiting for a slot (R508). -/
  up : List (List Byte)
  /-- Own codewords sent, and which of the last 64 slots carried own codewords (R508). -/
  own : Nat
  slots : List Bool
  mirrorSeq : Nat
  deriving DecidableEq, Repr, Inhabited

/-- The rake after reset: RAKE_SRC 0x7F, RAKE_TRIG 1, SHARE 64 (R524, R527). -/
def Rake.init : Rake := { (default : Rake) with srcs := 0x7F, trig := 1, share := 64 }

/-! ## Check units (18) -/

/-- A scan READ issued and not yet fed (R536): its tag, its address, and its return, where it has come: the data, or none for
ERROR. -/
structure ScanRead where
  tag : BitVec 8
  addr : Nat
  got : Option (Option (List Byte))
  deriving DecidableEq, Repr, Inhabited

/-- One check unit (R531 to R545). -/
structure Check where
  /-- CHK_CFG: W 7, REFIN, REFOUT (R542). -/
  w : Nat
  refin : Bool
  refout : Bool
  p : BitVec 64
  i : BitVec 64
  x : BitVec 64
  v : BitVec 64
  /-- 0 IDLE, 2 SCAN, 3 ERROR; FEED is an IDLE unit that a feed keeps busy (R543). -/
  state : Nat
  /-- The window that has claimed it. -/
  owner : Option Nat
  alive : BitVec 4
  /-- The fc until which a feed keeps it busy (R533). -/
  busy : Nat
  scanAt : BitVec 48
  len : Word
  done : Word
  /-- The next address to read, and the end. -/
  next : Nat
  stop : Nat
  reads : List ScanRead
  /-- READs issued so far, which number their tags. -/
  issued : Nat
  /-- High halves of V captured per window, and captured CHK_DONE values that the window has not read yet (R539). -/
  capHi : Tab Word
  capDone : Tab Word
  deriving DecidableEq, Repr, Inhabited

/-- A check unit after reset: W 32 (R542). -/
def Check.init : Check := { (default : Check) with w := 32 }

/-! ## Power (19) -/

/-- A requester of the current arbiter (R546 to R552): its grant, what a core last reported and asked for, and what was last sent to
its stop. -/
structure PwrReq where
  grant : Nat
  use_ : Nat
  req : Nat
  slow : Bool
  sentG : Nat
  sentSlow : Bool
  deriving DecidableEq, Repr, Inhabited

/-- The PWR port of a tile (R31, R552): request words in the crossing, at most two; the latest that the stop has, the one last
forwarded, and the tick from which the next may be. -/
structure PwrPort where
  fifo : List Word
  word : Word
  sent : Word
  nextAt : Nat
  deriving DecidableEq, Repr, Inhabited

/-- The current arbiter (R546 to R562). -/
structure Power where
  valid : Bool
  budget : BitVec 15
  overNow : Bool
  short : Bool
  sfloor : Nat
  /-- SFLOOR as last sent to the stops. -/
  sentFloor : Nat
  laneSlp : Bool
  badVal : BitVec 8
  acct : Nat
  granted : Nat
  /-- Requesters by id; an unlisted one has had no evaluation. -/
  reqs : Tab PwrReq
  /-- An evaluation has taken place since the block reset (R557). -/
  started : Bool
  /-- The last requester to receive a rise (R551). -/
  lastRise : Option Nat
  overRun : Nat
  underRun : Nat
  /-- PWR_REQ_SEL by window (R562). -/
  sel : Tab Word
  /-- Spare lanes in low power: link and lane (R555). -/
  asleep : List (Nat × Nat)
  /-- PWR ports by logical tile. -/
  ports : Tab PwrPort
  /-- Fabric cycles of every 16 in which a row's combine units may combine, where they are held (R553). -/
  cuK : Tab Nat
  deriving DecidableEq, Repr, Inhabited

/-- The arbiter after reset. -/
def Power.init : Power := default

/-! ## Start-up (20) and the control port (21) -/

/-- Start-up (R563 to R576). Phases: 1 FUSE, 2 CLOCK, 3 QTRAIN, 4 SELFTEST, 5 READY, 6 FAILED, 0 held in reset. -/
structure Start where
  phase : Nat
  fuseErr : Bool
  pllErr : Bool
  /-- Last reset: 0 PORST_N, 1 FLT_RST. -/
  cause : Nat
  bistSpare : BitVec 8
  bistFault : BitVec 8
  /-- A block reset begins at the fc named (R569). -/
  resetAt : Option Nat
  /-- PORST_N is low. -/
  porst : Bool
  /-- The fuse words as read (R564). -/
  fuses : List Word
  /-- TRC_PASS is high (R509, R574). -/
  trcPass : Bool
  /-- The rake runs with sink 0 (R565). -/
  rakeBad : Bool
  deriving DecidableEq, Repr, Inhabited

/-- A STOP or LINK page access waiting for its REG_ANS (R598). -/
structure RegWait where
  win : Nat
  tag : BitVec 6
  wofs : BitVec 22
  wr : Bool
  deadline : Nat
  deriving DecidableEq, Repr, Inhabited

/-- What a request is judged by: the count at the fc at which it entered the fabric domain (R56, R59), and its window's rights and
bindings then (R417). -/
structure Entry where
  count : BitVec 64
  rights : BitVec 3
  bind : BitVec 256
  deriving DecidableEq, Repr, Inhabited

/-- A request inside the control port (R593): waiting for its C-plane answer, or still to be performed behind one that waits,
a write or a read, with its entry. -/
inductive CtlSlot where
  | wait (r : RegWait)
  | todo (wr : Bool) (q : Req) (e : Entry)
  deriving DecidableEq, Repr, Inhabited

/-- The control port (R591 to R600). -/
structure Ctrl where
  /-- Requests that wait inside the block, oldest first (R593); empty, or with an access that waits for its answer in front. -/
  line : List CtlSlot
  /-- The entry of the request being performed, where it waited before (R593); none between commands. -/
  entry : Option Entry
  /-- Sticky attention bits by window: image event and queue or collective event (R597, R600). -/
  imgEvt : BitVec 8
  qcEvt : BitVec 8
  /-- MEM_CFG.SLICE_GRAN is the image's; MEM_ERR's counters (R327). -/
  memLost : BitVec 8
  memSlice : BitVec 8
  memDropped : BitVec 8
  memCorr : BitVec 8
  /-- MEM_SLICE_SEL (R328). -/
  sliceSel : Word
  /-- BLK_XSTAT's W1C bits: TO_BUDGET, OVR_BUDGET, TO_CTRL (R37). -/
  xstat : BitVec 8
  /-- BLK_SLOT_AT (R166). -/
  slotAt : BitVec 64
  /-- BLK_NLOST.TIME (R392). -/
  nlost : BitVec 16
  /-- The nodes declared lost, each with the loss that it was declared for (R381). -/
  gone : List (Nat × Nat)
  deriving DecidableEq, Repr, Inhabited

/-- The control port after reset: BLK_NLOST.TIME 1000 (R392). -/
def Ctrl.init : Ctrl := { (default : Ctrl) with nlost := 1000 }

end Sys2Proof.Machine
end

