-- ==== Sys2Proof/Machine/Number.lean ====
section
/-! DEFINITION. Number formats and exact values (R168 to R176, R181 to R183): descriptors, decoding of elements and blocks,
payload layouts. A value is held exactly, as the internal form of R181 and R183 requires of every result. -/

namespace Sys2Proof.Machine

/-- An exact operand or result (R181, R183): zero and finite values `(-1)^s * m * 2^e`, infinities, NaNs with a 22-bit payload
aligned at bit 21, and integers of the integer path. -/
inductive FVal where
  | zero (s : Bool)
  | fin (s : Bool) (m : Nat) (e : Int)
  | inf (s : Bool)
  | nan (s quiet : Bool) (p : Nat)
  | int (v : Int)
  deriving DecidableEq, Repr, Inhabited

/-- A format descriptor's fields (R169). -/
structure Fmt where
  valid : Bool
  carryOnly : Bool
  kind : Nat
  specials : Nat
  mxok : Bool
  carry : Nat
  ebits : Nat
  mbits : Nat
  bias : Nat
  deriving DecidableEq, Repr, Inhabited

/-- The fields of a descriptor word (R169). -/
def Fmt.ofWord (w : Word) : Fmt :=
  { valid := w.getLsbD 31, carryOnly := w.getLsbD 30, kind := (w.extractLsb' 28 2).toNat, specials := (w.extractLsb' 26 2).toNat,
    mxok := w.getLsbD 25, carry := (w.extractLsb' 21 4).toNat, ebits := (w.extractLsb' 17 4).toNat, mbits := (w.extractLsb' 11 6).toNat,
    bias := (w.extractLsb' 0 11).toNat }

/-- The fixed entries 0 to 11 (R168). -/
def fixedFormats : List Word :=
  [0x8150B87F, 0x800A500F, 0x8010387F, 0x86081807, 0x820A100F, 0x8A061003, 0x8A041801, 0x8A040801, 0x9160F800, 0x93003800,
   0xC157A3FF, 0xD161F800]

/-- Entry `i` of the format table with loadable entries `l` (R168, R198). -/
def fmtWord (l : List Word) (i : Nat) : Word := if i < 12 then nth 0 fixedFormats i else nth 0 l (i - 12)

/-- Format `i` of the table. -/
def fmtOf (l : List Word) (i : Nat) : Fmt := Fmt.ofWord (fmtWord l i)

/-- Width in bits (R169). -/
def Fmt.width (f : Fmt) : Nat := if f.kind = 1 then f.mbits + 1 else 1 + f.ebits + f.mbits

/-- The all-ones exponent field. -/
def Fmt.top (f : Fmt) : Nat := 2 ^ f.ebits - 1

/-- The exponent of the smallest normal. -/
def Fmt.emin (f : Fmt) : Int := 1 - (f.bias : Int)

/-- Exponent field and trailing significand of the largest finite value (R169, R172). -/
def Fmt.maxFields (f : Fmt) : Nat × Nat :=
  match f.specials with
  | 0 => (f.top - 1, 2 ^ f.mbits - 1)
  | 1 => (f.top, 2 ^ f.mbits - 2)
  | _ => (f.top, 2 ^ f.mbits - 1)

/-- The largest finite magnitude as `m * 2^e`; 127 * 2^-6 for MXINT8 (R175). -/
def Fmt.maxFin (f : Fmt) : Nat × Int :=
  if f.kind = 1 then (2 ^ f.mbits - 1, -6)
  else (2 ^ f.mbits + f.maxFields.2, (f.maxFields.1 : Int) - (f.bias : Int) - (f.mbits : Int))

/-- The element type's emax (R196): the exponent of its largest finite value. -/
def Fmt.emax (f : Fmt) : Int := (Nat.log2 f.maxFin.1 : Int) + f.maxFin.2

/-- `k * 2^q` exceeds `m * 2^e`. -/
def gtPow (k : Nat) (q : Int) (m : Nat) (e : Int) : Bool :=
  if e ≤ q then decide (m < k * 2 ^ (q - e).toNat) else decide (m * 2 ^ (e - q).toNat < k)

/-- The conditions of R170 on a loadable descriptor. -/
def loadableOk (w : Word) : Bool :=
  let f := Fmt.ofWord w
  w == 0 ||
  (f.valid && !f.carryOnly &&
   (if f.kind = 0 then
      f.carry == 0 && decide (f.specials ≤ 2 ∧ 2 ≤ f.ebits ∧ f.ebits ≤ 8 ∧ 1 ≤ f.mbits ∧ f.mbits ≤ 10) &&
      decide (f.width = 4 ∨ f.width = 6 ∨ f.width = 8 ∨ f.width = 16) && (f.mxok || decide (f.width ≥ 8)) &&
      (!f.mxok || decide (f.width ≤ 8)) && !gtPow f.maxFin.1 f.maxFin.2 (2 ^ 24 - 1) 104 && decide (f.emin - (f.mbits : Int) ≥ -149)
    else f.kind == 1 && f.carry == 8 && f.specials == 0 && f.ebits == 0 && f.bias == 0 && decide (f.mbits = 7 ∨ f.mbits = 15) && !f.mxok))

/-- A finite value, or the zero of sign `s`. -/
def mkFin (s : Bool) (m : Nat) (e : Int) : FVal := if m = 0 then .zero s else .fin s m e

/-- A payload of `a` bits aligned at the most significant end of `b` bits (R173). -/
def alignBits (v a b : Nat) : Nat := if a ≤ b then v * 2 ^ (b - a) else v / 2 ^ (a - b)

/-- Two's complement of `n` bits. -/
def signed (n v : Nat) : Int := if v % 2 ^ n < 2 ^ (n - 1) then (v % 2 ^ n : Nat) else (v % 2 ^ n : Nat) - (2 ^ n : Nat)

/-- Decoding of an element code (R174, R182). -/
def Fmt.decode (f : Fmt) (b : Nat) : FVal :=
  if f.kind = 1 then .int (signed f.width b)
  else
    let s := bit b (f.ebits + f.mbits)
    let ef := (b / 2 ^ f.mbits) % 2 ^ f.ebits
    let fr := b % 2 ^ f.mbits
    if f.specials = 0 ∧ ef = f.top then
      if fr = 0 then .inf s
      else .nan s (bit fr (f.mbits - 1)) (alignBits (fr % 2 ^ (f.mbits - 1)) (f.mbits - 1) 22)
    else if f.specials = 1 ∧ ef = f.top ∧ fr = 2 ^ f.mbits - 1 then .nan s true 0
    else if ef = 0 then mkFin s fr (f.emin - (f.mbits : Int))
    else .fin s (fr + 2 ^ f.mbits) ((ef : Int) - (f.bias : Int) - (f.mbits : Int))

/-- A blocked element with its scale byte (R175). -/
def Fmt.decodeMx (f : Fmt) (t b : Nat) : FVal :=
  if t = 255 then .nan false true 0
  else
    match f.decode b with
    | .int v => mkFin (decide (v < 0)) v.natAbs ((t : Int) - 127 - 6)
    | .fin s m e => .fin s m (e + (t : Int) - 127)
    | v => v

/-- The element area's start for `nb` blocks (R176). -/
def mxArea (nb : Nat) : Nat := ceilDiv nb 16 * 16

/-- The code of width `w` at bit `i` of a byte string. -/
def codeAt (bs : List Byte) (w i : Nat) : Nat := leAt bs (i / 8) 9 / 2 ^ (i % 8) % 2 ^ w

/-- The values of a payload of `n` elements (R176). -/
def Fmt.unpack (f : Fmt) (blk : Bool) (bs : List Byte) (n : Nat) : List FVal :=
  if blk then
    let area := bs.drop (mxArea (n / 32))
    (List.range n).map fun k => f.decodeMx (leAt bs (k / 32) 1) (codeAt area f.width (k * f.width))
  else (chunks (f.width / 8) (slice bs 0 (n * f.width / 8))).map fun c => f.decode (natOf c)

/-- The bytes of codes of width `w` packed from bit 0 on (R176). -/
def packCodes (w : Nat) (codes : List Nat) : List Byte :=
  if w % 8 = 0 then codes.flatMap fun c => bytesOf (w / 8) c
  else (chunks 8 codes).flatMap fun g => bytesOf (ceilDiv (g.length * w) 8) ((g.foldr (fun c a => c + 2 ^ w * a) 0))

/-- A payload from its scales and codes (R176). -/
def Fmt.pack (f : Fmt) (blk : Bool) (scales codes : List Nat) : List Byte :=
  if blk then
    slice (scales.map (BitVec.ofNat 8)) 0 (mxArea scales.length) ++ packCodes f.width codes
  else packCodes f.width codes

/-- Payload bytes of `n` elements (R176). -/
def Fmt.bytes (f : Fmt) (blk : Bool) (n : Nat) : Nat :=
  (if blk then mxArea (n / 32) else 0) + ceilDiv (n * f.width) 8

/-- Elements of a payload of `len` bytes (R176); the greatest number whose payload is no longer. -/
def Fmt.elems (f : Fmt) (blk : Bool) (len : Nat) : Nat :=
  if blk then 32 * ((List.range 241).filter fun nb => decide (f.bytes true (32 * nb) ≤ len)).length - 32
  else if f.width = 0 then 0 else len * 8 / f.width

/-- Elements of a full segment in a segment format (R180). -/
def Fmt.full (f : Fmt) (blk : Bool) : Nat :=
  if blk then (match f.width with | 8 => 3968 | 6 => 5216 | 4 => 7680 | _ => 0)
  else if f.width = 0 then 0 else 32768 / f.width

/-- The cost of a format in quarters of a bit (R179). -/
def Fmt.cost (f : Fmt) (blk : Bool) : Nat := 4 * f.width + b2n blk

end Sys2Proof.Machine
end

