-- ==== Sys2Proof/Machine/Arith.lean ====
section
/-! DEFINITION. Reduction arithmetic: the arithmetic control word, exact operations, roundings, flags, the fold of one child
and the root's final step (R177 to R180, R184 to R197). -/

namespace Sys2Proof.Machine

/-! ## Control -/

/-- The fields of an arithmetic control word (R178). -/
structure Acw where
  rfmt : Nat
  op : Nat
  blk : Bool
  /-- 0 RNE, 1 RTZ, 2 SR. -/
  rnd : Nat
  strict : Bool
  carry : Bool
  wrap : Bool
  deriving DecidableEq, Repr, Inhabited

/-- The fields of a control word (R178). -/
def Acw.ofWord (w : BitVec 16) : Acw :=
  { rfmt := (w.extractLsb' 12 4).toNat, op := (w.extractLsb' 8 3).toNat, blk := w.getLsbD 11, rnd := (w.extractLsb' 6 2).toNat,
    strict := w.getLsbD 5, carry := w.getLsbD 4, wrap := w.getLsbD 3 }

/-- The index of the segment format (R179): RFMT, or its carry format; the carry of a blocked format is FP32 (R168). -/
def Acw.segIdx (a : Acw) (l : List Word) : Nat := if a.carry then (if a.blk then 0 else (fmtOf l a.rfmt).carry) else a.rfmt

/-- The header's `OP` field: the control word's, with `BLK` (R177, R178, R206). -/
def Acw.op4 (a : Acw) : Nat := 8 * b2n a.blk + a.op

/-- The segment format, and whether it is blocked (R179). -/
def Acw.segFmt (a : Acw) (l : List Word) : Fmt := fmtOf l (a.segIdx l)
def Acw.segBlk (a : Acw) : Bool := a.blk && !a.carry

/-- Elements of a full segment (R180). -/
def Acw.full (a : Acw) (l : List Word) : Nat := (a.segFmt l).full a.segBlk

/-- Formats of width 4 and 6 are used only blocked (R168, R170). -/
def Fmt.onlyBlocked (f : Fmt) : Bool := f.kind == 0 && decide (f.width = 4 ∨ f.width = 6)

/-- A format with the blocked use that is asked of it (R179). -/
def Fmt.useOk (f : Fmt) (blk : Bool) : Bool := f.valid && !f.carryOnly && (if blk then f.mxok else !f.onlyBlocked)

/-- The class: 0 float, 1 integer; every blocked format is a float (R168). -/
def Fmt.cls (f : Fmt) (blk : Bool) : Nat := if blk then 0 else f.kind

/-- The rules of R179 for a member's contribution format `c` and control word `w` with `n` elements. -/
def acwOk (l : List Word) (w : BitVec 16) (c n : Nat) : Bool :=
  let a := Acw.ofWord w
  let r := fmtOf l a.rfmt
  let f := fmtOf l c
  r.useOk a.blk && f.useOk a.blk && a.rnd != 3 && w.extractLsb' 0 3 == 0 &&
  (match a.op with
   | 3 | 4 => r.cls a.blk == 0
   | 5 | 6 | 7 => r.cls a.blk == 1 && !a.blk
   | _ => true) &&
  f.cls a.blk == r.cls a.blk && decide (f.cost a.blk ≤ (a.segFmt l).cost a.segBlk) && (!a.blk || n % 32 == 0)

/-! ## Draws -/

/-- One iteration of the draw's mixing (R190). -/
def srStep (s : Word × Word × Word) : Word × Word × Word :=
  let a := s.1 + s.2.1
  let c := rotl32 (s.2.2 ^^^ a) 13
  let b := s.2.1 + c
  (rotl32 (a ^^^ b) 7, b, c)

/-- The 24-bit draw of an element (R190). -/
def srDraw (coll seg elem : Nat) (seed : Word) : Nat :=
  let b : Word := BitVec.ofNat 32 (coll % 65536 * 65536 + seg / 16)
  let c : Word := BitVec.ofNat 32 (seg % 16 * 2 ^ 28 + elem)
  ((srStep (srStep (srStep (seed, b, c)))).1 >>> 8).toNat

/-! ## Flags (R194) -/

/-- The segment arithmetic flags, from bit 7 down. -/
structure Saf where
  iovf : Bool := false
  sat : Bool := false
  inf : Bool := false
  nan : Bool := false
  iv : Bool := false
  of_ : Bool := false
  uf : Bool := false
  ix : Bool := false
  deriving DecidableEq, Repr, Inhabited

/-- The union of two flag bytes. -/
def Saf.or (a b : Saf) : Saf :=
  { iovf := a.iovf || b.iovf, sat := a.sat || b.sat, inf := a.inf || b.inf, nan := a.nan || b.nan, iv := a.iv || b.iv,
    of_ := a.of_ || b.of_, uf := a.uf || b.uf, ix := a.ix || b.ix }

/-- The flag byte (R194). -/
def Saf.byte (a : Saf) : BitVec 8 :=
  BitVec.ofBool a.iovf ++ BitVec.ofBool a.sat ++ BitVec.ofBool a.inf ++ BitVec.ofBool a.nan ++ BitVec.ofBool a.iv ++ BitVec.ofBool a.of_ ++
  BitVec.ofBool a.uf ++ BitVec.ofBool a.ix

/-- Fast mode raises no exception flag (R193). -/
def Saf.mask (strict : Bool) (a : Saf) : Saf := if strict then a else { a with iv := false, of_ := false, uf := false, ix := false }

/-! ## Rounding -/

/-- How a rounding goes: the mode, strictness, the draw and the integer choice (R178, R190). -/
structure Rnd where
  mode : Nat
  strict : Bool
  draw : Nat
  wrap : Bool
  deriving DecidableEq, Repr, Inhabited

/-- `m * 2^e` as a multiple of `2^q`, and whether something was lost (R189, R190). -/
def Rnd.quant (r : Rnd) (m : Nat) (e q : Int) : Nat × Bool :=
  if q ≤ e then (m * 2 ^ (e - q).toNat, false)
  else
    let sh := (q - e).toNat
    let k := m / 2 ^ sh
    let rem := m % 2 ^ sh
    if rem = 0 then (k, false)
    else
      let up := match r.mode with
        | 0 => decide (2 ^ sh < 2 * rem ∨ (2 * rem = 2 ^ sh ∧ k % 2 = 1))
        | 2 => decide (2 ^ 24 ≤ rem * 2 ^ 24 / 2 ^ sh + r.draw)
        | _ => false
      (if up then k + 1 else k, true)

/-- floor(log2 (m * 2^e)) of a non-zero magnitude. -/
def flog2 (m : Nat) (e : Int) : Int := (Nat.log2 m : Int) + e

/-- The result of rounding a magnitude into a format: the multiple, its unit, whether inexact, whether tiny (R189, R191). -/
def Fmt.quant (f : Fmt) (r : Rnd) (m : Nat) (e : Int) : Nat × Int × Bool × Bool :=
  if f.kind = 1 then
    let x := r.quant m e (-6)
    (x.1, -6, x.2, decide (flog2 m e < -6))
  else
    let l := flog2 m e
    let q := max l f.emin - (f.mbits : Int)
    let x := r.quant m e q
    let y := r.quant m e (l - (f.mbits : Int))
    (x.1, q, x.2, decide (l < f.emin) && gtPow 1 f.emin y.1 (l - (f.mbits : Int)))

/-- A code from sign, exponent field and trailing significand. -/
def Fmt.fields (f : Fmt) (s : Bool) (ef fr : Nat) : Nat := b2n s * 2 ^ (f.ebits + f.mbits) + ef * 2 ^ f.mbits + fr

/-- The code of the magnitude `k * 2^q` that rounding gave. -/
def Fmt.code (f : Fmt) (s : Bool) (k : Nat) (q : Int) : Nat :=
  if f.kind = 1 then (if s then (2 ^ f.width - k) % 2 ^ f.width else k % 2 ^ f.width)
  else if k < 2 ^ f.mbits then f.fields s 0 k
  else if k < 2 ^ (f.mbits + 1) then f.fields s (q + (f.mbits : Int) + (f.bias : Int)).toNat (k - 2 ^ f.mbits)
  else f.fields s (q + 1 + (f.mbits : Int) + (f.bias : Int)).toNat (k / 2 - 2 ^ f.mbits)

/-- The code of the largest finite value of a sign. -/
def Fmt.big (f : Fmt) (s : Bool) : Nat :=
  if f.kind = 1 then (if s then 2 ^ f.width - (2 ^ f.mbits - 1) else 2 ^ f.mbits - 1) else f.fields s f.maxFields.1 f.maxFields.2

/-- Whether a format encodes infinities, and whether it encodes NaNs. -/
def Fmt.hasInf (f : Fmt) : Bool := f.kind == 0 && f.specials == 0
def Fmt.hasNan (f : Fmt) : Bool := f.kind == 0 && decide (f.specials ≤ 1)

/-- The code of a NaN in a format that encodes NaNs: canonical in fast mode, sign and payload kept and quieted in strict mode
(R173, R193, R195). -/
def Fmt.nanCode (f : Fmt) (strict s : Bool) (p : Nat) : Nat :=
  if f.specials = 1 then f.fields (strict && s) f.top (2 ^ f.mbits - 1)
  else f.fields (strict && s) f.top (2 ^ (f.mbits - 1) + (if strict then alignBits p 22 (f.mbits - 1) else 0))

/-- Out of range (R192): the code, with none for a NaN block, and the flags; `ovf` says that a finite value overflowed. -/
def Fmt.range (f : Fmt) (r : Rnd) (blk s ovf : Bool) : Option Nat × Saf :=
  let fl : Saf := if ovf then { of_ := true, ix := true } else { iv := true }
  if !r.strict then (some (f.big s), { sat := true })
  else if r.mode = 1 then (some (f.big s), fl)
  else if f.hasInf then (some (f.fields s f.top 0), fl)
  else if f.hasNan then (some (f.fields s f.top (2 ^ f.mbits - 1)), fl)
  else if blk then (none, fl)
  else (some (f.big s), fl)

/-- An exact integer in an integer format (R188). -/
def Fmt.encInt (f : Fmt) (wrap : Bool) (v : Int) : Nat × Saf :=
  let lo : Int := -(2 ^ f.mbits : Nat)
  let hi : Int := (2 ^ f.mbits : Nat) - 1
  let md (x : Int) : Nat := (x % ((2 ^ f.width : Nat) : Int)).toNat
  if lo ≤ v ∧ v ≤ hi then (md v, {})
  else (if wrap then md v else md (clampI lo hi v), { iovf := true })

/-- One rounding of an exact value into an unblocked format (R189 to R195). -/
def Fmt.encode (f : Fmt) (r : Rnd) (v : FVal) : Nat × Saf :=
  match v with
  | .int x => f.encInt r.wrap x
  | .zero s => (if f.kind = 1 then 0 else f.fields s 0 0, {})
  | .inf s =>
    if f.hasInf then (f.fields s f.top 0, {})
    else
      let x := f.range r false s false
      (x.1.getD 0, x.2)
  | .nan s q p =>
    let iv : Saf := { iv := r.strict && !q }
    if f.hasNan then (f.nanCode r.strict s p, iv)
    else (f.fields (r.strict && s) 0 0, iv.or { nan := true, iv := r.strict })
  | .fin s m e =>
    let x := f.quant r m e
    if gtPow x.1 x.2.1 f.maxFin.1 f.maxFin.2 then
      let y := f.range r false s true
      (y.1.getD 0, y.2)
    else (f.code s x.1 x.2.1, Saf.mask r.strict { ix := x.2.2.1, uf := x.2.2.1 && x.2.2.2 })

/-! ## Blocks (R197) -/

/-- The magnitude of a finite value. -/
def FVal.mag : FVal → Option (Nat × Int)
  | .fin _ m e => some (m, e)
  | _ => none

/-- The exponent of the scale of a block (R197): each value comes with its rounding. -/
def Fmt.mxScale (f : Fmt) (vs : List (FVal × Rnd)) : Int :=
  let mags := vs.filterMap fun v => v.1.mag.map fun x => (x, v.2)
  match mags.map fun x => flog2 x.1.1 x.1.2 with
  | [] => -127
  | l :: ls =>
    let x := clampI (-127) 127 (ls.foldl max l - f.emax)
    if x < 127 ∧ mags.any (fun y =>
        let k := f.quant y.2 y.1.1 (y.1.2 - x)
        gtPow k.1 k.2.1 f.maxFin.1 f.maxFin.2) = true then x + 1 else x

/-- One element of a block under scale exponent `x`: its code, none for a NaN block, and its flags (R197). -/
def Fmt.mxElem (f : Fmt) (x : Int) (v : FVal × Rnd) : Option Nat × Saf :=
  match v.1 with
  | .zero s => (some (if f.kind = 1 then 0 else f.fields s 0 0), {})
  | .nan s q p => if f.hasNan then (some (f.nanCode v.2.strict s p), { iv := v.2.strict && !q }) else (none, { iv := v.2.strict && !q })
  | .inf s =>
    if f.hasInf then (some (f.fields s f.top 0), {})
    else if v.2.strict then (none, { iv := true })
    else (some (f.big s), { sat := true })
  | .int _ => (some 0, {})
  | .fin s m e =>
    let k := f.quant v.2 m (e - x)
    if gtPow k.1 k.2.1 f.maxFin.1 f.maxFin.2 then f.range v.2 true s true
    else (some (f.code s k.1 k.2.1), Saf.mask v.2.strict { ix := k.2.2.1, uf := k.2.2.1 && k.2.2.2 })

/-- A block of values encoded: its scale byte, codes and flags (R197). A NaN block keeps the flags of the elements that made
it one. -/
def Fmt.mxBlock (f : Fmt) (vs : List (FVal × Rnd)) : Nat × List Nat × Saf :=
  let x := f.mxScale vs
  let es := vs.map (f.mxElem x)
  if es.any fun e => e.1.isNone then
    (255, vs.map fun _ => 0, (es.filter fun e => e.1.isNone).foldl (fun (a : Saf) e => a.or e.2) { nan := true })
  else ((x + 127).toNat, es.map fun e => e.1.getD 0, es.foldl (fun (a : Saf) e => a.or e.2) {})

/-! ## A whole segment -/

/-- What governs a segment's arithmetic: its collective, index, seed, control word and formats (R178, R190). -/
structure SegCtx where
  coll : Nat
  seg : Nat
  seed : Word
  acw : Acw
  fmts : List Word
  deriving DecidableEq, Repr, Inhabited

/-- The rounding of element `k`. -/
def SegCtx.rnd (c : SegCtx) (k : Nat) : Rnd :=
  { mode := c.acw.rnd, strict := c.acw.strict, draw := if c.acw.rnd = 2 then srDraw c.coll c.seg k c.seed else 0, wrap := c.acw.wrap }

/-- The values that a rounding into format `f` leaves, their payload, and the flags (R184, R189 to R197). -/
def SegCtx.round (c : SegCtx) (f : Fmt) (blk : Bool) (vs : List FVal) : List FVal × List Byte × Saf :=
  let ws := vs.mapIdx fun k v => (v, c.rnd k)
  if blk then
    let bs := (chunks 32 ws).map f.mxBlock
    (bs.flatMap fun b => b.2.1.map (f.decodeMx b.1), f.pack true (bs.map (·.1)) (bs.flatMap (·.2.1)),
     bs.foldl (fun (a : Saf) b => a.or b.2.2) {})
  else
    let es := ws.map fun w => f.encode w.2 w.1
    (es.map fun e => f.decode e.1, f.pack false [] (es.map (·.1)), es.foldl (fun (a : Saf) e => a.or e.2) {})

/-- An intermediate rounding leaves INF and NAN out, but for a NaN that was encoded as zero (R194, R195). -/
def SegCtx.roundSeg (c : SegCtx) (vs : List FVal) : List FVal × List Byte × Saf :=
  let r := c.round (c.acw.segFmt c.fmts) c.acw.segBlk vs
  (r.1, r.2.1, if c.acw.segBlk then { r.2.2 with nan := false } else r.2.2)

/-! ## Operations -/

/-- The sum of two finite values. -/
def addFin (sa : Bool) (ma : Nat) (ea : Int) (sb : Bool) (mb : Nat) (eb : Int) : FVal :=
  let e := min ea eb
  let x : Int := (if sa then -1 else 1) * ((ma * 2 ^ (ea - e).toNat : Nat) : Int) + (if sb then -1 else 1) * ((mb * 2 ^ (eb - e).toNat : Nat) : Int)
  mkFin (decide (x < 0)) x.natAbs e

/-- The canonical quiet NaN of an invalid operation, with IV (R195). -/
def invalidOp : FVal × Saf := (.nan false true 0, { iv := true })

/-- A NaN operand's result: the first NaN, with IV where either operand is signalling (R194, R195). -/
def nanOf (a b : FVal) : Option (FVal × Saf) :=
  match a, b with
  | .nan s q p, .nan _ q2 _ => some (.nan s true p, { iv := !q || !q2 })
  | .nan s q p, _ => some (.nan s true p, { iv := !q })
  | _, .nan s q p => some (.nan s true p, { iv := !q })
  | _, _ => none

/-- a + b (R185). -/
def addV (a b : FVal) : FVal × Saf :=
  match nanOf a b with
  | some r => r
  | none =>
    match a, b with
    | .inf x, .inf y => if x = y then (.inf x, {}) else invalidOp
    | .inf x, _ => (.inf x, {})
    | _, .inf y => (.inf y, {})
    | .zero x, .zero y => (.zero (x && y), {})
    | .zero _, v => (v, {})
    | v, .zero _ => (v, {})
    | .fin sa ma ea, .fin sb mb eb => (addFin sa ma ea sb mb eb, {})
    | v, _ => (v, {})

/-- a * b (R186, R187). -/
def mulV (a b : FVal) : FVal × Saf :=
  match nanOf a b with
  | some r => r
  | none =>
    match a, b with
    | .inf x, .inf y => (.inf (x != y), {})
    | .inf _, .zero _ => invalidOp
    | .zero _, .inf _ => invalidOp
    | .inf x, .fin y _ _ => (.inf (x != y), {})
    | .fin x _ _, .inf y => (.inf (x != y), {})
    | .zero x, .zero y => (.zero (x != y), {})
    | .zero x, .fin y _ _ => (.zero (x != y), {})
    | .fin x _ _, .zero y => (.zero (x != y), {})
    | .fin sa ma ea, .fin sb mb eb => (.fin (sa != sb) (ma * mb) (ea + eb), {})
    | v, _ => (v, {})

/-- Whether magnitude a is below magnitude b. -/
def magLt (ma : Nat) (ea : Int) (mb : Nat) (eb : Int) : Bool := gtPow mb eb ma ea

/-- a < b, with −0 below +0 (R185). -/
def ltV (a b : FVal) : Bool :=
  match a, b with
  | .inf x, .inf y => x && !y
  | .inf x, _ => x
  | _, .inf y => !y
  | .zero x, .zero y => x && !y
  | .zero _, .fin y _ _ => !y
  | .fin x _ _, .zero _ => x
  | .fin sa ma ea, .fin sb mb eb =>
    if sa != sb then sa else if sa then magLt mb eb ma ea else magLt ma ea mb eb
  | _, _ => false

/-- Bitwise on 64-bit sign-extended operands (R185). -/
def bitV (f : BitVec 64 → BitVec 64 → BitVec 64) (a b : Int) : Int := (f (BitVec.ofInt 64 a) (BitVec.ofInt 64 b)).toInt

/-- exact(op, a, b) (R185, R188). -/
def exactOp (op : Nat) (a b : FVal) : FVal × Saf :=
  match a, b with
  | .int x, .int y =>
    (.int (match op with
      | 1 => max x y
      | 2 => min x y
      | 5 => bitV (· &&& ·) x y
      | 6 => bitV (· ||| ·) x y
      | 7 => bitV (· ^^^ ·) x y
      | _ => x + y), {})
  | _, _ =>
    match op with
    | 1 => (match nanOf a b with | some r => r | none => (if ltV a b then b else a, {}))
    | 2 => (match nanOf a b with | some r => r | none => (if ltV b a then b else a, {}))
    | _ => addV a b

/-! ## The fold (R184) and the root's step (R187) -/

/-- An accumulator: its exact values, its payload where they have been rounded, and its flags. -/
structure Accum where
  vals : List FVal
  payload : Option (List Byte)
  saf : Saf
  deriving DecidableEq, Repr, Inhabited

/-- The values of a contribution: in the contribution's format, blocked as the control word says for a member and as the
segment format is for a partial (R177, R206, R213). -/
def SegCtx.values (c : SegCtx) (member : Bool) (cfmt : Nat) (bs : List Byte) : List FVal :=
  let f := fmtOf c.fmts cfmt
  let blk := if member then c.acw.blk else c.acw.segBlk
  f.unpack blk bs (f.elems blk bs.length)

/-- A member's term of a weighted sum: rounded after the product, which is applied once (R186). -/
def SegCtx.weigh (c : SegCtx) (weight : Option Word) (vs : List FVal) : Accum :=
  match c.acw.op, weight with
  | 3, some w =>
    let ps := vs.map fun v => mulV v ((fmtOf c.fmts 0).decode w.toNat)
    let r := c.roundSeg (ps.map (·.1))
    { vals := r.1, payload := some r.2.1, saf := (ps.foldl (fun (a : Saf) p => a.or (Saf.mask c.acw.strict p.2)) {}).or r.2.2 }
  | _, _ => { vals := vs, payload := none, saf := {} }

/-- One child joins the fold (R184): the first is taken as it is. -/
def SegCtx.fold (c : SegCtx) (acc : Option Accum) (member : Bool) (weight : Option Word) (cfmt : Nat) (bs : List Byte) : Accum :=
  let v := c.weigh (if member then weight else none) (c.values member cfmt bs)
  match acc with
  | none => v
  | some a =>
    let rs := (a.vals.zip v.vals).map fun p => exactOp c.acw.op p.1 p.2
    let r := c.roundSeg (rs.map (·.1))
    { vals := r.1, payload := some r.2.1
      saf := ((a.saf.or v.saf).or (rs.foldl (fun (x : Saf) p => x.or (Saf.mask c.acw.strict p.2)) {})).or r.2.2 }

/-- 1 / n rounded to nearest even with `mb` trailing bits (R187). -/
def recip (n mb : Nat) : FVal :=
  if n ≤ 1 then .fin false 1 0
  else
    let sh := mb + Nat.log2 n + 1
    let k := 2 ^ sh / n
    let rem := 2 ^ sh % n
    if 2 ^ Nat.log2 n = n then .fin false 1 (-(Nat.log2 n : Int))
    else .fin false (if n < 2 * rem ∨ (2 * rem = n ∧ k % 2 = 1) then k + 1 else k) (-(sh : Int))

/-- INF and NAN of a final result (R194). -/
def summary (vs : List FVal) : Saf :=
  { inf := vs.any fun v => match v with | .inf _ => true | _ => false
    nan := vs.any fun v => match v with | .nan _ _ _ => true | _ => false }

/-- The node's final result: rounded if it came from one child alone, and at the root AVG's step or the carry's conversion to
`RFMT` (R184, R187, R188, R213). Its payload and flags. -/
def SegCtx.finish (c : SegCtx) (a : Accum) (root : Bool) (nmem : Nat) : List Byte × Saf :=
  let a1 := match a.payload with
    | some _ => a
    | none =>
      let r := c.roundSeg a.vals
      { vals := r.1, payload := some r.2.1, saf := a.saf.or r.2.2 }
  if root && (c.acw.op == 4 || c.acw.carry) then
    let sf := c.acw.segFmt c.fmts
    let ps : List (FVal × Saf) :=
      if c.acw.op = 4 then a1.vals.map fun v => mulV v (recip nmem (if sf.width = 64 then 52 else 23)) else a1.vals.map fun v => (v, {})
    let r := c.round (fmtOf c.fmts c.acw.rfmt) c.acw.blk (ps.map (·.1))
    (r.2.1, ((a1.saf.or (ps.foldl (fun (x : Saf) p => x.or (Saf.mask c.acw.strict p.2)) {})).or r.2.2).or (summary r.1))
  else (a1.payload.getD [], a1.saf.or (summary a1.vals))

end Sys2Proof.Machine
end

