-- ==== Sys2Proof/Machine/PartsCu.lean ====
section
/-! DEFINITION. The parts of a stop that combine units and collectives name (R199 to R270), as plain data. -/

namespace Sys2Proof.Machine

/-- A segment at a plan node (R210). -/
structure SegKey where
  coll : Nat
  seg : Nat
  pnode : Nat
  deriving DecidableEq, Repr, Inhabited

/-- A slot of the combine store with its record (R203, R204). -/
structure Slot where
  /-- 0 FREE, 1 HEAD, 2 HOLD, 3 SENDING, 4 HELD, 5 RETIRED. -/
  state : Nat
  proxy : Bool
  key : SegKey
  /-- Next due child, and the children combined or held. -/
  next : Nat
  mask : Nat
  sig : Word
  /-- What governs the segment's arithmetic for as long as it lives: control word, seed, and the format table in force when the slot was
  claimed (R171, R178). -/
  acw : BitVec 16
  seed : Word
  fmts : List Word
  saf : BitVec 8
  /-- The accumulator of a head slot. -/
  acc : Option Accum
  /-- HOLD: the child it holds. -/
  child : Nat
  /-- The contribution being taken: its first header, its bytes so far and its next packet index; `small` on the C-plane. -/
  hdr : THdr
  small : Bool
  got : List Byte
  pidx : Nat
  /-- Bytes of the packet now due that have been combined already, from a copy that ended with KILL (R212). -/
  part : Nat
  /-- HOLD: the contribution is complete. -/
  whole : Bool
  /-- SENDING, HELD: the result. -/
  result : List Byte
  deriving DecidableEq, Repr, Inhabited

/-- An entry of the pending table (R216). -/
structure Pending where
  key : SegKey
  losses : Nat
  byp : Bool
  /-- Children that a BYPASS has been sent to, and when the entry ends. -/
  sent : List Nat
  expires : Nat
  deriving DecidableEq, Repr, Inhabited

/-- An entry of the ended list (R255). -/
structure EndedColl where
  coll : Nat
  sig : Word
  expires : Nat
  deriving DecidableEq, Repr, Inhabited

/-- The last REPLAY order applied for a collective at a tile (R262). -/
structure OrderSeen where
  coll : Nat
  sig : Word
  no : Nat
  dep : Bool
  deriving DecidableEq, Repr, Inhabited

/-- The combine unit of a tile (R199 to R227). -/
structure Cu where
  /-- RSV, HOLDMAX and CTHR, where the image's CU part has loaded them (R222). -/
  cfg : Option (Nat × Nat × Nat)
  /-- Slots by number; an unlisted slot is FREE. -/
  slots : Tab Slot
  /-- Freed keys with their expiry, newest first (R214). -/
  done : List (SegKey × Nat)
  pending : List Pending
  ended : List EndedColl
  orders : List OrderSeen
  /-- Plan in force by group at this tile (R260, R261). -/
  plans : Tab Nat
  /-- Packets that wait for the CU: from the router, each with its payload flits before a KILL where it ends with one, and from the own
  SI; and whether the last one taken was the own SI's (R199). -/
  waitR : List (Pkt × Option Nat)
  waitO : List Pkt
  lastOwn : Bool
  /-- Collectives for which a partial of this CU has been answered MISMATCH: it sends nothing more for them (R253). -/
  stopped : List (Nat × Word)
  /-- ALU lanes: the last error of each, and the lane whose place the spare has taken (R202). -/
  laneErr : Tab Nat
  laneSpare : Option Nat
  /-- The CU has stopped combining (R221). -/
  fenced : Bool
  /-- Store banks: corrected errors, banks retiring, banks that a spare has taken over, and spare banks that back nothing
  (R219, R220, R565). -/
  corrBy : Tab Nat
  retiring : List Nat
  spared : List Nat
  badSpares : List Nat
  /-- STOP_CU_STAT, STOP_CU_ERR (R223, R225). -/
  nbusy : BitVec 8
  nbyp : BitVec 8
  nproxy : BitVec 8
  ndup : BitVec 8
  corr : BitVec 8
  uncor : BitVec 8
  laneerr : BitVec 8
  nospare : BitVec 4
  /-- STOP_CU_SLOT_IDX (R226). -/
  slotIdx : Word
  deriving DecidableEq, Repr, Inhabited

/-- A live collective at a member's SI (R236, R238, R251). -/
structure CollM where
  coll : Nat
  group : Nat
  sig : Word
  cop : Nat
  fmt : Nat
  acw : BitVec 16
  ctag : Word
  src : Nat
  dst : Nat
  count : Nat
  cap : Nat
  cntsrc : Nat
  cntdst : Nat
  /-- The member index of the source of a broadcast. -/
  srcm : Nat
  /-- The own member index and rank. -/
  member : Nat
  rank : Nat
  /-- An all-to-all's send counts, once they have been read from CNTSRC (R245). -/
  counts : Option (List Nat)
  small : Bool
  nseg : Nat
  start : CmdStart
  /-- 2 × GTL after acceptance (R251). -/
  deadline : Nat
  /-- SEND has ended (R251). -/
  waiting : Bool
  /-- The launch result has come (R242). -/
  launched : Bool
  /-- The next data segment to contribute, and the segments contributed before a replay (R261). -/
  next : Nat
  high : Nat
  /-- The next message of a data kind to send. -/
  nextData : Nat
  tallySent : Bool
  /-- It sends nothing more (R253). -/
  stopped : Bool
  dropped : Nat
  failed : Nat
  /-- The last REPLAY order applied (R262). -/
  no : Nat
  dep : Bool
  /-- The commit index it has last heard, in a REPLAY order (R261, R414). -/
  known : Nat
  /-- The MSEQ of each contribution sent, by segment: a resend keeps it (R206, R261). -/
  mseqs : Tab (BitVec 16)
  deriving DecidableEq, Repr, Inhabited

/-- A group root's record of a collective (R248 to R250). -/
structure CollRoot where
  coll : Nat
  sig : Word
  group : Nat
  pan : Nat
  /-- 0 LAUNCH, 1 RUN, 2 REPLAY, 3 FINAL, 4 ENDED: an ABORT is on its way. -/
  state : Nat
  /-- The GTL timer, and 1 ms after the final COMMIT or the ABORT. -/
  gtl : Nat
  due : Option Nat
  nseg : Nat
  cop : Nat
  /-- The launch and tally segments: 0 OPEN, 1 COMBINED, 3 distributed, 2 COMMITTED. -/
  launch : Nat
  tally : Nat
  tallyElems : Int × Int
  /-- The commit index, and segments COMBINED and not committed: 1 waiting, 2 distributed, 3 acknowledged. -/
  l : Nat
  segs : Tab Nat
  /-- The deputy, the earliest next progress record, and the L that one in flight names. -/
  deputy : Option (Nat × Nat)
  progressAt : Nat
  progress : Option Nat
  replays : Nat
  dep : Bool
  /-- Causes acted on since the last replay (R258). -/
  acted : List (Nat × Nat)
  saf : BitVec 8
  deriving DecidableEq, Repr, Inhabited

/-- What a deputy holds of a collective (R251, R262). -/
structure CollDep where
  coll : Nat
  sig : Word
  pan : Nat
  /-- L of the last progress record answered. -/
  l : Nat
  /-- A cause record without an order: when the deputy takes over, its cause and PNODE. -/
  cause : Option (Nat × Nat × Nat)
  deriving DecidableEq, Repr, Inhabited

/-- A message in a relay buffer (R398, R399). -/
structure Relay where
  uid : Nat
  key : Key
  hdr : THdr
  /-- Packets taken, and the packets of the message. -/
  pkts : List Pkt
  need : Nat
  /-- The egress tree. -/
  tree : Nat
  /-- The egress send runs, or its completion code. -/
  code : Option Nat
  /-- Targets to send to again after NOTREADY or INCOMPLETE: node and tile. -/
  retry : List (Nat × Nat)
  /-- The egress message's MSEQ, and whether the higher tree has been answered. -/
  mseq : Option (BitVec 16)
  told : Bool
  deriving DecidableEq, Repr, Inhabited

/-- The collective side of a stop interface (R236 to R270, R398). -/
structure Coll where
  live : List CollM
  /-- The descriptor that waits (R238), if any. -/
  waiting : List Desc
  /-- CSEQ by group (R238). -/
  cseqs : Tab Word
  roots : List CollRoot
  deps : List CollDep
  relays : List Relay
  /-- STOP_COLL_STAT.LASTST, STOP_COLL_CNT, STOP_COLL_GSEL (R266 to R268). -/
  lastst : BitVec 4
  replays : BitVec 8
  mism : BitVec 8
  aborts : BitVec 8
  takeovers : BitVec 8
  gsel : Nat
  /-- STOP_RELAY.REFUSED and ROUNDS (R403). -/
  refusals : BitVec 8
  rounds : BitVec 8
  deriving DecidableEq, Repr, Inhabited

end Sys2Proof.Machine
end

