-- ==== Sys2Proof/Machine/PartsImg.lean ====
section
/-! DEFINITION. The parts of the state that configuration gives: pans, groups and their plans, the sections of a Beyrd image
as parsed, the configuration in force, the image targets and pending switches (R228 to R233, R404 to R450). -/

namespace Sys2Proof.Machine

/-- A pan's memory window (R324, R433), in bytes. -/
structure MemWin where
  base : Nat
  size : Nat
  r : Bool
  w : Bool
  a : Bool
  deriving DecidableEq, Repr, Inhabited

/-- A pan record (R404, R433). -/
structure PanRec where
  id : Nat
  /-- Delta only: the pan ceases. -/
  remove : Bool
  ringX : Bool
  ringY : Bool
  ringC : Bool
  /-- Default route mode (R102). -/
  route : Nat
  x0 : Nat
  y0 : Nat
  x1 : Nat
  y1 : Nat
  nodes : List Nat
  wins : List MemWin
  paths : List (List Nat)
  deriving DecidableEq, Repr, Inhabited

/-- A child of a plan node (R434): a member, or the plan node PNODE. -/
structure Child where
  member : Bool
  index : Nat
  deriving DecidableEq, Repr, Inhabited

/-- A plan node (R231, R434). -/
structure PlanNode where
  pnode : Nat
  stripe : Nat
  root : Bool
  node : Nat
  tile : Nat
  parent : Nat
  childIdx : Nat
  edge : Nat
  farEdge : Nat
  fallback : Nat
  children : List Child
  deriving DecidableEq, Repr, Inhabited

/-- A plan of a group (R231, R434). -/
structure Plan where
  resultTree : Nat
  ctlTree : Nat
  /-- The deputy's node and tile, if there is one (R248). -/
  deputy : Option (Nat × Nat)
  nodes : List PlanNode
  deriving DecidableEq, Repr, Inhabited

/-- A group (R228 to R233, R434). -/
structure Group where
  id : Nat
  remove : Bool
  pan : Nat
  nstr : Nat
  nmem : Nat
  acw : BitVec 16
  /-- The group time limit in µs (R231). -/
  gtl : Nat
  seed : BitVec 32
  small : Nat
  /-- Axis ranges TX, TY, CP, BD as lo and hi (R228). -/
  tx : Nat × Nat
  ty : Nat × Nat
  cp : Nat × Nat
  bd : Nat × Nat
  unit : Bool
  weights : List Word
  /-- Broadcast sources: member index and tree (R246, R434). -/
  sources : List (Nat × Nat)
  plans : List Plan
  deriving DecidableEq, Repr, Inhabited

/-- A valid NODES or NODEMAP entry: chip position, node, board, memory-service tile (R432). -/
structure NodeRec where
  pos : Nat
  node : Nat
  board : Nat
  mtile : Nat
  deriving DecidableEq, Repr, Inhabited

/-- A watchpoint (R432, R510). -/
structure Watch where
  plane : Nat
  num : Nat
  acts : Nat
  base : Nat
  limit : Nat
  deriving DecidableEq, Repr, Inhabited

/-- The TRACE section (R432). -/
structure TraceCfg where
  /-- 0 off, 1 HBM, 2 trace port. -/
  sink : Nat
  /-- 0 STOP, 1 WRAP, 2 CENTRE. -/
  mode : Nat
  refMode : Bool
  mirror : Bool
  post : Nat
  base : Nat
  size : Nat
  mirrorSel : Nat
  podLead : Nat
  deriving DecidableEq, Repr, Inhabited

/-- A link record of the LINKS section (R373, R374, R432): role, far chip position or rail, circuit offset. -/
structure LinkRec where
  role : Nat
  far : Nat
  circ : Nat
  deriving DecidableEq, Repr, Inhabited

/-- An output's record of a SLOT section (R432). -/
structure SlotRec where
  tile : Nat
  /-- R142 code of the output. -/
  port : Nat
  items : List (Nat × Word)
  deriving DecidableEq, Repr, Inhabited

/-- A QMAP record (R432): the tile, the lock enable mask and the sixteen queue entries. -/
structure QmapRec where
  tile : Nat
  locks : BitVec 64
  queues : List Word
  deriving DecidableEq, Repr, Inhabited

/-- The sections of an image or delta as parsed (R432); `none` or an empty list where one is absent. -/
structure Sections where
  /-- The header (R429). -/
  kind : Nat
  node : Nat
  pod : Nat
  seq : Nat
  base : Nat
  /-- Section types carried. -/
  types : List Nat
  grid : Option (List Nat)
  repair : Option (List (Option Nat))
  calib : Option (List (Nat × Nat × Nat × Word))
  nodes : Option (List NodeRec)
  pans : List PanRec
  route : List (Nat × List (Nat × BitVec 16))
  egress : Option (List Nat × List (List (Nat × Word)))
  fence : List (Nat × List (Nat × Nat × Nat × Word))
  slot : Option (BitVec 256 × List SlotRec)
  trees : List (Nat × List (Nat × Word))
  cuPart : Option (List Word)
  groups : List Group
  /-- The numbers that each group's plans state. -/
  planNos : List (List Nat)
  formats : Option (List Word)
  qmap : List QmapRec
  sluice : Option (List Nat × List Nat)
  power : Option (List (Nat × Nat × Nat × Nat))
  faults : Option (List (Nat × Nat))
  watch : Option (List Watch)
  trace : Option TraceCfg
  links : Option (List LinkRec × List (List Nat))
  memS : Option Nat
  panset : List Nat
  nodemap : Option (List NodeRec)
  deriving DecidableEq, Repr, Inhabited

/-- The die-wide configuration in force. -/
structure Active where
  node : Nat
  pod : Nat
  /-- IMG_SEQ (R450); 0 before the first full image. -/
  seq : Nat
  /-- A full image has switched in (R442). -/
  loaded : Bool
  nodes : List NodeRec
  nodemap : List NodeRec
  /-- The NODES section was present (R432). -/
  nodesGiven : Bool
  pans : List PanRec
  groups : List Group
  /-- FORMATS entries 12 to 15 (R169). -/
  formats : List Word
  fence : List (Nat × List (Nat × Nat × Nat × Word))
  /-- Actions by fault code (R459, R432). -/
  faults : List (Nat × Nat)
  watch : List Watch
  trace : TraceCfg
  /-- Client kinds by physical tile, y * 17 + x (R394); empty where no GRID section is in force. -/
  grid : List Nat
  links : List LinkRec
  linksGiven : Bool
  detours : List (List Nat)
  memS : Nat
  /-- UP1..7 and DN1..7 (R121). -/
  up : List Nat
  dn : List Nat
  /-- Requester, floor, weight and ramp (R548). -/
  power : List (Nat × Nat × Nat × Nat)
  calib : List (Nat × Nat × Nat × Word)
  repair : List (Option Nat)
  /-- The image's own egress entries, to which R377 restores. -/
  egressTmpl : List Nat × List (List (Nat × Word))
  /-- The transit map of the section that last defined each output's table is in its banks (R603). -/
  hasSlot : Bool
  deriving DecidableEq, Repr, Inhabited

/-- The "If absent" values of R432, in force before the first full image (R442): thresholds of the note under R123, fault
actions of R459's table (none listed), trace off with a pod lead of 1,000 ticks. -/
def Active.absent : Active :=
  { (default : Active) with
    up := [24, 40, 56, 72, 96, 128, 160], dn := [16, 32, 48, 64, 80, 112, 144],
    trace := { (default : TraceCfg) with podLead := 1000 } }

/-- An image target (R435): the full shadow or a delta stage. -/
structure Target where
  /-- 0 EMPTY, 1 LOADING, 2 READY, 3 FAILED (R446). -/
  state : Nat
  /-- `IMG_LEN` when LOAD was written. -/
  len : Nat
  /-- Words received. -/
  words : List Word
  secs : Option Sections
  deriving DecidableEq, Repr, Inhabited

/-- A pending re-shape (R411, R439, R572). -/
structure Switch where
  id : SwId
  /-- T_s and D in ticks. -/
  ts : Nat
  d : Nat
  panset : List Nat
  /-- Between T_s and T_c (R413). -/
  draining : Bool
  /-- The window that armed it. -/
  win : Nat
  deriving DecidableEq, Repr, Inhabited

/-- PAN_SW_STAT of a stage (R426). -/
structure SwStat where
  last : Nat
  aborted : BitVec 8
  failed : BitVec 8
  deriving DecidableEq, Repr, Inhabited

/-- The image unit (R435 to R450). -/
structure Img where
  act : Active
  /-- Target 0 the full shadow, 1 to 4 the stages. -/
  targets : Tab Target
  lenReg : Word
  at_ : BitVec 64
  drain : Nat
  last : Nat
  err : Nat
  errTgt : Nat
  errType : Nat
  errRec : Nat
  factory : Bool
  /-- A pending RESTORE_FACTORY's tick (R444). -/
  factoryAt : Option Nat
  /-- Pending re-shapes of every kind. -/
  switches : List Switch
  swStat : Tab SwStat
  deriving DecidableEq, Repr, Inhabited

/-- What a window's PAN registers hold (R420 to R425), and its pan-reset register (R578). -/
structure PanWin where
  sel : BitVec 8
  arm : BitVec 64
  drain : Nat
  stage : Nat
  /-- PAN_RST.PAN (R578). -/
  rstPan : BitVec 8
  deriving DecidableEq, Repr

/-- A window's PAN registers after reset. -/
def PanWin.init : PanWin := { sel := 0, arm := 0, drain := 8000, stage := 0, rstPan := 0 }

/-- The pan unit (R404 to R428). -/
structure Pans where
  wins : Tab PanWin
  /-- PAN_BIND_w as 256 bits by window (R427). -/
  bind : Tab (BitVec 256)
  /-- PAN_RIGHTS_w (R428). -/
  rights : Tab (BitVec 3)
  /-- PAN_STAT.LATE and FOREIGN by pan (R423). -/
  late : Tab (BitVec 8)
  foreign : Tab (BitVec 8)
  /-- The last commit tick by pan, for R415. -/
  tc : Tab Nat
  deriving DecidableEq, Repr, Inhabited

end Sys2Proof.Machine
end

