-- ==== Sys2Proof/Machine/PartsLink.lean ====
section
/-! DEFINITION. The parts of the state of one chip-to-chip link: lanes, keeper lane, bring-up, tests and the link layer
(R331 to R392), as plain data. -/

namespace Sys2Proof.Machine

/-- One physical lane of a link, both directions (R337, R345, R349, R353, R356, R358, R360). -/
structure Lane where
  /-- LINK_LANE_n: RXST and TXST: 0 off, 1 logical lane, 2 spare, 3 failed. -/
  rxst : Nat
  txst : Nat
  cwlock : Bool
  ovr : Bool
  ctle : BitVec 5
  pre : BitVec 4
  post : BitVec 5
  main : BitVec 7
  /-- RX_READY and RX_GIVEUP of this end's receiver, and as the far end reported its own (R345). -/
  ready : Bool
  giveUp : Bool
  farReady : Bool
  farGiveUp : Bool
  /-- The far receiver's termination was detected (R344). -/
  detected : Bool
  /-- Codewords in the hunt for lock: good ones in a row, codewords since, and the last good marker's count (R337). -/
  hunt : Nat
  huntCw : Nat
  huntMark : Option (BitVec 32)
  /-- The place in the hunt at which that marker was found (R337). -/
  huntAt : Nat
  /-- Uncorrectable codewords in a row, and missing or bad markers in a row (R337). -/
  badCw : Nat
  badMark : Nat
  /-- The count of the last codeword taken, and the count of the last marker (R335, R337). -/
  cw : BitVec 32
  mark : BitVec 32
  /-- LLANE and TWO as the lane's markers state them (R335). -/
  llane : Nat
  two : Bool
  /-- No signal since the last codeword (R337). -/
  los : Bool
  /-- Codes written with OVR for the next TRAIN: CTLE, PRE, POST (R356). -/
  next : Option (BitVec 5 × BitVec 4 × BitVec 5)
  /-- Window counts (R349). -/
  winCorr : Nat
  winUnc : Nat
  winEnd : Option Nat
  /-- LINK_FEC_n (R358). -/
  corr : BitVec 24
  uncor : BitVec 8
  /-- The pattern checker (R353): history of received bits, error-free run, lock, errors in the last 1,024 bits; and
  LINK_PRBS_ERR_n (R360). -/
  hist : List Bool
  run : Nat
  plock : Bool
  errs : List Bool
  prbsErr : BitVec 32
  /-- The last 58 scrambled bits that the lane has sent, and those it has received (R333). -/
  scr : BitVec 58
  dscr : BitVec 58
  /-- Codewords in lock that wait for the other lane's of equal count: their counts and data blocks (R336, R337). -/
  rxcw : List (BitVec 32 × List (List Byte))
  /-- The pattern the generator was told to send by TEST_REQ, and its last 31 bits, the latest in bit 0 (R353). -/
  sends : Option Nat
  prbs : BitVec 31
  deriving DecidableEq, Repr, Inhabited

/-- A lane after reset: POST 8, MAIN 56 (R356). -/
def Lane.init : Lane := { (default : Lane) with post := 8, main := 56, llane := 3 }

/-- The keeper lane (R338 to R340). -/
structure Keeper where
  locked : Bool
  /-- Characters since the last K28.5, aligned idle sets in a row, whether the last character was K28.5, and errors among the
  last 16 characters (R338). -/
  since : Nat
  sets : Nat
  pos : Bool
  errs : List Bool
  /-- The fc at which comma lock was lost (R347). -/
  lostAt : Option Nat
  /-- The message being received: its bytes after K27.7 (R339), and the fc of that K27.7 (R342). -/
  rx : Option (List Byte)
  rxAt : BitVec 64
  /-- TIDE messages taken whose effect is still to come, with the fc of their arrival (R342). -/
  came : List (KMsg × BitVec 64)
  /-- Messages queued to send (R340). -/
  tx : List KMsg
  /-- The running disparity is positive: of what the lane has sent, and of what it has received (R338). -/
  txRd : Bool
  rxRd : Bool
  /-- Characters of the message or idle set under way, and whether an idle set has gone since the last message (R338). -/
  sending : List KChar
  idled : Bool
  kseq : BitVec 8
  /-- The request awaiting its answer: message, fc due, resends (R340). -/
  waits : List (KMsg × Nat × Nat)
  /-- The last request acted on and the answer given (R340). -/
  lastReq : Option (BitVec 8 × BitVec 8)
  lastAns : Option KMsg
  /-- LINK_KPR_STAT (R361). -/
  crcErr : BitVec 8
  badMsg : BitVec 8
  resend : BitVec 8
  comma : BitVec 8
  deriving DecidableEq, Repr, Inhabited

/-- A lane map switch to come (R350): the codeword count and the new map (physical lanes of logical 0 and 1; 3 none). -/
structure MapSwitch where
  n : BitVec 32
  map0 : Nat
  map1 : Nat
  /-- Physical lane released. -/
  freed : Nat
  deriving DecidableEq, Repr, Inhabited

/-- A flit waiting for its departure in a ring input's circuit buffer (R383). -/
structure CircFlit where
  cid : Nat
  vc : BitVec 2
  data : List Byte
  due : Nat
  deriving DecidableEq, Repr, Inhabited

/-- A packet or message in the transmit buffer of the link layer (R365, R368): its bytes and what has been framed. -/
structure TxItem where
  /-- 0 to 3 T-plane VCs, 4 and 5 C-plane VCs. -/
  vc : Nat
  bytes : List Byte
  /-- Bytes already in frames. -/
  framed : Nat
  /-- The packet's tail has come from the router. -/
  whole : Bool
  deriving DecidableEq, Repr, Inhabited

/-- A frame kept for replay (R369): the frame, its bytes' packet, and when it last left. -/
structure RepFrame where
  frame : Frame
  /-- The whole packet or message the frame is part of, for R379. -/
  item : TxItem
  at_ : Nat
  deriving DecidableEq, Repr, Inhabited

/-- The link layer of one link (R363 to R392). -/
structure LinkLayer where
  /-- The next FSEQ to assign and the next expected (R369, R370). -/
  nextSeq : BitVec 10
  expected : BitVec 10
  /-- Unacknowledged frames, oldest first, and how many of them a replay still has to send again (R371). -/
  replay : List RepFrame
  toReplay : Nat
  replays : Nat
  /-- A NAK is outstanding until the fc; a NAK is due (R370). -/
  nakUntil : Option Nat
  nakDue : Bool
  /-- Payload blocks the far receiver has room for, by VC 0 to 5 (R367). -/
  credit : Tab Nat
  /-- Blocks freed and not yet returned, by VC (R367), and the fc since when something waits to be returned (R372). -/
  owed : Tab Nat
  oweSince : Option Nat
  ackOwed : Bool
  tx : List TxItem
  /-- The VC whose TDATA frame went last (R372). -/
  rr : Nat
  /-- CIRC frames due (R372, R382). -/
  circTx : List CircFlit
  circRx : List CircFlit
  lastSent : Nat
  /-- The receive buffers (R367): T-plane flits by VC and C-plane messages by VC 4 and 5, each with the blocks it takes. -/
  rxq : Tab (List (Flit × Nat))
  rxc : Tab (List (List CFlit × Nat))
  /-- VCs whose packet has not ended yet, and VCs whose packet is being discarded. -/
  rxOpen : List Nat
  rxDisc : List Nat
  /-- DET packets taken for another chip and not yet acknowledged there (R378): the FSEQ of the first frame, and the header. -/
  relays : List (BitVec 10 × List Byte)
  /-- Packets kept for retransmission after the loss of the link (R379). -/
  kept : List TxItem
  /-- Credits and windows the far end stated in CAPS (R367, R373). -/
  farT : Nat
  farC : Nat
  farCirc : Bool
  /-- LINK_LL_CFG (R386). -/
  rlim : BitVec 4
  rto : BitVec 16
  /-- LINK_LL_STAT (R387). -/
  lost : Bool
  /-- The link has left ACTIVE and is still to be declared lost (R376, R495); the egress entries have been rewritten (R377). -/
  lossDue : Bool
  rewritten : Bool
  toRx : Bool
  ovrRx : Bool
  ovrEv : Bool
  /-- LINK_LL_CNT (R388). -/
  crcErr : BitVec 8
  replayCnt : BitVec 8
  nakSent : BitVec 8
  cdrop : BitVec 8
  /-- ACTIVE since the fc (R377); down since the fc (R381). -/
  activeAt : Option Nat
  lostAt : Option Nat
  deriving DecidableEq, Repr, Inhabited

/-- One chip-to-chip link. -/
structure Link where
  /-- LINK_STAT.STATE and REASON (R355). -/
  state : Nat
  reason : Nat
  rx0 : Nat
  rx1 : Nat
  tx0 : Nat
  tx1 : Nat
  attempts : Nat
  /-- LINK_CTL (R354). -/
  en : Bool
  expect : Bool
  spareEn : Bool
  loop : Nat
  preset : Nat
  expVld : Bool
  expNode : BitVec 12
  expLink : BitVec 8
  lanes : Tab Lane
  kpr : Keeper
  /-- The keeper's far termination was seen, and when (R343). -/
  kdet : Option Nat
  /-- The end of the present stage, of the DOWN holdoff, of the EXPECT wait (R343). -/
  stageDue : Option Nat
  holdoff : Option Nat
  expectDue : Option Nat
  helloDue : Nat
  lockDue : Nat
  /-- LOCK report of the far end: every mapped lane locked and deskewed (R343). -/
  farLock : Bool
  /-- The last LOCK message sent reported the same of this end (R343). -/
  lockTold : Bool
  /-- CAPS_ACK 0 sent, and received (R343). -/
  capsSent : Bool
  capsRcvd : Bool
  /-- The fc of codeword 0 of the transmit direction (R346), its pending map switch, and requests that wait for it (R350). -/
  lockAt : Nat
  txSw : Option MapSwitch
  swapWait : List KMsg
  /-- A failed logical lane whose spare is being woken, with the reason to state (R555). -/
  swapDue : Option (Nat × Nat)
  /-- The transmit crossing: frames that the lanes have not begun, and the rest of the one under way (R31, R336); and the received link
  stream's blocks of a frame that is not whole. -/
  txf : List Frame
  txb : List (List Byte)
  rxb : List (List Byte)
  /-- In TEST: a loop is in force at this end as requester or as the looping side (R352). -/
  farLoop : Bool
  looping : Bool
  /-- LINK_THR (R357). -/
  corrLim : BitVec 16
  uncLim : BitVec 8
  /-- LINK_PRBS_CTL (R359). -/
  pat : Nat
  gen : BitVec 3
  chkEn : BitVec 3
  /-- LINK_FAR (R362). -/
  farVld : Bool
  farLink : BitVec 8
  farNode : BitVec 12
  farRole : BitVec 8
  ll : LinkLayer
  deriving DecidableEq, Repr, Inhabited

/-- A link after reset: DISABLED, maps none, SPARE_EN 1, PRESET 1, limits 20,000 and 4, PAT 2, RLIM 8, RTO 2000 (R354,
R355, R357, R359, R386). -/
def Link.init : Link :=
  { (default : Link) with
    rx0 := 3, rx1 := 3, tx0 := 3, tx1 := 3, spareEn := true, preset := 1, corrLim := 20000, uncLim := 4, pat := 2,
    ll := { (default : LinkLayer) with rlim := 8, rto := 2000 } }

end Sys2Proof.Machine
end

