-- ==== Sys2Proof/Machine/PartsMem.lean ====
section
/-! DEFINITION. The parts of the state of the M-plane: M-routers, M-ports and slice attachments (R307 to R330), as plain
data. -/

namespace Sys2Proof.Machine

/-- Whose request an M-port's is. -/
inductive MOrig where
  /-- The client's, under its MPQ_TAG (R310). -/
  | mp (tag : BitVec 8)
  /-- A local MWRITE or MREAD descriptor's: the SI's number of it, and where a READ's data goes in its buffer (R583). -/
  | desc (uid ofs : Nat)
  /-- A board peer's MWRITE or MREAD that this tile serves: its number, and the offset of a READ's data (R323). -/
  | serve (id ofs : Nat)
  /-- A rake write (R503): its records, and the time words of the first and the last. -/
  | rake (n : Nat) (first last : Word64)
  /-- A check unit's scan read (R536): the unit and the read's number there. -/
  | scan (u k : Nat)
  deriving DecidableEq, Repr, Inhabited

/-- A request of an M-port (R310). -/
structure MReq where
  orig : MOrig
  kind : MKind
  slice : Nat
  row : Nat
  lo : Nat
  len : Nat
  data : List Byte
  /-- Its tag on the plane, once issued, and when it counts as lost (R325). -/
  tag : Nat
  deadline : Nat
  /-- It was completed ERROR for want of an answer; its tag is held until the fc (R325). -/
  lost : Option Nat
  deriving DecidableEq, Repr, Inhabited

/-- What waits at an M-port, in order: a request, or a FENCE with the client's tag (R320). -/
inductive MWait where
  | req (r : MReq)
  | fence (tag : BitVec 8)
  deriving DecidableEq, Repr, Inhabited

/-- A board peer's message that a memory-service tile performs (R323). -/
structure Serve where
  id : Nat
  hdr : THdr
  read : Bool
  /-- Every packet of the message has been delivered. -/
  whole : Bool
  /-- Some request of it was answered ERROR. -/
  bad : Bool
  /-- Requests not yet answered. -/
  left : Nat
  /-- Data read, by offset. -/
  got : List (Nat × List Byte)
  deriving DecidableEq, Repr, Inhabited

/-- The M-port of a tile (R310, R314, R320, R323, R330). -/
structure MPort where
  /-- Requests outstanding, in issue order, and those waiting. -/
  reqs : List MReq
  line : List MWait
  /-- The share balance at an ft (R314). -/
  bal : Nat
  balAt : Nat
  serves : List Serve
  nextServe : Nat
  /-- STOP_MP_STAT (R330). -/
  winviol : BitVec 8
  err : BitVec 8
  /-- Bytes of read return taken in the fabric cycle named: at most 256 in one (R315). -/
  retAt : Nat
  retBytes : Nat
  deriving DecidableEq, Repr, Inhabited

/-- An M-router input buffer that a message on its way has taken: the flits so far, or discarded for an uncorrectable flit (R307,
R325). Inputs are 0 N, 1 E, 2 S, 3 W, 4 M-port, 5 and 6 the tile's two slice attachments. -/
structure MRx where
  port : Nat
  sub : Nat
  ret : Bool
  got : Nat
  bad : Bool
  deriving DecidableEq, Repr, Inhabited

/-- One sub-channel of an M-router output (R309): the fabric cycle until which it sends a message, and the input that each VC last
granted. -/
structure MOut where
  port : Nat
  sub : Nat
  busy : Nat
  lastReq : Nat
  lastRet : Nat
  deriving DecidableEq, Repr, Inhabited

/-- A request at a slice port: its tag there, 0 to 31, or 32 where it was refused and never presented; the message; for an atomic the old
word once read; and its answer, until it leaves for the plane in its source's order (R313, R319, R321, R589). -/
structure SlPend where
  tag : Nat
  msg : MMsg
  old : Option (List Byte)
  ans : Option (Bool × List Byte)
  deriving DecidableEq, Repr, Inhabited

/-- A slice attachment (R313, R329). -/
structure Attach where
  /-- Requests of every source, in arrival order. -/
  queue : List MMsg
  /-- The source tile served last. -/
  ptr : Nat
  pend : List SlPend
  /-- An atomic is between its READ and its WRITE (R321). -/
  busy : Bool
  /-- MEM_SLICE_STAT (R329). -/
  alive : Bool
  timeout : Bool
  ovr : Bool
  errcnt : BitVec 8
  /-- Events taken from SLE_CODE and not yet read by the fabric (R31). -/
  events : List Byte
  deriving DecidableEq, Repr, Inhabited

end Sys2Proof.Machine
end

