-- ==== Sys2Proof/Machine/PartsTile.lean ====
section
/-! DEFINITION. The parts of a stop that the C-plane, queues and locks name (R271 to R306), as plain data. -/

namespace Sys2Proof.Machine

/-- One VC's buffer at one input of a C-plane router (R272): the message in it, where it goes and what has gone. -/
structure CBuf where
  flits : List CFlit
  /-- The output it takes. -/
  dest : Nat
  /-- The output has granted it; flits that have crossed. -/
  granted : Bool
  sent : Nat
  /-- The ft at which its message came, for the age of its wait (R512). -/
  since : Nat
  /-- Flits are discarded until the next TAIL (R271). -/
  disc : Bool
  deriving DecidableEq, Repr, Inhabited

/-- The C-plane router of a stop (R271 to R273). -/
structure CRouter where
  /-- Buffers, keyed by 2 * input + VC. -/
  bufs : Tab CBuf
  /-- The buffer, 2 * input + VC, that holds each output while its message crosses. -/
  holder : Tab (Option Nat)
  /-- Outputs' VCs, 2 * output + VC, whose downstream buffer is taken. -/
  busy : List Nat
  /-- Round-robin pointers, by 2 * output + VC. -/
  ptr : Tab Nat
  /-- Messages the stop itself has to send, the SI input (4) of the router, oldest first. -/
  cq : List CMsg
  deriving DecidableEq, Repr, Inhabited

/-- A record being written into a ring (R290): the message, the offset of its record, and the pad before it, if one. -/
structure RingWrite where
  hdr : THdr
  ofs : Nat
  lap : Bool
  pad : Option Nat
  deriving DecidableEq, Repr, Inhabited

/-- A register queue or a ring queue (R278, R287). -/
structure Queue where
  /-- 0 UNMAPPED, 1 CLOSED, 2 OPEN, 3 PAUSED (R300). -/
  state : Nat
  disp : Bool
  handler : BitVec 16
  depth : Nat
  epoch : BitVec 8
  /-- Entries of 64 bytes, oldest first (R282). -/
  entries : List (List Byte)
  /-- An entry was discarded since the last pop (R286). -/
  dropped : Bool
  /-- Ring: base, size, WR and RD (R287). -/
  base : BitVec 40
  size : BitVec 31
  wrLap : Bool
  wrOfs : Nat
  rdLap : Bool
  rdOfs : Nat
  /-- Records being written, oldest first (R290). -/
  writes : List RingWrite
  /-- Message records between RD and WR: lap and offset (R284). -/
  recs : List (Bool × Nat)
  deriving DecidableEq, Repr, Inhabited

/-- An entry of the alive table (R281). -/
structure Alive where
  snode : Nat
  stile : Nat
  queue : Nat
  last : BitVec 4
  deriving DecidableEq, Repr, Inhabited

/-- The queue block of a tile (R278 to R292, R298 to R303). -/
structure QBlock where
  /-- 0 to 15 HQ0 to HQ15, 16 to 31 RQ0 to RQ15; an unlisted queue is UNMAPPED. -/
  qs : Tab Queue
  /-- Least recently used first, at most 128. -/
  alive : List Alive
  /-- Queues of accepted messages whose dispatch record has not left, oldest first (R284). -/
  disp : List Nat
  /-- The fc in which the block last acted, and what it did last there: 1 a command, 2 a pop, 3 an arrival (R283). -/
  turn : Option (Nat × Nat)
  /-- A host's commands and arrivals that wait for a later fc, oldest first (R283). -/
  wait : List Instr
  /-- Spare entry rows left (R286). -/
  spares : Nat
  /-- Entry rows that each queue has lost for want of a spare (R474). -/
  gone : Tab Nat
  /-- STOP_Q_SEL (R299). -/
  sel : Nat
  /-- STOP_Q_CNT (R303). -/
  notready : BitVec 8
  refused : BitVec 8
  skip : BitVec 8
  repeats : BitVec 8
  deriving DecidableEq, Repr, Inhabited

/-- A queue block after reset: two spare rows (R286). -/
def QBlock.init : QBlock := { (default : QBlock) with spares := 2 }

/-- A lock (R293). -/
structure Lock where
  /-- 0 FREE, 1 HELD, 2 ORPHANED, 3 DISABLED (R305). -/
  state : Nat
  node : Nat
  tile : Nat
  rank : BitVec 20
  gen : BitVec 16
  orph : Bool
  /-- The last releaser: node, tile and generation. -/
  last : Option (Nat × Nat × BitVec 16)
  deriving DecidableEq, Repr, Inhabited

/-- A lock after reset: DISABLED (R305). -/
def Lock.init : Lock := { (default : Lock) with state := 3 }

/-- The lock table of a stop (R293, R304 to R306). -/
structure LockTab where
  /-- An unlisted lock is DISABLED. -/
  locks : Tab Lock
  /-- STOP_LOCK_SEL (R304). -/
  sel : Nat
  grant : BitVec 8
  ogrant : BitVec 8
  lost : BitVec 8
  orphaned : BitVec 8
  deriving DecidableEq, Repr, Inhabited

/-- A QSEND, LOCK_ACQ or LOCK_REL that the SI originates (R276, R295, R586). -/
structure CReq where
  /-- `OP` of R586: 5 QSEND, 6 LOCK_ACQ, 7 LOCK_REL. -/
  op : Nat
  /-- The MSG request's tag; none for a release that the SI sends by itself (R297). -/
  tag : Option (BitVec 4)
  msg : CMsg
  /-- It has its MSEQ and its place in flight (R82, R83). -/
  issued : Bool
  /-- Answer timer (R90). -/
  deadline : Option Nat
  tries : Nat
  notReady : Nat
  backoff : Option Nat
  lastCode : Option Nat
  /-- LOCK_ACQ: when its limit expires, consecutive LOST answers, the end of the LOST backoff, and the generation last
  answered (R295). -/
  limit : Option Nat
  losts : Nat
  lostDue : Option Nat
  gen : BitVec 16
  deriving DecidableEq, Repr, Inhabited

/-- A grant that the SI holds (R297): lock, node and tile of its table, generation. -/
structure HeldLock where
  lock : BitVec 6
  node : BitVec 12
  tile : BitVec 9
  gen : BitVec 16
  deriving DecidableEq, Repr, Inhabited

/-- The C-plane requests of an SI (R276, R295, R297). -/
structure CReqs where
  reqs : List CReq
  held : List HeldLock
  /-- MSEQ values of the C-plane counter issued, with the ft of issue (R82). -/
  issuedAt : List (Nat × Nat)
  deriving DecidableEq, Repr, Inhabited

end Sys2Proof.Machine
end

