-- ==== Sys2Proof/Machine/State.lean ====
section
/-! DEFINITION. The state of the Harfel block: everything the spec gives it, as plain data, with the queue of waiting
commands; the reasons a step can stop; and the state after reset. -/

namespace Sys2Proof.Machine

/-- Why a step stops. Each constructor is raised when a command names a unit that the build does not have: R12, R20 and
R393 say it does not exist. Safe: nothing is claimed of what the hardware does, since it has no such unit. -/
inductive Fault where
  /-- Raised by a command at a tile outside the logical grid (R12). Safe. -/
  | noSuchTile (t : Nat)
  /-- Raised by a command at a port that the tile does not have (R20, R100). Safe. -/
  | noSuchPort (t port : Nat)
  /-- Raised by a command on a link number at or above BLK_GEOM.LINKS (R8). Safe. -/
  | noSuchLink (n : Nat)
  /-- Raised by a command on a slice that the build does not have (R8, R393). Safe. -/
  | noSuchSlice (sl : Nat)
  /-- Raised by a command on a check unit beyond the eight (R531). Safe. -/
  | noSuchUnit (u : Nat)
  /-- Raised by a command of the M-plane at a tile of an HF-S build, whose stops have no M-plane router and no M-port (R21). Safe. -/
  | noMPlane (t : Nat)
  deriving DecidableEq, Repr

/-- Why a command has no answer of the model. -/
inductive Refusal where
  /-- Raised by an arm of exec whose command has no meaning yet, named by its mnemonic. Safe. -/
  | notModelled (mnemonic : String)
  deriving DecidableEq, Repr

/-- One stop, by logical tile (R21). -/
structure Stop where
  rt : Router
  ro : Routes
  sl : Sluice
  si : Si
  pb : Probe
  c : CRouter
  q : QBlock
  lk : LockTab
  cr : CReqs
  cu : Cu
  co : Coll
  mp : MPort
  /-- Messages being received at the M-router's inputs (R307). -/
  mrx : List MRx
  /-- Whole messages in the M-router's input buffers: input, sub-channel and message (R307, R309). -/
  mheld : List (Nat × Nat × MMsg)
  /-- The M-router's outputs by sub-channel; an unlisted one is idle (R309). -/
  mouts : List MOut
  /-- STOP_XSTAT's W1C bits, and ALIVE (R36). -/
  xst : BitVec 16
  alive : Bool
  /-- What the client has written into its CMD, MSG and MP crossings and the stop has not taken, oldest first (R31). -/
  cmdq : List Desc
  msgq : List Instr
  mpq : List Instr
  deriving DecidableEq, Repr

/-- A stop after reset. -/
def Stop.init : Stop :=
  { rt := Router.init, ro := default, sl := default, si := default, pb := default, c := default,
    q := QBlock.init, lk := default, cr := default, cu := default, co := default, mp := default,
    mrx := [], mheld := [], mouts := [], xst := 0, alive := false, cmdq := [], msgq := [], mpq := [] }

/-- The state of the block. -/
structure State where
  /-- The commands waiting, first in, first out. -/
  pending : List Instr
  build : Build
  /-- BLK_ID.STEP (R7). -/
  silicon : BitVec 8
  /-- Fabric cycles since the fabric clock locked: the block's own clock for every time limit it counts. -/
  fc : Nat
  /-- Fabric cycles that the fabric has run: it holds while a harvest freezes the chip (R491, R499), and with it every time
  limit of the frozen units. -/
  ft : Nat
  tide : Tide
  /-- Reference mode is in force (R9). -/
  refMode : Bool
  /-- Rows by y; an unlisted row is as R13's order 3 leaves it. -/
  rows : Tab Row
  /-- QTRAIN_OK and PHASE_LOST (R37). -/
  qtrainOk : Bool
  phaseLost : Bool
  /-- Stops by logical tile id; an unlisted stop is as reset leaves it. -/
  stops : Tab Stop
  /-- The bank of slot tables now active (R144, R167), and the scheduled swaps: the tick of each, and whether ARM scheduled it. -/
  slotBank : Bool
  slotPend : List (Nat × Bool)
  /-- Crossings by the code of their path; an unlisted crossing is open (R34, R35). -/
  xings : List (XPath × Crossing)
  img : Img
  pans : Pans
  flt : Flt
  hrv : Harvest
  rake : Rake
  /-- Check units 0 to 7 (R531); an unlisted unit is as reset leaves it. -/
  chk : Tab Check
  /-- The scan round-robin pointer of the check units (R536). -/
  chkPtr : Nat
  pwr : Power
  start : Start
  ctrl : Ctrl
  /-- E2ESEQ that the chip gives next, per destination node (R93). -/
  e2eSeq : Tab (BitVec 24)
  /-- The headers of packets of other chips that are crossing this one, each with the column of the ring tile by which it came
  in (R107). -/
  entered : List (THdr × Nat)
  /-- Links by number; an unlisted link is as reset leaves it (R354). -/
  links : Tab Link
  /-- Slice attachments by number; an unlisted one is as reset leaves it (R313). -/
  slices : Tab Attach
  /-- What has left the block's units, oldest first. -/
  out : List OutEv
  deriving DecidableEq, Repr

/-- The state right after reset. -/
def State.reset : State :=
  { pending := [], build := .hfE, silicon := 0x10, fc := 0, ft := 0, tide := Tide.init, refMode := false,
    rows := [], qtrainOk := false, phaseLost := false, stops := [],
    slotBank := false, slotPend := [], xings := [], img := { (default : Img) with drain := 8000, act := Active.absent },
    pans := default, flt := Flt.init, hrv := Harvest.init, rake := Rake.init, chk := [], chkPtr := 0, pwr := Power.init,
    start := { (default : Start) with phase := 5 }, ctrl := Ctrl.init, e2eSeq := [], entered := [], links := [], slices := [], out := [] }

end Sys2Proof.Machine
end

