-- ==== Sys2Proof/Machine/Ops.lean ====
section
/-! DEFINITION. The named operations that the meanings share: geometry and the repair map (R12 to R26), access to stops,
raising a fault (R455, R456), replies of the control port with their attention nibble (R591, R597), and the forms of a
meaning: what a command of each kind may touch. -/

namespace Sys2Proof.Machine

/-! ## Time -/

/-- fc in a microsecond and in a millisecond (00_scope.md, units: fc = 0.5 ns). -/
def usFc : Nat := 2000
def msFc : Nat := 2000000

/-- The tide count as a number. -/
def State.now (s : State) : Nat := s.tide.count.toNat

/-- The tide stamp: bits 31:0 of the count (R42). -/
def State.stamp (s : State) : Word := s.tide.count.setWidth 32

/-- The count in fc: count times 4 plus phase (R342). -/
def State.nowFc (s : State) : BitVec 64 := s.tide.count * 4 + BitVec.ofNat 64 s.tide.phase

/-- It is phase 0 of tick `t`, at which an action scheduled for that tick takes place (R38). -/
def State.atTick (s : State) (t : Nat) : Bool := s.now == t && s.tide.phase == 0

/-- The slot index of the current fabric cycle (R39). -/
def State.slotIndex (s : State) : Nat := (s.now % 64) * 4 + s.tide.phase

/-- A 32-bit stamp extended to the 64-bit value nearest the own count (R42). -/
def extendStamp (now : Nat) (st : Word) : Int :=
  let d : Int := (BitVec.toInt (st - BitVec.ofNat 32 now))
  (now : Int) + d

/-! ## Geometry -/

/-- Logical columns (R8, R12). -/
def cols : Build → Nat
  | .hfE => 24
  | .hfS => 16

/-- Physical columns (R8). -/
def pcols (b : Build) : Nat := cols b + 1

/-- Link ports (R1, R8). -/
def nLinks : Build → Nat
  | .hfE => 64
  | .hfS => 256

/-- Memory slices (R1, R8). -/
def nSlices : Build → Nat
  | .hfE => 96
  | .hfS => 0

/-- Whether `t` is a tile of the logical grid (R12). -/
def tileOk (b : Build) (t : Nat) : Bool := decide (t < 16 * cols b)

/-- The links R20 attaches to a tile, in ascending link number; ring port j is the j-th. -/
def linksOf (b : Build) (t : Nat) : List Nat :=
  let x := tileX t
  let y := tileY t
  match b with
  | .hfE => (if x = 0 then [2 * y, 2 * y + 1] else []) ++ (if x = 23 then [32 + 2 * y, 33 + 2 * y] else [])
  | .hfS =>
    (if y = 0 then (List.range 4).map (4 * x + ·) else []) ++ (if x = 15 then (List.range 4).map (64 + 4 * y + ·) else []) ++
    (if y = 15 then (List.range 4).map (128 + 4 * x + ·) else []) ++ (if x = 0 then (List.range 4).map (192 + 4 * y + ·) else [])

/-- The tile to which R20 attaches link `n`. -/
def linkTile (b : Build) (n : Nat) : Nat :=
  match b with
  | .hfE => if n < 32 then tileId 0 (n / 2) else tileId 23 ((n - 32) / 2)
  | .hfS =>
    if n < 64 then tileId (n / 4) 0 else if n < 128 then tileId 15 ((n - 64) / 4)
    else if n < 192 then tileId ((n - 128) / 4) 15 else tileId 0 ((n - 192) / 4)

/-- The ring port of its tile that link `n` is (R20). -/
def linkPort (b : Build) (n : Nat) : Nat := ((linksOf b (linkTile b n)).idxOf n)

/-- The slices R20 attaches to a tile. -/
def slicesOf (b : Build) (t : Nat) : List Nat :=
  match b with
  | .hfE =>
    (if tileY t = 0 then [2 * tileX t, 2 * tileX t + 1] else []) ++
    (if tileY t = 15 then [48 + 2 * tileX t, 49 + 2 * tileX t] else [])
  | .hfS => []

/-- The tile to which R20 attaches slice `sl`. -/
def sliceTile (sl : Nat) : Nat := if sl < 48 then tileId (sl / 2) 0 else tileId ((sl - 48) / 2) 15

/-- The logical neighbour of `t` in direction 0 N, 1 E, 2 S, 3 W (R100). -/
def neighbour (b : Build) (t p : Nat) : Option Nat :=
  let x := tileX t
  let y := tileY t
  match p with
  | 0 => if y = 0 then none else some (tileId x (y - 1))
  | 1 => if x + 1 < cols b then some (tileId (x + 1) y) else none
  | 2 => if y < 15 then some (tileId x (y + 1)) else none
  | 3 => if x = 0 then none else some (tileId (x - 1) y)
  | _ => none

/-- The direction that faces direction `p`. -/
def facing (p : Nat) : Nat := (p + 2) % 4

/-- Whether the tile has port `p`: 0 N, 1 E, 2 S, 3 W, 4 SI, 5 + j ring port j (R100, R156). -/
def portOk (b : Build) (t p : Nat) : Bool :=
  if p < 4 then (neighbour b t p).isSome else decide (p = 4 ∨ p < 5 + (linksOf b t).length)

/-- The ports of a tile. -/
def portsOf (b : Build) (t : Nat) : List Nat := (List.range 13).filter (portOk b t)

/-- The code R142 gives port `p`. -/
def slotCode (p : Nat) : Nat := if p < 5 then p else p + 3

/-- The port that an R142 code names, if it is one of the tile's. -/
def slotPort (b : Build) (t code : Nat) : Option Nat :=
  let p := if code < 5 then code else if code ≥ 8 then code - 3 else 99
  if portOk b t p then some p else none

/-- A row of the repair map: R13's order 3 where nothing is listed. -/
def State.row (s : State) (y : Nat) : Row :=
  Tab.get { (default : Row) with col := pcols s.build - 1 } s.rows y

/-- Row `y` becomes `r`. -/
def State.setRow (s : State) (y : Nat) (r : Row) : State := { s with rows := s.rows.set y r }

/-- The physical column that carries logical column `x` of row `y` (R14). -/
def State.physX (s : State) (x y : Nat) : Nat := if x < (s.row y).col then x else x + 1

/-- The index of the physical tile that carries L(x,y): y * 32 + x (R454). -/
def State.phys (s : State) (t : Nat) : Nat := tileY t * 32 + s.physX (tileX t) (tileY t)

/-- The logical tile that physical tile P(px,py) carries, if it is not the removed one (R14, R22). -/
def State.logical (s : State) (px py : Nat) : Option Nat :=
  let c := (s.row py).col
  if px < pcols s.build ∧ py < 16 ∧ px ≠ c then some (tileId (if px < c then px else px - 1) py) else none

/-- The clock quadrant of a physical tile: 0 NW, 1 NE, 2 SW, 3 SE (R25). -/
def quadrant (b : Build) (px py : Nat) : Nat :=
  (if py < 8 then 0 else 2) + (if px ≤ (match b with | .hfE => 12 | .hfS => 8) then 0 else 1)

/-- What a hop from `t` in direction `p` adds: 1 fc over a skip wire and 2 fc across a quadrant boundary (R18, R26). -/
def State.hopExtra (s : State) (t p : Nat) : Nat :=
  match neighbour s.build t p with
  | none => 0
  | some u =>
    let ax := s.physX (tileX t) (tileY t)
    let bx := s.physX (tileX u) (tileY u)
    (if tileY t = tileY u ∧ (ax + 1 < bx ∨ bx + 1 < ax) then 1 else 0) +
    (if quadrant s.build ax (tileY t) = quadrant s.build bx (tileY u) then 0 else 2)

/-- The tile at which the control port attaches: L(0,8) (R598). -/
def ctlTile : Nat := tileId 0 8

/-! ## Stops -/

/-- The stop at logical tile `t`. -/
def State.stop (s : State) (t : Nat) : Stop := Tab.get Stop.init s.stops t

/-- The stop at `t` becomes `st`. -/
def State.setStop (s : State) (t : Nat) (st : Stop) : State := { s with stops := s.stops.set t st }

/-- The stop at `t` is changed by `f`. -/
def State.modStop (s : State) (t : Nat) (f : Stop → Stop) : State := s.setStop t (f (s.stop t))

/-- The T-plane router of the stop at `t` is changed by `f`. -/
def State.modRt (s : State) (t : Nat) (f : Router → Router) : State := s.modStop t fun st => { st with rt := f st.rt }

/-- The routing tables of the stop at `t` are changed by `f`. -/
def State.modRo (s : State) (t : Nat) (f : Routes → Routes) : State := s.modStop t fun st => { st with ro := f st.ro }

/-- The sluice of the stop at `t` is changed by `f`. -/
def State.modSl (s : State) (t : Nat) (f : Sluice → Sluice) : State := s.modStop t fun st => { st with sl := f st.sl }

/-- The message side of the SI at `t` is changed by `f`. -/
def State.modSi (s : State) (t : Nat) (f : Si → Si) : State := s.modStop t fun st => { st with si := f st.si }

/-- Link `n`. -/
def State.link (s : State) (n : Nat) : Link := Tab.get Link.init s.links n

/-- Link `n` is changed by `f`. -/
def State.modLink (s : State) (n : Nat) (f : Link → Link) : State := { s with links := s.links.set n (f (s.link n)) }

/-- The keeper lane of link `n` is changed by `f`. -/
def State.modKpr (s : State) (n : Nat) (f : Keeper → Keeper) : State := s.modLink n fun l => { l with kpr := f l.kpr }

/-- The link layer of link `n` is changed by `f`. -/
def State.modLl (s : State) (n : Nat) (f : LinkLayer → LinkLayer) : State := s.modLink n fun l => { l with ll := f l.ll }

/-- Lane `k` of a link. -/
def Link.lane (l : Link) (k : Nat) : Lane := Tab.get Lane.init l.lanes k

/-- Lane `k` of a link is changed by `f`. -/
def Link.modLane (l : Link) (k : Nat) (f : Lane → Lane) : Link := { l with lanes := l.lanes.set k (f (l.lane k)) }

/-- The links of the build. -/
def State.allLinks (s : State) : List Nat := List.range (nLinks s.build)

/-- An answer or an unanswered message is queued on the keeper lane of link `n` (R340). -/
def State.keeperSend (s : State) (n : Nat) (k : KMsg) : State := s.modKpr n fun q => { q with tx := q.tx ++ [k] }

/-- A new request on the keeper lane of link `n`: it takes the next KSEQ and awaits its answer (R340). -/
def State.keeperAsk (s : State) (n : Nat) (ktype : BitVec 8) (data : List Byte) : State :=
  s.modKpr n fun q =>
    let k : KMsg := { ktype := ktype, kseq := q.kseq + 1, data := data }
    { q with kseq := q.kseq + 1, tx := q.tx ++ [k], waits := q.waits ++ [(k, 0, 0)] }

/-- Something leaves a unit. -/
def State.emit (s : State) (e : OutEv) : State := { s with out := s.out ++ [e] }

/-- Several things leave units, in order. -/
def State.emits (s : State) (es : List OutEv) : State := { s with out := s.out ++ es }

/-! ## Nodes and pans -/

/-- The node id in force (R429, R442). -/
def State.node (s : State) : Nat := s.img.act.node

/-- Whether a pan includes this die (R405). -/
def State.panHere (s : State) (p : PanRec) : Bool := p.nodes.contains s.node

/-- The record of pan `id` of the active image. -/
def State.pan? (s : State) (id : Nat) : Option PanRec := s.img.act.pans.find? (fun p => p.id == id)

/-- Whether a tile lies in a pan's rectangle. -/
def PanRec.has (p : PanRec) (t : Nat) : Bool :=
  decide (p.x0 ≤ tileX t ∧ tileX t ≤ p.x1 ∧ p.y0 ≤ tileY t ∧ tileY t ≤ p.y1)

/-- Tiles of a pan's rectangle (R79's T). -/
def PanRec.tiles (p : PanRec) : Nat := (p.x1 + 1 - p.x0) * (p.y1 + 1 - p.y0)

/-- The pan of a tile, if one includes it (R153, R405). -/
def State.tilePan (s : State) (t : Nat) : Option PanRec := s.img.act.pans.find? (fun p => p.has t && s.panHere p)

/-- The node and tile of rank `r` of a pan (R79). -/
def PanRec.rank (p : PanRec) (r : Nat) : Option (Nat × Nat) :=
  let x := p.x1 + 1 - p.x0
  (p.nodes[r / p.tiles]?).map fun n => (n, tileId (p.x0 + (r % p.tiles) % x) (p.y0 + (r % p.tiles) / x))

/-- The rank of a tile of node `n` within a pan (R79). -/
def PanRec.rankOf (p : PanRec) (n t : Nat) : Nat :=
  p.nodes.idxOf n * p.tiles + (tileY t - p.y0) * (p.x1 + 1 - p.x0) + (tileX t - p.x0)

/-- The own chip's entry of the board node table: NODES, or chip position 0 of board 0 where no NODES section is in force
(R76, R432). -/
def State.boardNodes (s : State) : List NodeRec :=
  if s.img.act.nodesGiven then s.img.act.nodes else [{ pos := 0, node := s.node, board := 0, mtile := 0 }]

/-- The own chip position (R76). -/
def State.chipPos (s : State) : Nat := ((s.boardNodes.find? (fun r => r.node == s.node)).map (·.pos)).getD 0

/-- The node at a chip position (R76). -/
def State.nodeAt (s : State) (pos : Nat) : Option NodeRec := s.boardNodes.find? (fun r => r.pos == pos)

/-! ## Faults -/

/-- The stop whose SI sends a unit's C-plane messages: the tile of a tile's unit, of a link or of a slice (R20), and the
control tile for a block unit (R598) or where that stop's router is fenced. -/
def State.unitTile (s : State) (unit : Nat) : Nat :=
  let i := unit % 4096
  let t := match unit / 4096 with
    | 7 | 8 => linkTile s.build i
    | 9 => sliceTile i
    | 10 => ctlTile
    | _ => (s.logical (i % 32) (i / 32)).getD ctlTile
  if (s.stop t).ro.routerFenced then ctlTile else t

/-- The stop at `t` has a C-plane message to send (R272). -/
def State.cSend (s : State) (t : Nat) (m : CMsg) : State :=
  s.modStop t fun st => { st with c := { st.c with cq := st.c.cq ++ [m] } }

/-- A C-plane message that the block originates at tile `t` (R406): PAN 0 and no sequence of its own. -/
def State.blockMsg (s : State) (t : Nat) (kind : BitVec 4) (dnode dtile : Nat) (arg : BitVec 32) (data : List Byte) : CMsg :=
  { hdr := { (default : CHdr) with
      stile := BitVec.ofNat 9 t, snode := BitVec.ofNat 12 s.node, dtile := BitVec.ofNat 9 dtile, dnode := BitVec.ofNat 12 dnode,
      plen := BitVec.ofNat 6 data.length, mkind := kind, arg := arg }
    data := data }

/-- The payload of a FAULT message (R456). -/
def FaultMsg.bytes (f : FaultMsg) : List Byte :=
  bytesOf 16 (f.code ++ f.cls ++ (0 : BitVec 14) ++ f.tick ++ f.detT ++ f.detN ++ f.detV).toNat

/-- A unit reports fault `code` (R455, R456): its rails, and its FAULT message to the collector. -/
def State.raise (s : State) (unit code detT detN detV : Nat) : State :=
  let f : FaultMsg :=
    { unit := BitVec.ofNat 16 unit, code := BitVec.ofNat 16 code, cls := BitVec.ofNat 2 (faultClass code), tick := s.stamp,
      detT := BitVec.ofNat 16 detT, detN := BitVec.ofNat 16 detN, detV := BitVec.ofNat 32 detV }
  let t := s.unitTile unit
  (s.emit (.fault f)).cSend t (s.blockMsg t 0xC s.node ctlTile (BitVec.ofNat 32 unit) f.bytes)

/-- A unit of type `ty` at logical tile `t` reports fault `code` with `DET_N` and `DET_V`. -/
def State.raiseAt (s : State) (t ty code detN detV : Nat) : State := s.raise (unitId ty (s.phys t)) code 0 detN detV

/-- A block unit reports fault `code` (R454, type 10). -/
def State.raiseBlk (s : State) (idx code detN detV : Nat) : State := s.raise (unitId uBlock idx) code 0 detN detV

/-! ## Attention and replies -/

/-- Whether window `w` has pan `p` bound to it (R418). -/
def State.bound (s : State) (w p : Nat) : Bool := decide (p < 256) && (Tab.get 0 s.pans.bind w).getLsbD p

/-- Whether window `w` has a pan bound whose rectangle holds tile `t` (R417). -/
def State.boundTile (s : State) (w t : Nat) : Bool :=
  match s.tilePan t with
  | some p => s.bound w p.id
  | none => false

/-- `REG`, `ARM` and `DBG` of a window (R428): window 0 has them all. -/
def State.rights (s : State) (w : Nat) : BitVec 3 := if w = 0 then 7 else Tab.get 0 s.pans.rights w

/-- The entry of a request of window `w` that enters the fabric domain now (R56, R417). -/
def State.entryOf (s : State) (w : Nat) : Entry :=
  { count := s.tide.count, rights := s.rights w, bind := Tab.get 0 s.pans.bind w }

/-- The count by which the request being performed is judged: that of its entry (R56, R59). -/
def State.entryCount (s : State) : BitVec 64 := (s.ctrl.entry.map (·.count)).getD s.tide.count

/-- The rights and the bindings by which a request of window `w` is judged: those of its entry (R417). -/
def State.reqRights (s : State) (w : Nat) : BitVec 3 := (s.ctrl.entry.map (·.rights)).getD (s.rights w)
def State.hasReg (s : State) (w : Nat) : Bool := (s.reqRights w).getLsbD 0
def State.hasArm (s : State) (w : Nat) : Bool := (s.reqRights w).getLsbD 1
def State.hasDbg (s : State) (w : Nat) : Bool := (s.reqRights w).getLsbD 2

/-- Whether pan `p` is bound to window `w` as a request of it is judged (R417, R418). -/
def State.mayPan (s : State) (w p : Nat) : Bool :=
  match s.ctrl.entry with
  | some e => decide (p < 256) && e.bind.getLsbD p
  | none => s.bound w p

/-- Whether a pan that a request of window `w` may name holds tile `t` (R417). -/
def State.mayTile (s : State) (w t : Nat) : Bool :=
  match s.tilePan t with
  | some p => s.mayPan w p.id
  | none => false

/-- The logical tile of a physical tile index y * 32 + x. -/
def State.logicalIdx (s : State) (i : Nat) : Option Nat := s.logical (i % 32) (i / 32)

/-- Whether a record is in a window's scope (R419): every fault for window 0; a fault of a tile unit of a bound pan, or one of
class F, for another. -/
def State.inScope (s : State) (w : Nat) (r : FltRec) : Bool :=
  w == 0 || r.cls == 2 ||
  (decide (r.unit / 4096 ≤ 6) && (match s.logicalIdx (r.unit % 4096) with | some t => s.boundTile w t | none => false))

/-- A class-U or class-F record that is PENDING or ACTED (R465, R597). -/
def FltRec.live (r : FltRec) : Bool := (r.state == 1 || r.state == 2) && r.cls != 0

/-- Attention bit 4 for a window (R473, R597). -/
def State.attnFault (s : State) (w : Nat) : Bool :=
  s.flt.log.any (fun e => e.2.live && s.inScope w e.2) ||
  (s.flt.degraded && (w == 0 || s.flt.degTiles.any (fun i => match s.logicalIdx i with | some t => s.boundTile w t | none => false)))

/-- Attention bit 7: PENDING, FROZEN or STOPPED, or a watchpoint with the attention action has hit (R510, R597). -/
def State.attnHarv (s : State) : Bool := s.hrv.state != 0 || s.hrv.whit

/-- The attention nibble of a window (R597), bits 7:4 of STATUS as a number 0 to 15. -/
def State.attn (s : State) (w : Nat) : Nat :=
  b2n (s.attnFault w) + 2 * b2n (s.ctrl.imgEvt.getLsbD w) + 4 * b2n (s.ctrl.qcEvt.getLsbD w) + 8 * b2n s.attnHarv

/-- The word of a reply (R591), formed with the attention nibble of its window. -/
def State.replyWord (s : State) (w : Nat) (tag : BitVec 6) (code : Nat) (rdata : Word) : BitVec 64 :=
  tag ++ (0 : BitVec 10) ++ BitVec.ofNat 4 (s.attn w) ++ BitVec.ofNat 4 code ++ (0 : BitVec 8) ++ rdata

/-- The reply to a request that has been performed leaves (R591). -/
def State.reply (s : State) (w : Nat) (tag : BitVec 6) (code : Nat) (rdata : Word) : State := s.emit (.reply (s.replyWord w tag code rdata))

/-- The reply to a write: its code and no data (R591). -/
def State.replyW (s : State) (q : Req) (code : Nat) : State := s.reply q.win.toNat q.tag code 0

/-- An image event in the scope of the windows that hold a bound pan of the set, and of window 0 (R419, R444). -/
def State.imgEvent (s : State) (pans : List Nat) : State :=
  { s with ctrl := { s.ctrl with imgEvt :=
      s.ctrl.imgEvt ||| BitVec.ofNat 8 (((List.range 8).filter (fun w => w = 0 || pans.any (s.bound w))).foldl (fun a w => a + 2 ^ w) 0) } }

/-- A queue or collective event at a tile, in the scope of window 0 and of the windows bound to its pan (R419, R597). -/
def State.qcEvent (s : State) (t : Nat) : State :=
  { s with ctrl := { s.ctrl with qcEvt :=
      s.ctrl.qcEvt ||| BitVec.ofNat 8 (((List.range 8).filter (fun w => w = 0 || s.boundTile w t)).foldl (fun a w => a + 2 ^ w) 0) } }

/-! ## The forms of a meaning -/

/-- A crossing refuses transfers (R35). -/
def State.shut (s : State) (x : XPath) : Bool := s.xings.any fun e => e.1 == x && e.2.shut


/-- The block is READY: its control port takes requests (R564). -/
def State.ready (s : State) : Bool := s.start.phase == 5

/-- The fabric runs: the block is READY and no harvest holds it (R491, R564). -/
def State.running (s : State) : Bool := s.start.phase == 5 && decide (s.hrv.state < 2)

/-- A command's effect on everything but the queue and the build. -/
def act (s : State) (f : State → State) : Host.Outcome State Fault Refusal :=
  .next { f s with pending := s.pending, build := s.build }

/-- A command of a frozen unit: it has its effect only while the fabric runs, and it touches neither the clocks nor the
queue. -/
def fabAct (s : State) (f : State → State) : Host.Outcome State Fault Refusal :=
  .next (if s.running then { f s with pending := s.pending, build := s.build, fc := s.fc, ft := s.ft, tide := s.tide } else s)

/-- A command of a unit that a harvest does not hold (R491): it has its effect whenever the block is READY, and touches
neither the clocks nor the queue. -/
def runAct (s : State) (f : State → State) : Host.Outcome State Fault Refusal :=
  .next (if s.ready then { f s with pending := s.pending, build := s.build, fc := s.fc, ft := s.ft, tide := s.tide } else s)

/-- A command of the stop at tile `t`, which a fenced router does not carry out (R114). -/
def atTile (t : Nat) (s : State) (f : State → State) : Host.Outcome State Fault Refusal :=
  if tileOk s.build t then (if (s.stop t).ro.routerFenced then .next s else fabAct s f) else .fault (.noSuchTile t)

/-- The client kind of a logical tile: 0 none, 1 core, 2 link group (R394, R432). -/
def State.clientKind (s : State) (t : Nat) : Nat :=
  if s.img.act.grid.isEmpty then (match s.build with | .hfE => 1 | .hfS => 0)
  else nth 0 s.img.act.grid (tileY t * pcols s.build + s.physX (tileX t) (tileY t))

/-- What a client writes into an asynchronous crossing of its tile's port (R31, R493): the stop performs it by `f` when nothing came before
it and the stop is ready to take it; else it waits in the crossing's `depth` places, and a full crossing stalls the client. A crossing
that has timed out takes nothing (R35), and a tile of kind none has no client to write one (R394). -/
def portAct {α : Type} (t : Nat) (x : XPath) (q : Stop → List α) (put : Stop → List α → Stop) (depth : Nat) (ready : Bool) (i : α)
    (s : State) (f : State → State) : Host.Outcome State Fault Refusal :=
  if tileOk s.build t then
    if (s.stop t).ro.routerFenced || s.clientKind t == 0 then .next s
    else if s.running && ready then fabAct s fun s => if s.shut x then s else f s
    else runAct s fun s =>
      if s.shut x || decide (depth ≤ (q (s.stop t)).length) then s else s.modStop t fun st => put st (q st ++ [i])
  else .fault (.noSuchTile t)

/-- A command at port `p` of the stop at tile `t`. -/
def atPort (t p : Nat) (s : State) (f : State → State) : Host.Outcome State Fault Refusal :=
  if tileOk s.build t then
    (if portOk s.build t p then (if (s.stop t).ro.routerFenced then .next s else fabAct s f) else .fault (.noSuchPort t p))
  else .fault (.noSuchTile t)

/-- A command of link `n`, whose PHY and keeper a harvest does not hold (R491). -/
def atLink (n : Nat) (s : State) (f : State → State) : Host.Outcome State Fault Refusal :=
  if n < nLinks s.build then runAct s f else .fault (.noSuchLink n)

/-- A command of link `n` that a harvest holds. -/
def atLinkFab (n : Nat) (s : State) (f : State → State) : Host.Outcome State Fault Refusal :=
  if n < nLinks s.build then fabAct s f else .fault (.noSuchLink n)

/-- A command of slice `sl`. -/
def atSlice (sl : Nat) (s : State) (f : State → State) : Host.Outcome State Fault Refusal :=
  if sl < nSlices s.build then fabAct s f else .fault (.noSuchSlice sl)

end Sys2Proof.Machine
end

