-- ==== Sys2Proof/Machine/Operands.lean ====
section
/-! DEFINITION. How a header's operands are read: header validity (R73, R101), the answers an SI or a stop builds (R95, R102,
R406), destination sets of multicast (R124 to R127) and the output a packet takes (R103 to R110). -/

namespace Sys2Proof.Machine

/-! ## Header validity -/

/-- The packet types (R73). -/
def tMwrite : BitVec 4 := 1
def tMread : BitVec 4 := 2
def tMresp : BitVec 4 := 3
def tPut : BitVec 4 := 4
def tRing : BitVec 4 := 5
def tRedUp : BitVec 4 := 6
def tRedDown : BitVec 4 := 7
def tMcast : BitVec 4 := 8
def tCtl : BitVec 4 := 9
def tAck : BitVec 4 := 10
def tNack : BitVec 4 := 11

/-- Whether a type travels on a VC (R73). -/
def vcOk (ty : BitVec 4) (vc : BitVec 2) : Bool :=
  match ty.toNat with
  | 1 | 2 | 4 | 5 => vc == 0
  | 3 | 10 | 11 => vc == 1
  | 6 => vc == 2
  | 7 | 8 => vc == 3
  | 9 => vc == 2 || vc == 3
  | _ => false

/-- Whether a header is valid at a stop (R73, R101). -/
def State.hdrOk (s : State) (h : THdr) : Bool :=
  vcOk h.type h.vc && h.dmode != 3 && h.route != 3 && !(h.route == 1 && (h.vc == 2 || h.vc == 3)) &&
  !(h.dmode == 0 && h.dnode.toNat == s.node && !tileOk s.build h.dtile.toNat)

/-! ## Word 6 -/

/-- The rectangle and mask of word 6 (R74). -/
def rectOf (w : Word64) : Nat × Nat × Nat × Nat :=
  ((w.extractLsb' 0 5).toNat, (w.extractLsb' 5 4).toNat, (w.extractLsb' 9 5).toNat, (w.extractLsb' 14 4).toNat)

/-- Whether L(x,y) meets the rectangle and mask of word 6 (R124). -/
def inRect (w : Word64) (x y : Nat) : Bool :=
  let r := rectOf w
  decide (r.1 ≤ x ∧ x ≤ r.2.2.1 ∧ r.2.1 ≤ y ∧ y ≤ r.2.2.2) &&
  (BitVec.ofNat 5 x &&& w.extractLsb' 18 5) == w.extractLsb' 23 5 &&
  (BitVec.ofNat 4 y &&& w.extractLsb' 28 4) == w.extractLsb' 32 4

/-- The tree id of word 6 (R74). -/
def treeOf (w : Word64) : Nat := (w.extractLsb' 0 8).toNat

/-- Word 6 of an ACK or NACK (R74). -/
def ansWord (bitmap whole : Bool) (npidx nmseq ncode : Nat) : Word64 :=
  (0 : BitVec 29) ++ BitVec.ofBool bitmap ++ BitVec.ofBool whole ++ BitVec.ofNat 13 npidx ++ BitVec.ofNat 16 nmseq ++ BitVec.ofNat 4 ncode

/-- `NCODE`, `NMSEQ`, `NPIDX`, `WHOLE`, `BITMAP` of an answer (R74). -/
def ansCode (w : Word64) : Nat := (w.extractLsb' 0 4).toNat
def ansMseq (w : Word64) : Nat := (w.extractLsb' 4 16).toNat
def ansPidx (w : Word64) : Nat := (w.extractLsb' 20 13).toNat
def ansWhole (w : Word64) : Bool := w.getLsbD 33
def ansBitmap (w : Word64) : Bool := w.getLsbD 34

/-! ## Trees -/

/-- The tree-table entry of a stop (R125). -/
def State.treeEntry (s : State) (t tree : Nat) : Word := Tab.get 0 (s.stop t).ro.tree tree

/-- VALID, ROOT, COLLECT, EJECT of a tree entry (R125). -/
def trValid (w : Word) : Bool := w.getLsbD 31
def trRoot (w : Word) : Bool := w.getLsbD 30
def trCollect (w : Word) : Bool := w.getLsbD 29
def trEject (w : Word) : Bool := w.getLsbD 28
def trNodes (w : Word) : Nat := (w.extractLsb' 9 5).toNat
def trNtgt (w : Word) : Nat := (w.extractLsb' 0 9).toNat

/-- The tiles of the die's grid. -/
def State.tiles (s : State) : List Nat := List.range (16 * cols s.build)

/-- The targets of a tree on this die (R125). -/
def State.treeTargets (s : State) (tree : Nat) : List Nat :=
  s.tiles.filter fun t => trValid (s.treeEntry t tree) && trEject (s.treeEntry t tree)

/-- The collector of a tree on this die (R125). -/
def State.treeCollector (s : State) (tree : Nat) : Option Nat :=
  s.tiles.find? fun t => trValid (s.treeEntry t tree) && trCollect (s.treeEntry t tree)

/-- The targets of a rectangle, the sender's own tile excluded (R124). -/
def State.rectTargets (s : State) (w : Word64) (stile : Nat) : List Nat :=
  s.tiles.filter fun t => t != stile && inRect w (tileX t) (tileY t)

/-! ## Answers -/

/-- The rank of tile `t` within pan `pan` (R79, R80), 0 for a tile that is none of its members. -/
def State.ownRank (s : State) (t pan : Nat) : Nat :=
  match s.pan? pan with
  | some p => if p.has t && s.panHere p then p.rankOf s.node t else 0
  | none => 0

/-- The header of an answer from tile `t` to a packet with header `h` (R73, R80, R95, R102, R406): VC1, ROUTE 1, the pan and tag of
the packet, its source for the destination, the own tile for the source, MSEQ that of the message answered. -/
def State.ansHdr (s : State) (t : Nat) (h : THdr) (ack : Bool) (w6 : Word64) : THdr :=
  { (default : THdr) with
    prio := h.prio, route := 1, stile := BitVec.ofNat 9 t, snode := BitVec.ofNat 12 s.node, pan := h.pan, dtile := h.stile,
    dnode := h.snode, dmode := 0, type := if ack then tAck else tNack, vc := 1, last := 1, pcnt := 1, mseq := h.mseq,
    drank := h.srank, srank := BitVec.ofNat 20 (s.ownRank t h.pan.toNat), w6 := w6, ctag := h.ctag }

/-- A packet without a message of its own is ready at the injection port of tile `t`, after every descriptor and answer so far
(R602). -/
def State.inject (s : State) (t : Nat) (p : Pkt) : State :=
  s.modSi t fun si => { si with
    nextUid := si.nextUid + 1
    inj := si.inj ++ [{ pkt := p, readyAt := s.ft, governed := false, place := si.nextUid, uid := none }] }

/-- Tile `t` answers ACK, WHOLE = 1, to the message of header `h`. -/
def State.ack (s : State) (t : Nat) (h : THdr) : State :=
  s.inject t { hdr := s.ansHdr t h true (ansWord false true 0 h.mseq.toNat 0), data := [] }

/-- A NACK FENCED that the stop sends is counted in STOP_FENCE.FNACK (R137). -/
def State.countFnack (s : State) (t code : Nat) : State :=
  if code = nFenced then s.modRo t fun r => { r with fnack := inc8 r.fnack } else s

/-- Tile `t` answers NACK `code`, WHOLE = 1, to the message of header `h`. -/
def State.nack (s : State) (t : Nat) (h : THdr) (code : Nat) : State :=
  (s.countFnack t code).inject t { hdr := s.ansHdr t h false (ansWord false true 0 h.mseq.toNat code), data := [] }

/-- Tile `t` answers NACK `code` for the one packet `PIDX` (WHOLE = 0). -/
def State.nackPkt (s : State) (t : Nat) (h : THdr) (code : Nat) : State :=
  s.inject t { hdr := s.ansHdr t h false (ansWord false false h.pidx.toNat h.mseq.toNat code), data := [] }

/-- The origin of a multicast as its targets' answers carry it in ADDR (R130). -/
def originAddr (h : THdr) : BitVec 48 := (0 : BitVec 27) ++ h.snode ++ h.stile

/-- Where a target's answer to a packet goes (R130, R133): the die's collector for a rectangle or a tree, the origin for a
unicast copy. -/
def State.answerTile (s : State) (h : THdr) : Option Nat :=
  if h.dmode = 2 then s.treeCollector (treeOf h.w6) else if h.dmode = 1 then some h.stile.toNat else none

/-- A packet that is treated as one of a VC0 message: one on VC0, and a unicast copy under R133 on VC3. -/
def asVc0 (h : THdr) : Bool := h.vc == 0 || (h.dmode == 0 && h.vc == 3)

/-- A stop answers FENCED to the LAST packet of a VC0 message that it discards (R110, R112, R115). -/
def State.fencedAnswer (s : State) (t : Nat) (h : THdr) : State :=
  if asVc0 h && h.last == 1 then s.nack t h nFenced else s

/-! ## Routing -/

/-- The effective destination (R103): the tile, and the port by which the packet leaves it. -/
def State.effDest (s : State) (t : Nat) (dnode dtile : Nat) : Option (Nat × Nat) :=
  if dnode = s.node then some (dtile, 4)
  else
    let e := Tab.get (0 : Word) (s.stop t).ro.egress dnode
    if e.getLsbD 31 then
      let n := if e.getLsbD 29 then (e.extractLsb' 8 8).toNat else (e.extractLsb' 0 8).toNat
      some (linkTile s.build n, 5 + linkPort s.build n)
    else none

/-- Dimension order (R106). -/
def xyPort (t d out : Nat) : Nat :=
  if tileX d > tileX t then 1 else if tileX d < tileX t then 3
  else if tileY d > tileY t then 2 else if tileY d < tileY t then 0 else out

/-- The candidates of the odd-even turn model (R107); `src` says that the packet is in its source column. -/
def oddEven (t d out : Nat) (src : Bool) : List Nat :=
  let cx := tileX t
  let dx := tileX d
  let v := if tileY d > tileY t then 2 else 0
  if cx = dx ∧ tileY t = tileY d then [out]
  else if cx = dx then [v]
  else if dx > cx then
    if tileY t = tileY d then [1]
    else (if cx % 2 = 1 ∨ src = true then [v] else []) ++ (if dx % 2 = 1 ∨ dx ≠ cx + 1 then [1] else [])
  else [3] ++ (if tileY t ≠ tileY d ∧ cx % 2 = 0 then [v] else [])

/-- What a stop decides of a packet's output. -/
inductive RDec where
  | outs (l : List Nat)
  /-- Route table miss (R103, R110). -/
  | miss
  /-- PORT 7 (R110). -/
  | fenced
  deriving DecidableEq, Repr

/-- The source column of a packet (R107): that of its own tile, or of the ring tile at which it entered this chip. -/
def State.sourceCol (s : State) (h : THdr) : Option Nat :=
  if h.snode.toNat = s.node then some (tileX h.stile.toNat) else (s.entered.find? fun e => e.1 == h).map (·.2)

/-- Whether the packet is in its source column (R107): one whose entry the chip has not seen is until it arrives from east or
west (DEDUCED, log entry 20). -/
def State.inSource (s : State) (t port : Nat) (h : THdr) : Bool :=
  match s.sourceCol h with
  | some c => c == tileX t
  | none => !(port == 1 || port == 3)

/-- The output of a unicast packet at stop `t`, arrived by `port` (R103 to R110). -/
def State.route (s : State) (t port : Nat) (h : THdr) : RDec :=
  match s.effDest t h.dnode.toNat h.dtile.toNat with
  | none => .miss
  | some (d, out) =>
    let e := Tab.get (0 : BitVec 16) (s.stop t).ro.route d
    let p := (e.extractLsb' 0 3).toNat
    if e.getLsbD 15 && (h.route == 2 || e.getLsbD 14) then
      if p < 4 then .outs [p] else if p = 7 then .fenced else if p = 4 ∧ t = d then .outs [out] else .miss
    else if h.route == 2 then .miss
    else if h.route == 1 then .outs (oddEven t d out (s.inSource t port h))
    else .outs [xyPort t d out]

/-- The branches of a tree entry: mesh directions, ring ports and the own SI (R125). -/
def treeBranches (e : Word) : List Nat :=
  ((List.range 4).filter fun p => e.getLsbD (27 - p)) ++ (if trEject e then [4] else []) ++
  ((List.range 4).filter fun j => e.getLsbD (20 + j)).map (5 + ·) ++
  ((List.range 4).filter fun j => e.getLsbD (16 + j)).map (9 + ·)

/-- The outputs of a rectangle packet at stop `t`, arrived by `port` (R127). -/
def rectBranches (h : THdr) (t port : Nat) : List Nat :=
  let r := rectOf h.w6
  let cx := tileX t
  let cy := tileY t
  let x0 := r.1
  let y0 := r.2.1
  let x1 := r.2.2.1
  let y1 := r.2.2.2
  let row := port == 4 || port == 1 || port == 3
  (if (row && decide (x0 ≤ cx ∧ cx ≤ x1 ∧ cy > y0)) || (port == 2 && decide (cy > y0)) then [0] else []) ++
  (if (port == 4 || port == 3) && decide (cx < x1) then [1] else []) ++
  (if (row && decide (x0 ≤ cx ∧ cx ≤ x1 ∧ cy < y1)) || (port == 0 && decide (cy < y1)) then [2] else []) ++
  (if (port == 4 || port == 1) && decide (cx > x0) then [3] else []) ++
  (if port != 4 && t != h.stile.toNat && inRect h.w6 cx cy then [4] else [])

/-- The branches of a multicast packet at stop `t`, or none where its tree is invalid there (R126, R127). -/
def State.mcastBranches (s : State) (t port : Nat) (h : THdr) : Option (List Nat) :=
  if h.dmode = 2 then
    let e := s.treeEntry t (treeOf h.w6)
    if !trValid e || (decide (port ≥ 5) && !trCollect e) then none else some (treeBranches e)
  else some (rectBranches h t port)

end Sys2Proof.Machine
end

