-- ==== Sys2Proof/Machine/Collectors.lean ====
section
/-! DEFINITION. The collectors of multicast answers: records, targets' answers, closing, and the account that the origin
keeps of what its collectors answer (R130 to R133). -/

namespace Sys2Proof.Machine

/-- Whether a header is of a message that targets answer as MCAST is: MCAST, RED_DOWN and COLL_CTL (R129, R209). -/
def mcAnswered (h : THdr) : Bool := h.type == tMcast || h.type == tRedDown || h.type == tCtl

/-- Whether a record is that of the message of header `h`. -/
def CollRec.isOf (r : CollRec) (h : THdr) : Bool :=
  r.snode == h.snode.toNat && r.stile == h.stile.toNat && r.mseq == h.mseq.toNat && r.hdr.ctag == h.ctag && r.hdr.pan == h.pan

/-- The position of a tile in a bitmap of R132: L(k mod C, k / C). -/
def bitPos (b : Build) (t : Nat) : Nat := tileY t * cols b + tileX t

/-- Bytes of one bitmap of a die of the build (R132). -/
def mapBytes (b : Build) : Nat := 2 * cols b

/-- The bitmap of the targets that meet `p` (R132). -/
def bitmapOf (b : Build) (l : List Nat) (p : Nat → Bool) : Nat :=
  (l.filter p).foldl (fun m t => m ||| 2 ^ bitPos b t) 0

/-- Whether a target goes to the retry bitmap: NOTREADY, INCOMPLETE, or no answer (R132). -/
def CollRec.retry (r : CollRec) (t : Nat) : Bool :=
  match Tab.get? r.answers t with
  | none => true
  | some c => c == nNotReady || c == nIncomplete

/-- Whether a target goes to the fail bitmap: any other NACK code (R132). -/
def CollRec.failed (r : CollRec) (t : Nat) : Bool :=
  match Tab.get? r.answers t with
  | none => false
  | some c => c != 0 && c != nNotReady && c != nIncomplete

/-- The code of a closing record (R131): 0 where every target ACKed, else the lowest code in the fail bitmap, else
NOTREADY. -/
def CollRec.code (r : CollRec) : Nat :=
  if r.targets.all fun t => Tab.get? r.answers t == some 0 then 0
  else
    match (r.targets.filter r.failed).map (Tab.get 0 r.answers) with
    | [] => nNotReady
    | c :: cs => cs.foldl min c

/-- The message at the SI of tile `t` is changed where `p` holds. -/
def State.modMsgs (s : State) (t : Nat) (p : Msg → Bool) (f : Msg → Msg) : State :=
  s.modSi t fun si => { si with msgs := si.msgs.map fun m => if p m then f m else m }

/-- A collector's answer enters the origin's account (R131, R133): `bm` is its bitmap length with the retry and fail bitmaps;
a NOTREADY without them comes from a collector that had no free record. -/
def Mcast.take (c : Mcast) (node code : Nat) (bm : Option (Nat × Nat × Nat)) : Mcast :=
  if c.got.contains node || c.noRecord.contains node then c
  else
    match bm with
    | none => if code = 0 then { c with got := c.got ++ [node] } else { c with noRecord := c.noRecord ++ [node] }
    | some (b, r, f) =>
      let k := 8 * b
      let w := k / 16
      { c with
        got := c.got ++ [node], maps := c.maps ++ [(node, b, r, f)]
        failed := c.failed ++ ((List.range k).filter (bit f)).map fun i => (node, tileId (i % w) (i / w), code, false) }

/-- Whether a message is the multicast whose collectors answer with the keys of header `h` (NMSEQ, CTAG, PAN). -/
def Msg.collects (m : Msg) (mseq : Nat) (ctag : BitVec 32) (pan : BitVec 8) : Bool :=
  m.issued && (match m.mc with | some c => c.collecting | none => false) && m.hdr.mseq.toNat == mseq && m.hdr.ctag == ctag &&
  m.hdr.pan == pan

/-- A collector's answer enters the account of the multicast it is of, if the SI has one. -/
def State.mcTake (s : State) (t mseq : Nat) (ctag : BitVec 32) (pan : BitVec 8) (node code : Nat)
    (bm : Option (Nat × Nat × Nat)) : State :=
  s.modMsgs t (fun m => m.collects mseq ctag pan) fun m => { m with mc := m.mc.map fun c => c.take node code bm }

/-- A record closes (R131, R132): merged inside the SI at the origin's own collector, else one answer to the origin. -/
def State.closeRecord (s : State) (t : Nat) (r : CollRec) : State :=
  let code := r.code
  let b := mapBytes s.build
  let re := bitmapOf s.build r.targets r.retry
  let fa := bitmapOf s.build r.targets r.failed
  let s1 := s.modSi t fun si => { si with
    records := si.records.filter (fun x => !(x.isOf r.hdr)),
    closed := ((r, s.ft + msFc) :: si.closed).take 16 }
  if r.snode = s.node ∧ r.stile = t then
    s1.mcTake t r.mseq r.hdr.ctag r.hdr.pan s.node code (if code = 0 then none else some (b, re, fa))
  else
    let w := ansWord (code != 0) true 0 r.mseq code
    let h := s1.ansHdr t r.hdr (code == 0) w
    if code = 0 then s1.inject t { hdr := h, data := [] }
    else s1.inject t { hdr := { h with plen := BitVec.ofNat 12 (2 * b) }, data := bytesOf b re ++ bytesOf b fa }

/-- A target's answer enters its record (R131): counted once, and only from a target; the record closes when all are in. -/
def State.targetAnswer (s : State) (t : Nat) (h : THdr) (target code : Nat) : State :=
  match (s.stop t).si.records.find? (fun r => r.isOf h) with
  | none => s
  | some r =>
    if r.targets.contains target && (Tab.get? r.answers target).isNone then
      let r' := { r with answers := r.answers.set target code }
      let s1 := s.modSi t fun si => { si with records := si.records.map fun x => if x.isOf h then r' else x }
      if r'.answers.length ≥ r'.ntgt then s1.closeRecord t r' else s1
    else s

/-- A collector opens a record at tile `t` for a message (R131); `none` where no record is free. A key among the closed ones
opens none. -/
def State.openRecord (s : State) (t : Nat) (h : THdr) : Option State :=
  let si := (s.stop t).si
  if si.records.any (fun r => r.isOf h) || si.closed.any (fun c => c.1.isOf h && decide (s.ft < c.2)) then some s
  else if si.records.length ≥ 16 then none
  else
    let tg := if h.dmode = 2 then s.treeTargets (treeOf h.w6) else s.rectTargets h.w6 t
    let n := if h.dmode = 2 then trNtgt (s.treeEntry t (treeOf h.w6)) else tg.length
    some (s.modSi t fun si => { si with records := si.records ++
      [{ snode := h.snode.toNat, stile := h.stile.toNat, vc := h.vc.toNat, mseq := h.mseq.toNat, ntgt := n, targets := tg,
         answers := [], deadline := s.ft + 75 * usFc, hdr := h }] })

/-- Target `t` answers a multicast-answered message with `code`, 0 for ACK (R130, R209): to the die's collector with the
origin in ADDR, into its own record where it is the origin, and to the origin for a unicast copy. -/
def State.answerMcast (s : State) (t : Nat) (h : THdr) (code : Nat) : State :=
  match s.answerTile h with
  | none => if code = 0 then s.ack t h else s.nack t h code
  | some c =>
    if c = t ∧ h.snode.toNat = s.node ∧ h.stile.toNat = t then s.targetAnswer t h t code
    else
      let a := s.ansHdr t h (code == 0) (ansWord false true 0 h.mseq.toNat code)
      (s.countFnack t code).inject t { hdr := { a with dtile := BitVec.ofNat 9 c, dnode := BitVec.ofNat 12 s.node, addr := originAddr h }, data := [] }

/-- The header of the message that a target's answer names: its origin in ADDR, NMSEQ, CTAG and PAN (R130). -/
def answered (a : THdr) : THdr :=
  { (default : THdr) with
    snode := a.addr.extractLsb' 9 12, stile := a.addr.extractLsb' 0 9, mseq := BitVec.ofNat 16 (ansMseq a.w6),
    ctag := a.ctag, pan := a.pan }

/-- The code of an answer packet: 0 for ACK. -/
def ansOf (a : THdr) : Nat := if a.type = tAck then 0 else ansCode a.w6

/-- The key of a header (R85). -/
def keyOf (h : THdr) : Key := { snode := h.snode.toNat, stile := h.stile.toNat, vc := h.vc.toNat, mseq := h.mseq.toNat }

/-- A message that enters the die at its collector opens a record with its first packet (R131): false where no record is free,
and then the whole message is discarded and the origin is answered NOTREADY without bitmaps. -/
def State.enterDie (s : State) (t port : Nat) (h : THdr) : State × Bool :=
  if mcAnswered h && h.dmode == 2 && decide (port ≥ 5) then
    let si := (s.stop t).si
    if h.pidx ≠ 0 ∧ si.mcRefused.contains (keyOf h) then (s, false)
    else
      match s.openRecord t h with
      | some s1 => (s1.modSi t fun si => { si with mcRefused := si.mcRefused.filter (· != keyOf h) }, true)
      | none =>
        if h.pidx = 0 then
          ((s.nack t h nNotReady).modSi t fun si => { si with mcRefused := si.mcRefused.filter (· != keyOf h) ++ [keyOf h] }, false)
        else (s, false)
  else (s, true)

/-- COLLECTOR_ANSWER (R131). -/
def execCollectorAnswer (t : Nat) (p : Pkt) (s : State) : Host.Outcome State Fault Refusal :=
  atTile t s fun s => s.targetAnswer t (answered p.hdr) p.hdr.stile.toNat (ansOf p.hdr)

/-- Whether a record is the one that a timer command names. -/
def CollRec.named (r : CollRec) (snode stile mseq : Nat) : Bool := r.snode == snode && r.stile == stile && r.mseq == mseq

/-- COLLECTOR_TIMEOUT (R131): 75 µs after it opened the record closes; STOP_MCAST.TIMEOUT counts it (R140). -/
def execCollectorTimeout (t snode stile mseq : Nat) (s : State) : Host.Outcome State Fault Refusal :=
  atTile t s fun s =>
    match (s.stop t).si.records.find? (fun r => r.named snode stile mseq && decide (r.deadline ≤ s.ft)) with
    | some r => (s.modSi t fun si => { si with mcTimeout := inc8 si.mcTimeout }).closeRecord t r
    | none => s

/-- COLLECTOR_KEY_EXPIRE (R131). -/
def execCollectorKeyExpire (t snode stile mseq : Nat) (s : State) : Host.Outcome State Fault Refusal :=
  atTile t s fun s => s.modSi t fun si => { si with
    closed := si.closed.filter fun c => !(c.1.named snode stile mseq && decide (c.2 ≤ s.ft)) }

end Sys2Proof.Machine
end

