-- ==== Sys2Proof/Machine/Trace.lean ====
section
/-! DEFINITION. What other units ask of the rake and of the harvest logic: a record generated at a source (R500 to R502, R506),
a trigger (R505), a watchpoint hit (R510), and a harvest request with its flood (R486 to R490). -/

namespace Sys2Proof.Machine

/-- The unit id of the harvest and trace unit (R454). -/
def uHrv : Nat := unitId uBlock 3

/-- The time word of an event (R500): phase in bits 63:62, count in bits 61:0. -/
def State.timeWord (s : State) : Word64 := BitVec.ofNat 2 s.tide.phase ++ s.tide.count.extractLsb' 0 62

/-- A record's 32 bytes (R500). -/
def recBytes (time : Word64) (typ unit nraw a b c : Nat) : TrRec :=
  bytesOf 8 time.toNat ++ bytesOf 8 (typ * 2 ^ 56 + (unit % 65536) * 2 ^ 40 + (nraw % 256) * 2 ^ 32 + a % 2 ^ 32) ++ bytesOf 8 b ++ bytesOf 8 c

/-- The raw records that carry `bs`: whole records of 32 bytes (R500). -/
def rawRecs (bs : List Byte) : List Byte := slice bs 0 (32 * ceilDiv bs.length 32)

/-- The rake is changed by `f`. -/
def State.modRake (s : State) (f : Rake → Rake) : State := { s with rake := f s.rake }

/-- Whether a record of a class is generated at `fc` (R502, R504, R505); `none` is a class that is always generated. -/
def Rake.wants (r : Rake) (fc : Nat) (cls : Option Nat) : Bool :=
  (r.state == 1 || r.state == 2) &&
  (match cls with
   | none => true
   | some c => r.srcs.getLsbD c && !(r.muting && decide (r.muteAt < fc) && r.mute.getLsbD c))

/-- A source that has lost records sends one GAP record ahead of its next (R506). -/
def gapRecs (time : Word64) (unit : Nat) : Option (Nat × Word64 × Word64) → List TrRec
  | some (n, a, b) => [recBytes time 1 unit 0 (min n (2 ^ 32 - 1)) a.toNat b.toNat]
  | none => []

/-- `n` records more are lost, the first at time `a` and the last at `b`. -/
def lostSpan (n : Nat) (a b : Word64) : Option (Nat × Word64 × Word64) → Nat × Word64 × Word64
  | some (k, f, _) => (k + n, f, b)
  | none => (n, a, b)

/-- A unit generates a record with its raw records (R500, R501, R506): into its source buffer of 16 records, or lost for want
of room. The raw records follow their header at once and find room as it goes on (DESIGN CHOICE, log entry 23). -/
def State.trace (s : State) (unit typ : Nat) (cls : Option Nat) (a b c : Nat) (raws : List Byte) : State :=
  if s.rake.wants s.fc cls then
    s.modRake fun r =>
      let buf := Tab.get [] r.bufs unit
      let lost := Tab.get? r.lostBy unit
      let gap := gapRecs s.timeWord unit lost
      if buf.length + gap.length < 16 then
        { r with bufs := r.bufs.set unit (buf ++ gap ++ [recBytes s.timeWord typ unit (raws.length / 32) a b c ++ raws]), lostBy := r.lostBy.del unit,
                 gaps := if gap.isEmpty then r.gaps else inc8 r.gaps }
      else
        let n := 1 + raws.length / 32
        { r with lost := satAdd r.lost n, lostBy := r.lostBy.set unit (lostSpan n s.timeWord s.timeWord lost) }
  else s

/-- The class of INPUT records: always generated in reference mode, class 4 otherwise (R500, R502). -/
def State.inputCls (s : State) : Option Nat := if s.refMode then none else some 4

/-- An INPUT record (R514), emitted in reference mode. -/
def State.input (s : State) (unit kind b c : Nat) : State :=
  if s.refMode then s.trace unit 0x08 s.inputCls kind b c [] else s

/-- The selections of the mirror tap (R513): link receive, link transmit, a tile's client ports. -/
def mirRx (n : Nat) : Nat := n
def mirTx (n : Nat) : Nat := 16384 + n
def mirTile (t : Nat) : Nat := 32768 + t

/-- An item passes the mirror tap's port (R513): one MIRROR record with its raw records, where the tap selects the port. -/
def State.mirror (s : State) (sel unit kind : Nat) (bs : List Byte) : State :=
  if s.img.act.trace.mirror && s.img.act.trace.mirrorSel % 512 == sel % 512 && s.img.act.trace.mirrorSel / 16384 == sel / 16384 then
    (s.trace unit 0x09 (some 5) bs.length s.rake.mirrorSeq kind (rawRecs bs)).modRake fun r => { r with mirrorSeq := r.mirrorSeq + 1 }
  else s

/-- Records in the region of an HBM sink (R503). -/
def State.regionRecs (s : State) : Nat := if s.img.act.trace.sink = 1 then s.img.act.trace.size / 32 else 2 ^ 31

/-- A trigger source fires (R505): the first enabled one per arming writes the TRIGGER record, is noted in RAKE_TPOS and
starts the muting of the next fc; a later one is counted. In CENTRE mode what stands in the buffer, the TRIGGER record and the post-trigger count
are still to go to the sink (R504). -/
def State.rakeTrigger (s : State) (src : Nat) : State :=
  if s.rake.trig.getLsbD src && (s.rake.state == 1 || s.rake.state == 2) then
    if s.rake.armed then
      let post := s.img.act.trace.post
      let r := recBytes s.timeWord 0x02 uHrv 0 src post 0
      s.modRake fun k => { k with
        buf := k.buf ++ [r], tposVld := true, tpos := BitVec.ofNat 31 ((k.wp.toNat + k.buf.length) % s.regionRecs), armed := false, muting := true, muteAt := s.fc
        state := if s.img.act.trace.mode = 2 then 2 else k.state, postLeft := k.buf.length + 1 + post }
    else s.modRake fun k => { k with xtrig := inc8 k.xtrig }
  else s

/-! ## Harvest requests -/

/-- The harvest logic is changed by `f`. -/
def State.modHrv (s : State) (f : Harvest → Harvest) : State := { s with hrv := f s.hrv }

/-- The pod lead in ticks (R486, R518). -/
def State.podLead (s : State) : Nat := if s.img.act.trace.podLead = 0 then 1000 else s.img.act.trace.podLead

/-- The lead of a scope (R486). -/
def State.lead (s : State) (pod : Bool) : Nat := if pod then s.podLead else 16

/-- A flooded keeper HARVEST message (R341, R488). -/
def floodMsg (kind origin req tick : Nat) : KMsg :=
  { ktype := 0x0B, kseq := 0, data := [BitVec.ofNat 8 kind] ++ bytesOf 2 origin ++ [BitVec.ofNat 8 req] ++ bytesOf 8 tick ++ [0, 0, 0, 0] }

/-- A flooded message goes out on every comma-locked keeper lane (R488). -/
def State.floodNow (s : State) (k : KMsg) : State :=
  s.allLinks.foldl (fun s n => if (s.link n).kpr.locked then s.keeperSend n k else s) s

/-- A message is flooded: now, and again 64 tk later (R488). -/
def State.flood (s : State) (k : KMsg) : State :=
  (s.floodNow k).modHrv fun h => { h with repeats := h.repeats ++ [(k, s.now + 64)] }

/-- The chip drives HARVEST_N low (R490). -/
def State.drivePin (s : State) : State :=
  if s.hrv.driving then s else (s.modHrv fun h => { h with driving := true }).emit (.pin "HARVEST_N" false)

/-- A HARVEST record (R500): source, origin, request id and event. -/
def State.hrvRecord (s : State) (src origin req ev : Nat) : State :=
  s.trace uHrv 0x07 none (src * 2 ^ 28 + (origin % 4096) * 65536 + (req % 256) * 256 + ev) s.hrv.th.toNat s.hrv.tt.toNat []

/-- The harvest becomes pending at tick `th`, and a pod-scope one is flooded with the tick `t` it names (R487, R488, R490). -/
def State.hrvSet (s : State) (src : Nat) (pod : Bool) (th t origin req : Nat) : State :=
  let s1 := s.modHrv fun h => { h with state := 1, pod := pod || (h.state == 1 && h.pod), src := src, th := BitVec.ofNat 64 th, reqid := BitVec.ofNat 8 req }
  let s2 := s1.hrvRecord src origin req 1
  let s3 := if s.hrv.state = 0 then s2.rakeTrigger 2 else s2
  if pod then (s3.flood (floodMsg 1 origin req t)).drivePin else s3

/-- An accepted harvest request for tick `t` is decided (R487). -/
def State.hrvRequest (s : State) (src : Nat) (pod : Bool) (t origin req : Nat) : State :=
  if s.hrv.state ≥ 2 then s.modHrv fun h => { h with absorb := inc8 h.absorb }
  else if t ≤ s.now then
    ((s.modHrv fun h => { h with lateF := true }).raiseBlk 3 0x0B01 0 0).hrvSet src pod (s.now + 1) t origin req
  else if s.hrv.state = 1 ∧ s.hrv.th.toNat ≤ t then s.modHrv fun h => { h with absorb := inc8 h.absorb }
  else s.hrvSet src pod t t origin req

/-- A request that this chip originates takes its next request id, and is known to it (R488). -/
def State.hrvOriginate (s : State) (src : Nat) (pod : Bool) (t : Nat) : State :=
  let req := s.hrv.ownReq + 1
  (s.modHrv fun h => { h with ownReq := req, seen := h.seen ++ [{ origin := s.node, req := req.toNat, kind := 1 }] }).hrvRequest
    src pod t s.node req.toNat

/-- A request of a watchpoint or a fault action, in the scope of AUTO_SCOPE (R486). -/
def State.hrvAuto (s : State) (src : Nat) : State := s.hrvOriginate src s.hrv.autoScope (s.now + s.lead s.hrv.autoScope)

/-! ## Watchpoints -/

/-- A watchpoint's actions on an access of `n` bytes at `addr` that overlaps it (R510). -/
def State.watchHit (s : State) (unit : Nat) (w : Watch) (addr n c : Nat) : State :=
  let s1 := if bit w.acts 0 then
      (s.trace unit 0x04 (some 1) (w.plane * 2 ^ 31 + w.num * 2 ^ 24 + n % 2 ^ 24) addr c []).rakeTrigger 1 else s
  let s2 := if bit w.acts 1 then s1.modHrv fun h => { h with whit := true, wnum := w.num } else s1
  if bit w.acts 2 then s2.hrvAuto 3 else s2

/-- Every watchpoint of a plane that the access overlaps acts (R510). -/
def State.watch (s : State) (unit plane addr n c : Nat) : State :=
  (s.img.act.watch.filter fun w => w.plane == plane && decide (addr < w.limit ∧ w.base < addr + n)).foldl
    (fun s w => s.watchHit unit w addr n c) s

/-! ## The control port -/

/-- A request of the control port is an input of the run (R10, R514). -/
def State.inputReq (s : State) (wr : Bool) (q : Req) : State :=
  s.input uHrv 1 (q.win.toNat + q.wofs.toNat * 4 * 2 ^ 40) (if wr then q.wdata.toNat else 0)

/-- The byte offset of a request (R591). -/
def qOfs (q : Req) : Nat := 4 * q.wofs.toNat

/-- A request goes behind those that wait inside the block, at most eight in all; further ones stall in the crossing (R593). -/
def State.ctlQueue (s : State) (wr : Bool) (q : Req) : State :=
  if s.ctrl.line.length < 8 then
    let s1 := s.inputReq wr q
    { s1 with ctrl := { s1.ctrl with line := s1.ctrl.line ++ [.todo wr q (s.entryOf q.win.toNat)] } }
  else s

/-- Check unit `u`. -/
def State.check (s : State) (u : Nat) : Check := Tab.get Check.init s.chk u

/-- A request for a check unit that an earlier feed still occupies (R533). -/
def State.ctlStalls (s : State) (q : Req) : Bool :=
  decide (0x80000 ≤ qOfs q) && decide (qOfs q < 0x80400) && decide (s.fc < (s.check ((qOfs q - 0x80000) / 0x80)).busy)

/-- A request is performed by `f` when none waits before it and no busy check unit holds it; else it goes behind those that wait, and is judged
by the count, the rights and the bindings at its entry (R56, R59, R417, R533, R593). One that has waited has been recorded as it entered. A
crossing that has timed out takes none (R37). -/
def State.ctlTake (s : State) (wr : Bool) (q : Req) (f : State → State) : State :=
  if s.shut .control then s
  else if s.ctrl.line.isEmpty && !s.ctlStalls q then f (if s.ctrl.entry.isSome then s else s.inputReq wr q)
  else s.ctlQueue wr q

/-- A request for the register at byte offset `ofs` (R566, R593): served in READY; in FAILED only the BLK page is there. A request for
another register is another command's. -/
def ctlEnter (wr : Bool) (ofs : Nat) (q : Req) (s : State) (f : State → State) : Host.Outcome State Fault Refusal :=
  if qOfs q ≠ ofs then .next s
  else if s.start.phase = 6 then
    .next { (if ofs < 0x10000 then f s else s.replyW q rAbsent) with
      pending := s.pending, build := s.build, fc := s.fc, ft := s.ft, tide := s.tide }
  else runAct s fun s => s.ctlTake wr q f

/-- A write of the register at byte offset `ofs`, and a read of it. -/
def ctlAct (ofs : Nat) (q : Req) (s : State) (f : State → State) : Host.Outcome State Fault Refusal := ctlEnter true ofs q s f
def ctlRead (ofs : Nat) (q : Req) (s : State) (f : State → State) : Host.Outcome State Fault Refusal := ctlEnter false ofs q s f

/-- A write to a block page (R417, R495, R595): DENIED to other windows where only window 0 may write, BUSY while the chip is
held where the page is not one of those that stay writable, else as `f` answers. -/
def ctlWrite (q : Req) (only0 frozenOk : Bool) (f : State → State × Nat) (s : State) : State :=
  if only0 && q.win != 0 then s.replyW q rDenied
  else if !frozenOk && decide (s.hrv.state ≥ 2) then s.replyW q rBusy
  else
    let r := f s
    r.1.replyW q r.2

end Sys2Proof.Machine
end

