-- ==== Sys2Proof/Machine/Tide.lean ====
section
/-! DEFINITION. The tide count: ticking, offset bursts, alignment, steering, loss of the parent and the TIDE registers that
have commands of their own (R38 to R66). -/

namespace Sys2Proof.Machine

/-! ## Time passes -/

/-- `k` fabric cycles pass on the block's clocks; the fabric's own time holds while a harvest freezes it (R491). -/
def State.elapse (s : State) (k : Nat) : State :=
  { s with fc := s.fc + k, ft := if s.hrv.state < 2 then s.ft + k else s.ft }

/-- The fabric clock runs: from its lock until a failed start-up or a reset (R564). -/
def State.clocked (s : State) : Bool := decide (3 ≤ s.start.phase ∧ s.start.phase ≤ 5)

/-- The count becomes `c` in phase `p`. -/
def State.setCount (s : State) (c : BitVec 64) (p : Nat) : State := { s with tide := { s.tide with count := c, phase := p } }

/-- The master's load (R55): the count takes TIDE_LOAD at the next phase 0 and the chip is LOCKED. -/
def loadCount (s : State) : State :=
  { s with tide := { s.tide with count := s.tide.load, phase := 0, state := 2, loadPend := false } }

/-- A command of the tide logic or of the clock: everything but the queue and the build may change. -/
def tideAct (s : State) (f : State → State) : Host.Outcome State Fault Refusal :=
  if s.ready then act s f else .next s

/-- A request to the register at offset `ofs` of the TIDE page, which is absent in FAILED (R566). -/
def tideReq (wr : Bool) (ofs : Nat) (q : Req) (s : State) (f : State → State) : Host.Outcome State Fault Refusal :=
  if qOfs q ≠ 0x10000 + ofs then .next s
  else if s.start.phase = 6 then act s fun s => s.replyW q rAbsent
  else tideAct s fun s => s.ctlTake wr q f

/-! ## Bursts -/

/-- The tide logic is changed by `f`. -/
def State.modTide (s : State) (f : Tide → Tide) : State := { s with tide := f s.tide }

/-- The link that carries the chip's tide: the backup while locked through it, else the parent (R43, R53). -/
def State.tideLink (s : State) : Nat :=
  if s.tide.onBackup then s.tide.cfg.backup.toNat else s.tide.cfg.parent.toNat

/-- The chip takes part in the tide tree as a child: ENABLE is set and MASTER is not (R43, R55, R64). -/
def Tide.child (t : Tide) : Bool := t.cfg.enable && !t.cfg.master

/-- Bursts that were to align, steer or rejoin only measure from now on. -/
def Tide.onlyMeasure (t : Tide) : Tide := { t with burst := t.burst.map fun e => (e.1, { e.2 with use := .measure }) }

/-- Whether a link's keeper lane has reached capability exchange (R46, R47). -/
def State.keeperUp (s : State) (n : Nat) : Bool := (s.link n).state == 4 || (s.link n).state == 5

/-- A burst starts on link `n` with its first TIDE_PING (R45). -/
def startBurst (s : State) (n : Nat) (u : BurstUse) : State :=
  (s.modTide fun t => { t with burst := t.burst.set n { use := u, sent := 1, done := 0, c1 := [], best := none, next := s.fc + usFc } })
    |>.keeperAsk n 0x09 [0, 0, 0, 0]

/-- A first alignment or REALIGN starts on link `n`, with 1 ms for its burst (R47). -/
def startAlign (s : State) (n : Nat) : State :=
  startBurst (s.modTide fun t => { t.onlyMeasure with state := 1, far := false, alignOn := some n, alignDue := some (s.fc + msFc) }) n .align

/-- A chip that is to align enters ALIGNING, and aligns on its parent as soon as the parent's keeper lane is active (R47). -/
def alignParent (s : State) : State :=
  if s.keeperUp s.tide.cfg.parent.toNat then startAlign s s.tide.cfg.parent.toNat
  else s.modTide fun t => { t.onlyMeasure with state := 1, far := false, alignOn := none, alignDue := none }

/-- The chip waits in HOLDOVER for the return of link `n`, its parent or its backup (R54). -/
def Tide.awaits (t : Tide) (n : Nat) : Bool :=
  t.child && t.state == 3 && !t.far && (n == t.cfg.parent.toNat || (t.cfg.backupVld && n == t.cfg.backup.toNat))

/-- What a link whose keeper has come up runs (R46, R47, R54): a first alignment on the parent, a burst to rejoin in
HOLDOVER, or a measurement. What was measured before it came up counts no more (R65). -/
def linkUpBurst (s0 : State) (n : Nat) : State :=
  let s := s0.modTide fun t => { t with ldly := t.ldly.del n }
  if s.tide.child && n == s.tide.cfg.parent.toNat && decide (s.tide.state.toNat < 2) then startAlign s n
  else if s.tide.awaits n then startBurst s n .rejoin
  else startBurst s n .measure

/-- Two's-complement bytes of a signed value of 16 bits. -/
def i16Bytes (v : Int) : List Byte := bytesOf 2 (BitVec.ofInt 16 v).toNat

/-- The fc at which a TIDE message's K27.7 was presented (R342): as the keeper receiver noted it; with no note, now. -/
def State.arrival (s : State) (n : Nat) (k : KMsg) : BitVec 64 :=
  (((s.link n).kpr.came.find? fun e => e.1 == k).map (·.2)).getD s.nowFc

/-- The note of a TIDE message's arrival has been used. -/
def State.useArrival (s : State) (n : Nat) (k : KMsg) : State := s.modKpr n fun q => { q with came := q.came.eraseP fun e => e.1 == k }

/-- The TIDE_PONG that answers a TIDE_PING; its p3 is written when it departs (R341, R342). -/
def pongFor (s : State) (n : Nat) (k : KMsg) : KMsg :=
  { ktype := 0x0A, kseq := k.kseq,
    data := bytesOf 8 (s.arrival n k).toNat ++ bytesOf 8 0 ++ [nth 0 k.data 0, s.tide.depth.setWidth 8] ++ i16Bytes s.tide.accErr ++
      [s.tide.state.setWidth 8, 0, 0, 0] }

/-- TIDE_PING_RECEIVED (R45). -/
def execTidePingReceived (n : Nat) (k : KMsg) (s : State) : Host.Outcome State Fault Refusal :=
  atLink n s fun s =>
    if k.ktype = 0x09 then
      let a := pongFor s n k
      ((s.useArrival n k).modKpr n fun q => { q with lastReq := some (k.ktype, k.kseq), lastAns := some a }).keeperSend n a
    else s

/-- The exchange a TIDE_PONG ends: round trip, offset and delay, halves truncated toward zero (R45, R49). -/
def exchange (c1 p2 p3 c4 : BitVec 64) : Int × Int × Int :=
  ((c4 - c1).toInt, Int.tdiv ((p2 - c1).toInt + (p3 - c4).toInt) 2, Int.tdiv ((c4 - c1).toInt - (p3 - p2).toInt) 2)

/-- The better of two exchanges: the smaller round trip, the earlier one on a tie (R45). -/
def better (a : Option (Int × Int × Int)) (b : Int × Int × Int) : Option (Int × Int × Int) :=
  match a with
  | none => some b
  | some x => if b.1 < x.1 then some b else some x

/-- The chip's depth becomes one more than `d`, its parent's (R44): above 4 the tree is too deep, and the chip is in ALIGNING. -/
def takeDepth (s : State) (d : Nat) : State :=
  let s1 := s.modTide fun t => { t with depth := BitVec.ofNat 3 (min 7 (d + 1)) }
  if d + 1 > 4 then (s1.modTide fun t => { t with state := 1 }).raiseBlk 0 0x0201 0 0 else s1

/-- A child learns its parent's depth from a TIDE_PONG on the link it aligns on or is locked through (R44). -/
def learnDepth (s : State) (n : Nat) (d : Nat) : State :=
  if s.tide.child && n == s.tide.alignOn.getD s.tideLink then takeDepth s d else s

/-- What a TIDE_PONG on link `n` does to the exchange it ends (R45). -/
def pongTaken (s : State) (n : Nat) (k : KMsg) : State :=
  let idx := (nth 0 k.data 16).toNat
  let d := (nth 0 k.data 17).toNat
  let acc := (BitVec.ofNat 16 (leAt k.data 18 2)).toInt
  let s0 := s.modKpr n fun q => { q with waits := q.waits.filter (fun w => w.1.kseq != k.kseq || w.1.ktype != 0x09) }
  let s1 := s0.modTide fun t => { t with heard := t.heard.set n (d, acc) }
  let s2 := match s1.tide.burst.get? n with
    | some b =>
      match b.c1.get? idx with
      | some c1 =>
        let e := exchange c1 (BitVec.ofNat 64 (leAt k.data 0 8)) (BitVec.ofNat 64 (leAt k.data 8 8)) (s.arrival n k)
        s1.modTide fun t => { t with burst := t.burst.set n { b with done := b.done + 1, c1 := b.c1.del idx, best := better b.best e } }
      | none => s1
    | none => s1
  learnDepth s2 n d

/-- TIDE_PONG_RECEIVED (R45). -/
def execTidePongReceived (n : Nat) (k : KMsg) (s : State) : Host.Outcome State Fault Refusal :=
  if n < nLinks s.build then tideAct s fun s => if k.ktype = 0x0A then (pongTaken s n k).useArrival n k else s
  else .fault (.noSuchLink n)

/-- TIDE_EXCHANGE_TIMER (R45): the next exchange of the burst on link `n` starts, 1 µs after the one before. -/
def execTideExchangeTimer (n : Nat) (s : State) : Host.Outcome State Fault Refusal :=
  if n < nLinks s.build then tideAct s fun s =>
    match s.tide.burst.get? n with
    | some b =>
      if b.sent < 8 ∧ b.next ≤ s.fc then
        (s.modTide fun t => { t with burst := t.burst.set n { b with sent := b.sent + 1, next := b.next + usFc } })
          |>.keeperAsk n 0x09 [BitVec.ofNat 8 b.sent, 0, 0, 0]
      else s
    | none => s
  else .fault (.noSuchLink n)

/-- The accumulated error becomes the parent's plus the own error; above 8 fc the chip is out of bound (R51). -/
def takeAccErr (s : State) (n : Nat) (err : Int) : State :=
  let acc := (Tab.get (0, 0) s.tide.heard n).2 + err
  let s1 := s.modTide fun t => { t with accErr := acc }
  if acc.natAbs > 8 then (s1.modTide fun t => { t with oob := true, suspended := true }).raiseBlk 0 0x0203 0 0 else s1

/-- The trim after a period whose error is `err` (R50): saturation at 4000 units either way, and whether it saturated. -/
def newTrim (trim errPrev err : Int) : Int × Bool :=
  let v := trim + 10 * (err - errPrev) + 10 * err
  (clampI (-4000) 4000 v, decide (v > 4000 ∨ v < -4000))

/-- The chip locks on link `n` with its next steering burst 500,000 tk away (R47, R50, R53). -/
def lockOn (s : State) (n : Nat) : State :=
  s.modTide fun t => { t with
    state := 2, far := false, alignDue := none, alignOn := none, holdDue := none, steerDue := some (s.fc + msFc),
    onBackup := t.cfg.backupVld && n == t.cfg.backup.toNat && n != t.cfg.parent.toNat }

/-- The alignment step (R47): the count moves by the full offset, phase and all, and the chip locks; a chip whose depth would
exceed 4 stays in ALIGNING (R44). Only the burst of the alignment that a child runs steps its count (R43, R48, R66). Three points are
the model's own, DESIGN CHOICE: the STATE in the parent's TIDE_PONG is not looked at (log entry 1130); an action that was scheduled
while REALIGN was under way is neither refused nor moved, so the step may pass its tick over or come to it again (log entry 1131); and
a burst refused for depth leaves the time limit of R47 running (log entry 1132). -/
def alignStep (s : State) (n : Nat) (o : Int) : State :=
  if !s.tide.child || s.tide.state != 1 || s.tide.alignOn != some n || decide ((Tab.get (0, 0) s.tide.heard n).1 + 1 > 4) then s
  else
    let f := s.nowFc + BitVec.ofInt 64 o
    let s1 := s.setCount (f >>> 2) (f.toNat % 4)
    let s2 := lockOn (s1.modTide fun t => { t with step := o, errPrev := 0 }) n
    takeAccErr s2 n 0

/-- A steering burst's result (R50, R51), with its INPUT record (R514): a master takes none (R55). -/
def steerStep (s : State) (n : Nat) (err : Int) : State :=
  if s.tide.child && s.tide.state == 2 && n == s.tideLink then
    let r := newTrim s.tide.trim s.tide.errPrev err
    let s1 := s.modTide fun t => { t with trim := r.1, sat := t.sat || r.2, errPrev := err }
    takeAccErr (s1.input (unitId uBlock 0) 4 (BitVec.ofInt 64 r.1).toNat 0) n err
  else s

/-- A burst to rejoin from HOLDOVER (R53, R54): within 8 fc the chip learns the link's depth and, where the tree is not too deep for it
(R44), locks without a step. Beyond 8 fc it stays, and where the burst was that of a link's return, until REALIGN. -/
def rejoinStep (s : State) (n : Nat) (o : Int) (returned : Bool) : State :=
  if !s.tide.child || s.tide.state != 3 || s.tide.far then s
  else if o.natAbs ≤ 8 then
    let s1 := takeDepth s (Tab.get (0, 0) s.tide.heard n).1
    if s1.tide.state == 3 then takeAccErr (lockOn (s1.modTide fun t => { t with errPrev := o }) n) n o else s1
  else s.modTide fun t => { t with far := returned }

/-- The result of a burst on link `n` is recorded and used (R45 to R47, R50, R53, R54, R63). -/
def burstDone (s : State) (n : Nat) (b : Burst) (o d : Int) : State :=
  let s1 := s.modTide fun t => { t with
    burst := t.burst.del n, ldly := t.ldly.set n { ofs := o, dly := d },
    ofs := if !t.cfg.master && (n == t.cfg.parent.toNat || (t.cfg.backupVld && n == t.cfg.backup.toNat)) then o else t.ofs }
  match b.use with
  | .measure => s1
  | .align => alignStep s1 n o
  | .steer => steerStep s1 n o
  | .holdover => rejoinStep s1 n o false
  | .rejoin => rejoinStep s1 n o true

/-- TIDE_BURST_COMPLETE (R45): the eight exchanges of the burst on link `n` have ended. -/
def execTideBurstComplete (n : Nat) (s : State) : Host.Outcome State Fault Refusal :=
  if n < nLinks s.build then tideAct s fun s =>
    match s.tide.burst.get? n with
    | some b =>
      match b.best with
      | some (_, o, d) => if b.done = 8 then burstDone s n b o d else s
      | none => s
    | none => s
  else .fault (.noSuchLink n)

/-! ## Alignment, steering, holdover -/

/-- TIDE_ALIGN_TIMEOUT (R47): no valid burst within 1 ms; the backup link is tried if there is one. A burst that completed and was refused
for depth counts as none (DESIGN CHOICE, log entry 1132). -/
def execTideAlignTimeout (s : State) : Host.Outcome State Fault Refusal :=
  tideAct s fun s =>
    match s.tide.alignDue with
    | some d =>
      if d ≤ s.fc ∧ s.tide.state = 1 ∧ s.tide.child then
        let s1 := (s.modTide fun t => { t with alignDue := none }).raiseBlk 0 0x0202 0 0
        if s.tide.cfg.backupVld && s.tide.alignOn != some s.tide.cfg.backup.toNat then startAlign s1 s.tide.cfg.backup.toNat
        else s1
      else s
    | none => s

/-- TIDE_STEER_PERIOD (R50): a LOCKED chip that is not the master runs its burst every 500,000 tk. -/
def execTideSteerPeriod (s : State) : Host.Outcome State Fault Refusal :=
  tideAct s fun s =>
    match s.tide.steerDue with
    | some d =>
      if d ≤ s.fc ∧ s.tide.state = 2 ∧ s.tide.child then
        startBurst (s.modTide fun t => { t with steerDue := some (d + msFc) }) s.tideLink .steer
      else s
    | none => s

/-- The entry to HOLDOVER (R53): the trim stays, and a burst runs on an active backup. -/
def enterHoldover (s : State) : State :=
  let lostOn := s.tideLink
  let s1 := s.modTide fun t => { t with
    state := 3, steerDue := none, holdDue := some (s.fc + t.cfg.holdMs.toNat * msFc), burst := t.burst.del lostOn }
  let b := s.tide.cfg.backup.toNat
  if s.tide.cfg.backupVld && b != lostOn && (s.link b).state == 5 then startBurst s1 b .holdover else s1

/-- TIDE_PARENT_LOST (R53): the link that carries the tide is down. -/
def execTideParentLost (s : State) : Host.Outcome State Fault Refusal :=
  tideAct s fun s =>
    if s.tide.state == 2 && s.tide.child && !s.keeperUp s.tideLink then enterHoldover s else s

/-- TIDE_HOLDOVER_EXPIRED (R54). -/
def execTideHoldoverExpired (s : State) : Host.Outcome State Fault Refusal :=
  tideAct s fun s =>
    match s.tide.holdDue with
    | some d =>
      if d ≤ s.fc ∧ s.tide.state = 3 ∧ s.tide.child then
        (s.modTide fun t => { t with holdDue := none, oob := true, suspended := true }).raiseBlk 0 0x0204 0 0
      else s
    | none => s

/-- TIDE_PARENT_RETURNED (R54): in HOLDOVER the parent or backup link `n` is active again. -/
def execTideParentReturned (n : Nat) (s : State) : Host.Outcome State Fault Refusal :=
  if n < nLinks s.build then tideAct s fun s =>
    if s.tide.awaits n && (s.link n).state == 5 then startBurst s n .rejoin else s
  else .fault (.noSuchLink n)

/-! ## Registers with commands of their own -/

/-- TIDE_CFG as a word (R64). -/
def TideCfg.word (c : TideCfg) : Word :=
  BitVec.ofBool c.enable ++ BitVec.ofBool c.master ++ BitVec.ofBool c.backupVld ++ (0 : BitVec 5) ++ c.holdMs ++ c.backup ++ c.parent

/-- The TIDE_CFG that a write gives (R64). -/
def TideCfg.ofWord (w : Word) : TideCfg :=
  { enable := w.getLsbD 31, master := w.getLsbD 30, backupVld := w.getLsbD 29, holdMs := w.extractLsb' 16 8,
    backup := w.extractLsb' 8 8, parent := w.extractLsb' 0 8 }

/-- The role that a written TIDE_CFG gives takes hold. A master that is newly enabled loads its count at the next phase 0, runs with no
trim and leaves whatever it ran as a child (R55). A child that is not yet LOCKED begins its first alignment if its parent's keeper is
up, and one that is LOCKED steers on the parent it now has (R47, R50). Without ENABLE nothing of the tree runs (R64): the state stays
what it is (DESIGN CHOICE, log entry 1133). -/
def takeRole (s : State) (old : TideCfg) : State :=
  let c := s.tide.cfg
  if c.enable && c.master then
    if old.enable && old.master then s
    else s.modTide fun t => { t.onlyMeasure with
      loadPend := true, trim := 0, errPrev := 0, depth := 0, accErr := 0, step := 0, onBackup := false, far := false,
      steerDue := none, alignDue := none, alignOn := none, holdDue := none }
  else if !c.enable then s
  else if s.tide.state.toNat < 2 then (if s.keeperUp c.parent.toNat then startAlign s c.parent.toNat else s)
  else if s.tide.state = 2 then s.modTide fun t => { t with steerDue := some (t.steerDue.getD (s.fc + msFc)) }
  else s

/-- The code of a TIDE_CFG write (R43, R64). -/
def tideCfgCode (q : Req) : Nat :=
  if q.win ≠ 0 then rDenied else if (TideCfg.ofWord q.wdata).holdMs = 0 then rError else rOk

/-- TIDE_CFG_WRITE (R64). -/
def execTideCfgWrite (q : Req) (s : State) : Host.Outcome State Fault Refusal :=
  tideReq true 0x01C q s fun s =>
    if tideCfgCode q = rOk then
      (takeRole (s.modTide fun t => { t with cfg := TideCfg.ofWord q.wdata }) s.tide.cfg).replyW q rOk
    else s.replyW q (tideCfgCode q)

/-- Entry `i` of a bank (R603): a listed entry, else transit where the map marks the index, else open. -/
def Bank.entry (b : Bank) (i : Nat) : Word :=
  match Tab.get? b.entries i with
  | some w => w
  | none => if b.tmap.getLsbD i then 0x80000000 else 0

/-- The bank of an output that is active, or the shadow (R141, R144). -/
def OutPort.bank (o : OutPort) (one : Bool) : Bank := if one then o.bank1 else o.bank0

/-- Whether a slot entry is a circuit entry that crosses a link (R142). -/
def isXchip (w : Word) : Bool := w.extractLsb' 30 2 == 1 && w.getLsbD 29

/-- A slot table with cross-chip circuits is active (R57). -/
def State.xchipActive (s : State) : Bool :=
  s.stops.any fun e => e.2.rt.outs.any fun o => (o.2.bank s.slotBank).entries.any fun x => isXchip x.2

/-- An action is scheduled at a future tick (R57): a slot swap, a re-shape, a factory restore, a harvest or thaw, a flood
repeat, a fence route set or a mesh-wire swap. -/
def State.scheduled (s : State) : Bool :=
  !s.slotPend.isEmpty || !s.img.switches.isEmpty || s.img.factoryAt.isSome || s.hrv.state == 1 || s.hrv.tpend ||
  !s.hrv.repeats.isEmpty || s.flt.fenceSet.isSome || s.flt.wires.any (fun w => w.swapAt.isSome)

/-- A burst on every active link that has none running (R61). -/
def burstAll (s : State) : State :=
  s.allLinks.foldl (fun s n => if (s.link n).state == 5 && (s.tide.burst.get? n).isNone then startBurst s n .measure else s) s

/-- The code of a TIDE_CMD write (R57, R61, R417). -/
def tideCmdCode (s : State) (q : Req) (realign : Bool) : Nat :=
  if q.win ≠ 0 then rDenied else if realign && (s.scheduled || s.xchipActive) then rBusy else rOk

/-- A write of TIDE_CMD (R61): REALIGN aligns on the parent as R47 has it. The spec gives REALIGN no outcome on a chip that is the master
or has ENABLE 0: there it is answered OK and does nothing (DESIGN CHOICE, log entry 1134). -/
def tideCmd (s : State) (q : Req) (realign burst : Bool) : State :=
  if tideCmdCode s q realign = rOk then
    let s1 := if realign && s.tide.child then alignParent s else s
    (if burst then burstAll s1 else s1).replyW q rOk
  else s.replyW q (tideCmdCode s q realign)

/-- TIDE_REALIGN (R57). -/
def execTideRealign (q : Req) (s : State) : Host.Outcome State Fault Refusal :=
  if q.wdata.getLsbD 0 then tideReq true 0x00C q s fun s => tideCmd s q true (q.wdata.getLsbD 1) else .next s

/-- TIDE_BURST_CMD (R61). -/
def execTideBurstCmd (q : Req) (s : State) : Host.Outcome State Fault Refusal :=
  if q.wdata.getLsbD 1 then tideReq true 0x00C q s fun s => tideCmd s q (q.wdata.getLsbD 0) true else .next s

/-- TIDE_NOW_READ (R59): the low half answers and the high half is held for this window. -/
def execTideNowRead (q : Req) (s : State) : Host.Outcome State Fault Refusal :=
  tideReq false 0x000 q s fun s =>
    (s.modTide fun t => { t with nowHi := t.nowHi.set q.win.toNat (s.entryCount.extractLsb' 32 32) }).reply q.win.toNat q.tag rOk
      (s.entryCount.extractLsb' 0 32)

/-- TIDE_STEP as 64 bits (R66). -/
def Tide.stepBits (t : Tide) : BitVec 64 := BitVec.ofInt 64 t.step

/-- TIDE_STEP_READ (R66). -/
def execTideStepRead (q : Req) (s : State) : Host.Outcome State Fault Refusal :=
  tideReq false 0x020 q s fun s =>
    (s.modTide fun t => { t with stepHi := t.stepHi.set q.win.toNat (t.stepBits.extractLsb' 32 32) }).reply q.win.toNat q.tag rOk
      (s.tide.stepBits.extractLsb' 0 32)

/-- A write of TIDE_STAT (R51, R60): W1C of SAT, and of OOB, whose clearing within bound lets cross-chip circuits resume. -/
def tideStatWrite (s : State) (oob sat : Bool) : State :=
  s.modTide fun t => { t with
    oob := t.oob && !oob, sat := t.sat && !sat,
    suspended := t.suspended && !(oob && decide (t.accErr.natAbs ≤ 8)) }

/-- TIDE_OOB_CLEAR (R51). -/
def execTideOobClear (q : Req) (s : State) : Host.Outcome State Fault Refusal :=
  if q.wdata.getLsbD 7 then
    tideReq true 0x008 q s fun s =>
      if q.win ≠ 0 then s.replyW q rDenied else (tideStatWrite s true (q.wdata.getLsbD 6)).replyW q rOk
  else .next s

end Sys2Proof.Machine
end

