-- ==== Sys2Proof/Machine/TPlane.lean ====
section
/-! DEFINITION. The T-plane router: flits into the VC buffers, the choice of outputs, circuits, arbitration and the output
cycle, and credits (R67 to R73, R100 to R115, R128, R141 to R160, R602). -/

namespace Sys2Proof.Machine

/-! ## Access -/

/-- The VC buffer of an input (R70). -/
def Router.buf (r : Router) (port vc : Nat) : VcBuf := Tab.get default r.bufs (4 * port + vc)

/-- The VC buffer of an input becomes `b`. -/
def Router.setBuf (r : Router) (port vc : Nat) (b : VcBuf) : Router := { r with bufs := r.bufs.set (4 * port + vc) b }

/-- An output port of a router. -/
def Router.outp (r : Router) (o : Nat) : OutPort := Tab.get OutPort.init r.outs o

/-- An output port of a router is changed by `f`. -/
def Router.modOut (r : Router) (o : Nat) (f : OutPort → OutPort) : Router := { r with outs := r.outs.set o (f (r.outp o)) }

/-- Flits that an input VC buffer holds. -/
def VcBuf.load (b : VcBuf) : Nat := (b.pkts.map fun p => p.got.length - p.freed).sum

/-- One credit for each of `k` flits that left a buffer (R70). -/
def State.credits (s : State) (t port vc k : Nat) : State := s.emits (List.replicate k (.tCredit t port vc))

/-- The value of a register that reaches the arbiters some fc after its write (R159, R162): the latest that has. -/
def effective (h : List Delayed) (ft : Nat) (reset : Word) : Word :=
  h.foldl (fun v d => if d.at_ ≤ ft then d.value else v) reset

/-- STOP_PRIO and STOP_ARB as the arbiters see them. -/
def State.prioNow (s : State) (t : Nat) : Word := effective (s.stop t).rt.prioNext s.ft 0
def State.arbNow (s : State) (t : Nat) : Word := effective (s.stop t).rt.arbNext s.ft 0x00040000

/-! ## The fence route set of a dead port -/

/-- Whether a fence route set applies to a dead port (R115, R117): the port faces a tile whose set is pending or in force. -/
def State.setApplies (s : State) (t p : Nat) : Bool :=
  match neighbour s.build t p with
  | some u => s.flt.setTiles.contains u
  | none => false

/-- Whether the packets that only a dead port can take wait there (R115): for a fence route set; at a dead ring port they wait for
R377 to rewrite the egress entries (DEDUCED, log entry 21). -/
def State.waitsAtDead (s : State) (t p : Nat) : Bool := s.setApplies t p || decide (p ≥ 5)

/-- Whether an output is dead. -/
def State.deadOut (s : State) (t p : Nat) : Bool := ((s.stop t).rt.outp p).dead

/-! ## A head flit's decision -/

/-- What becomes of an arriving packet. -/
inductive Fate where
  /-- It takes one of these outputs (R106 to R110). -/
  | choose (l : List Nat)
  /-- It takes every one of these outputs (R128). -/
  | fork (l : List Nat)
  /-- It is discarded as the fault `code`, or silently with 0; `answer` gives the code of a NACK with WHOLE = 1 for the LAST
  packet of a VC0 message. -/
  | drop (code : Nat) (answer : Option Nat)
  deriving DecidableEq, Repr

/-- Whether a packet for a fenced client is discarded at its router and answered (R112): a VC0 packet, and a unicast copy of a
multicast, which goes as one (R133). -/
def toFenced (h : THdr) : Bool := h.vc == 0 || (h.dmode == 0 && h.type == tMcast)

/-- A unicast packet whose outputs are known: to a fenced client it is discarded (R112), and where every output is dead and no set
applies it is dropped at once (R115). -/
def State.unicastFate (s : State) (t : Nat) (h : THdr) (l : List Nat) : Fate :=
  if l = [4] ∧ (s.stop t).ro.clientFenced = true ∧ toFenced h = true then .drop 0 (some nFenced)
  else if l.all (fun p => s.deadOut t p) && !l.any (fun p => s.waitsAtDead t p) then .drop 0x0308 (some nFenced)
  else .choose l

/-- What becomes of a packet with header `h` that arrives at stop `t` by `port` (R73, R103 to R115, R126 to R128). -/
def State.fate (s : State) (t port : Nat) (h : THdr) : Fate :=
  if !s.hdrOk h then .drop 0x0303 none
  else if h.dmode = 0 then
    match s.route t port h with
    | .miss => .drop 0x0307 none
    | .fenced => .drop 0 (some nFenced)
    | .outs l => s.unicastFate t h l
  else
    match s.mcastBranches t port h with
    | none => .drop 0x0309 none
    | some l => .fork l

/-- The branches a forked packet really takes: a branch at a dead port is dropped and counted (R128), and a fenced client's
copy is pruned (R112). -/
def State.liveBranches (s : State) (t : Nat) (l : List Nat) : List Nat :=
  l.filter fun p => !s.deadOut t p && !(p == 4 && (s.stop t).ro.clientFenced)

/-- A branch that nothing has been sent on. -/
def freshBranch (p : Nat) : Branch := { port := p, sent := 0, won := false }

/-- A packet dropped on its decision: its fault, NOROUTE, and its FENCED answer (R110, R112, R115). -/
def State.dropPkt (s : State) (t : Nat) (h : THdr) (code : Nat) (answer : Option Nat) : State :=
  let s1 := if code = 0 then s else s.raiseAt t uT code 0 h.mseq.toNat
  let s2 := if code = 0x0308 then s1.modRo t fun r => { r with noroute := inc8 r.noroute } else s1
  if answer.isSome then s2.fencedAnswer t h else s2

/-- A packet enters a VC buffer with its decision taken; `none` where it is discarded. -/
def State.enter (s : State) (t port : Nat) (f : Flit) : State × Option BufPkt :=
  let h := thdrOfBytes f.data
  let total := flitsOf s.build h.plen.toNat
  let base : BufPkt := { hdr := h, total := total, got := [f], freed := 0, since := s.ft, cands := [], branches := [] }
  match s.fate t port h with
  | .drop code a => (s.dropPkt t h code a, none)
  | .choose [p] => (s, some { base with branches := [freshBranch p] })
  | .choose l => (s, some { base with cands := l })
  | .fork l =>
    let e := s.enterDie t port h
    let s := e.1
    let live := if e.2 then s.liveBranches t l else []
    let lost := if e.2 then (l.filter fun p => s.deadOut t p).length else 0
    let s1 := if lost = 0 then s else s.modSi t fun si => { si with brdrop := add8 si.brdrop lost }
    let s2 := if e.2 && l.contains 4 && (s.stop t).ro.clientFenced && h.last == 1 then s1.answerMcast t h nFenced else s1
    if live.isEmpty then (s2, none) else (s2, some { base with branches := live.map freshBranch })

/-- The packet of a buffer that has not had its TAIL yet: the newest. -/
def VcBuf.isOpen (b : VcBuf) : Bool :=
  match b.pkts.getLast? with
  | some p => !(p.got.getLast?.map (·.tail)).getD false
  | none => false

/-- The newest packet of a buffer is changed by `f`. -/
def VcBuf.modLast (b : VcBuf) (f : BufPkt → BufPkt) : VcBuf :=
  match b.pkts.getLast? with
  | some p => { b with pkts := b.pkts.dropLast ++ [f p] }
  | none => b

/-- Whether some output has taken the packet's head. -/
def BufPkt.started (p : BufPkt) : Bool := p.branches.any fun b => b.sent > 0

/-- The flit that ends an abandoned packet (R69). -/
def killFlit (b : Build) (vc : BitVec 2) : Flit :=
  { vc := vc, head := false, tail := true, kill := true, data := List.replicate (flitW b) 0 }

/-- A packet is abandoned with the flit `f`: only the outputs that have its head go on, and they end with `f` (R69). -/
def BufPkt.abandon (p : BufPkt) (f : Flit) : BufPkt :=
  { p with got := p.got ++ [f], total := p.got.length + 1, cands := [], branches := p.branches.filter fun b => b.sent > 0 }

/-- The outputs that have granted the packet of requester `i` and not had its head are free again, and the credit they had reserved
is not used (R69, R114). -/
def Router.ungrant (r : Router) (i : Nat) (p : BufPkt) : Router :=
  (p.branches.filter fun b => b.won && b.sent == 0).foldl (fun r b => r.modOut b.port fun o =>
    if o.holder = some i then
      { o with holder := none, used := o.used.set p.hdr.vc.toNat (Tab.get 0 o.used p.hdr.vc.toNat - p.total) }
    else o) r

/-- An abandoned packet leaves the buffer where no output has its head, and returns its credits. -/
def State.abandonLast (s : State) (t port vc : Nat) (b : VcBuf) (f : Flit) (disc : Bool) : State :=
  match b.pkts.getLast? with
  | none => s
  | some p =>
    let s := s.modRt t fun r => r.ungrant (4 * port + vc) p
    if p.started then s.modRt t fun r => r.setBuf port vc { (b.modLast fun p => p.abandon f) with disc := disc }
    else
      (s.modRt t fun r => r.setBuf port vc { pkts := b.pkts.dropLast, disc := disc })
        |>.credits t port vc (p.got.length - p.freed)

/-- An uncorrectable flit (R69). -/
def State.badFlit (s : State) (t port vc : Nat) (f : Flit) : State :=
  let b := (s.stop t).rt.buf port vc
  let s1 := (s.raiseAt t uT 0x0302 0 0).credits t port vc 1
  if f.head || !b.isOpen then s1.modRt t fun r => r.setBuf port vc { b with disc := !f.tail }
  else s1.abandonLast t port vc b (killFlit s.build f.vc) (!f.tail)

/-- A packet of another chip enters this one by a ring port of tile `t`, whose column is its source column here (R107). -/
def State.noteEntry (s : State) (t : Nat) (h : THdr) : State :=
  if h.snode.toNat = s.node ∨ h.dmode ≠ 0 then s
  else { s with entered := (s.entered.filter fun e => e.1 != h) ++ [(h, tileX t)] }

/-- The packet has left the chip's routers. -/
def State.noteExit (s : State) (h : THdr) : State := { s with entered := s.entered.filter fun e => e.1 != h }

/-- A flit that passed ECC enters the buffer (R69, R70, R73). -/
def State.goodFlit (s : State) (t port vc : Nat) (f : Flit) : State :=
  let b := (s.stop t).rt.buf port vc
  if f.head then
    match (if 5 ≤ port then s.noteEntry t (thdrOfBytes f.data) else s).enter t port f with
    | (s1, some p) => s1.modRt t fun r => r.setBuf port vc { b with pkts := b.pkts ++ [p] }
    | (s1, none) => ((s1.noteExit (thdrOfBytes f.data)).modRt t fun r => r.setBuf port vc { b with disc := !f.tail }).credits t port vc 1
  else if !b.isOpen then s.credits t port vc 1
  else if f.tail && f.kill then
    (s.abandonLast t port vc b f false).credits t port vc (if ((b.pkts.getLast?).map BufPkt.started).getD false then 0 else 1)
  else s.modRt t fun r => r.setBuf port vc (b.modLast fun p => { p with got := p.got ++ [f] })

/-- A stop input takes a flit (R69): while the VC discards, flits go until the next TAIL. -/
def State.takeFlit (s : State) (t port : Nat) (f : Flit) (e : Ecc) : State :=
  let vc := f.vc.toNat
  let b := (s.stop t).rt.buf port vc
  let s0 := if e = .corrected then s.raiseAt t uT 0x0301 0 0 else s
  if b.disc then
    ((if e = .bad then s0.raiseAt t uT 0x0302 0 0 else s0).modRt t fun r => r.setBuf port vc { b with disc := !f.tail })
      |>.credits t port vc 1
  else if e = .bad then s0.badFlit t port vc f
  else s0.goodFlit t port vc f

/-! ## Circuits -/

/-- Fields of a slot entry (R142). -/
def seKind (w : Word) : Nat := (w.extractLsb' 30 2).toNat
def seIn (w : Word) : Nat := (w.extractLsb' 25 4).toNat
def seCid (w : Word) : Nat := (w.extractLsb' 0 12).toNat

/-- The active entry of an output at an index (R141). -/
def State.entry (s : State) (t o i : Nat) : Word := (((s.stop t).rt.outp o).bank s.slotBank).entry (i % 256)

/-- Whether cross-chip circuits are suspended (R51, R54, R387). -/
def State.circSuspended (s : State) : Bool := s.tide.suspended

/-- Whether circuit `cid` runs over link `n`: an entry of it at the link's tile leaves or comes by the link's ring port (R382). -/
def State.usesLink (s : State) (cid n : Nat) : Bool :=
  let t := linkTile s.build n
  let o := 5 + linkPort s.build n
  (portsOf s.build t).any fun p => (((s.stop t).rt.outp p).bank s.slotBank).entries.any fun e =>
    seKind e.2 == 1 && seCid e.2 == cid && (p == o || seIn e.2 == slotCode o)

/-- Cross-chip circuit `cid` is suspended (R51, R54, R383): every one, or those over a link whose LINK_CTL.EN is 0. -/
def State.circStopped (s : State) (cid : Nat) : Bool :=
  s.circSuspended || s.tide.oob || s.allLinks.any fun n => !(s.link n).en && s.usesLink cid n

/-- Whether a circuit entry of output `o` is ceased (R151). -/
def State.ceased (s : State) (t o : Nat) (w : Word) : Bool :=
  let r := (s.stop t).rt
  seKind w == 1 &&
  (r.ceasedPorts.contains o || (match slotPort s.build t (seIn w) with | some p => r.ceasedPorts.contains p | none => true) ||
   (w.getLsbD 29 && s.circStopped (seCid w)))

/-- The circuit that output `o` of stop `t` sends a flit of at index `i`, by the entries of its active bank. -/
def State.circAt (s : State) (t o i : Nat) : Option Nat :=
  let w := s.entry t o i
  if seKind w == 1 then some (seCid w) else none

/-- The circuit that the receive map of input `port` marks at index `i` (R149), as the active bank's entries stand, ceased or not:
the one whose flit the upstream output sent so that it arrives now, one fc before it must leave (R146; DEDUCED, log entry 22). -/
def State.recvMap (s : State) (t port i : Nat) : Option Nat :=
  match neighbour s.build t port with
  | some u =>
    let back := 1 + s.hopExtra u (facing port)
    s.circAt u (facing port) (i + 256 - back)
  | none => none

/-- A circuit flit is discarded (R149): its counter and fault, and the later flits of its circuit with it. -/
def State.dropCirc (s : State) (t cid code : Nat) : State :=
  (s.modRt t fun r => { r with
    cdrop := if code = 0x0306 then inc8 r.cdrop else r.cdrop, mispl := if code = 0x0305 then inc8 r.mispl else r.mispl,
    cdisc := if r.cdisc.contains cid then r.cdisc else r.cdisc ++ [cid] }).raiseAt t uT code 0 cid

/-- A circuit flit from a link is discarded (R383), and the later flits of its circuit with it (R149). -/
def State.dropLinkCirc (s : State) (n cid : Nat) : State :=
  let t := linkTile s.build n
  ((s.modLl n fun l => { l with cdrop := inc8 l.cdrop }).modRt t fun r => { r with
    cdisc := if r.cdisc.contains cid then r.cdisc else r.cdisc ++ [cid] }).raise (unitId uLink n) 0x0306 0 cid 0

/-- The circuit flits of a link whose departure has passed are discarded (R383). -/
def State.expireLink (s : State) (n : Nat) : State :=
  let late := ((s.link n).ll.circRx.filter fun x => x.due < s.ft).map (·.cid)
  if late.isEmpty then s
  else late.foldl (fun s c => s.dropLinkCirc n c) (s.modLl n fun l => { l with circRx := l.circRx.filter fun x => s.ft ≤ x.due })

/-- The circuit flits of an input whose departure has passed are discarded (R149, R383). -/
def State.expireSkid (s : State) (t : Nat) : State :=
  let s := (linksOf s.build t).foldl (fun s n => s.expireLink n) s
  let late := (s.stop t).rt.skid.foldl (fun l e => l ++ (e.2.filter fun x => x.due < s.ft).map (·.cid)) []
  if late.isEmpty then s
  else
    late.foldl (fun s c => s.dropCirc t c 0x0306)
      (s.modRt t fun r => { r with skid := r.skid.map fun e => (e.1, e.2.filter fun x => s.ft ≤ x.due) })

/-- A circuit flit of circuit `cid` goes into the skid of input `port`, to leave at fc `due` (R149). -/
def State.intoSkid (s : State) (t port cid : Nat) (f : Flit) (due : Nat) : State :=
  let r := (s.stop t).rt
  let first := f.vc == 1 || f.vc == 3
  if r.ceasedPorts.contains port then s
  else if r.cdisc.contains cid && !first then s
  else
    let s1 := s.modRt t fun r => { r with cdisc := r.cdisc.filter (· != cid) }
    let sk := Tab.get [] r.skid port
    if sk.length ≥ 2 then s1.dropCirc t cid 0x0306
    else s1.modRt t fun r => { r with skid := r.skid.set port (sk ++ [{ cid := cid, flit := f, due := due }]) }

/-- A circuit flit arrives (R149): at an index its receive map marks it enters the skid. One at another index bears no circuit's
number, so that no later flits are discarded for it but those at such indices (DEDUCED, log entry 1145). -/
def State.takeCirc (s : State) (t port : Nat) (f : Flit) (e : Ecc) : State :=
  let s := s.expireSkid t
  match s.recvMap t port s.slotIndex with
  | some cid =>
    if e = .bad then s.dropCirc t cid 0x0306
    else (if e = .corrected then s.raiseAt t uT 0x0301 0 0 else s).intoSkid t port cid f (s.ft + 1)
  | none => (s.modRt t fun r => { r with mispl := inc8 r.mispl }).raiseAt t uT 0x0305 0 0

/-- The header with what the SI fills in as the packet leaves it: the tide stamp (R94) and the end-to-end sequence of a packet to
another chip (R93). -/
def State.stampHdr (s : State) (h : THdr) : State × THdr :=
  let h1 := { h with tstamp := s.stamp }
  if h.dmode = 0 ∧ h.dnode.toNat ≠ s.node then
    let q := Tab.get 0 s.e2eSeq h.dnode.toNat
    ({ s with e2eSeq := s.e2eSeq.set h.dnode.toNat (q + 1) }, { h1 with e2e := 1, e2eseq := q })
  else (s, h1)

/-- Whether a message takes its MSEQ from the SI's counter and counts towards R83. -/
def MsgOwner.flight (o : MsgOwner) : Bool :=
  match o with
  | .desc | .member _ => true
  | _ => false

/-- Messages of the SI in flight (R83, R98): those whose first packet has been injected. -/
def Si.inflight (si : Si) : Nat := (si.msgs.filter fun m => m.flown && m.owner.flight).length

/-- Whether a packet of `m` may be injected: its message is in flight, or is one that R83 does not hold back. -/
def Si.mayFly (si : Si) (m : Msg) : Bool := m.flown || !m.owner.flight || decide (si.inflight < 64)

/-- The first packet of the SI's circuit `cid`, if it may leave (R83, R150). -/
def Si.circFront (si : Si) (cid : Nat) : Option CircPkt :=
  match si.circ.find? fun c => c.cid == cid with
  | some c => if c.sent ≠ 0 ∨ (si.msgs.any fun m => m.uid == c.uid && !si.mayFly m) = false then some c else none
  | none => none

/-- The SI's record of a circuit packet from which a flit has left (R90, R150): the message is in flight, and the last flit of its last
packet starts the answer timer. -/
def Si.circSent (si : Si) (cid : Nat) (c : CircPkt) (done : Bool) (ft : Nat) : Si :=
  { si with
    circ := if done then si.circ.eraseP (fun x => x.cid == cid) else replaceFirst (fun x => x.cid == cid) { c with sent := c.sent + 1 } si.circ
    msgs := si.msgs.map fun m =>
      if m.uid == c.uid then { m with flown := true, deadline := if c.last && done then some (ft + 100 * usFc) else m.deadline } else m }

/-- The T-plane watchpoints see an injection of MWRITE, MREAD, PUT or RINGMSG (R510). -/
def State.watchT (s : State) (t : Nat) (h : THdr) : State :=
  if h.vc = 0 then
    let n := if h.type = tMread then (h.w6.extractLsb' 40 24).toNat else h.plen.toNat
    s.watch (unitId uSi (s.phys t)) 1 h.addr.toNat n (thdrW0 h).toNat
  else s

/-- The probe of the SI at `t` is changed by `f` (R511). -/
def State.modPb (s : State) (t : Nat) (f : Probe → Probe) : State := s.modStop t fun st => { st with pb := f st.pb }

/-- `n` flits that the SI injects are counted in C0 (R511). -/
def State.injected (s : State) (t n : Nat) : State := s.modPb t fun b => { b with c0 := b.c0 + BitVec.ofNat 32 n }

/-- The circuit flit due at the output whose active entry is `w`, from the skid that `IN` names or from the source SI. -/
def State.circDue (s : State) (t : Nat) (w : Word) : Option (Flit × State) :=
  let cid := seCid w
  match slotPort s.build t (seIn w) with
  | some 4 =>
    match (s.stop t).si.circFront cid with
    | none => none
    | some c0 =>
      let r := if c0.sent = 0 then s.stampHdr c0.pkt.hdr else (s, c0.pkt.hdr)
      let c := { c0 with pkt := { c0.pkt with hdr := r.2 } }
      let fl := pktFlits s.build c.pkt
      match fl[c.sent]? with
      | none => none
      | some f =>
        let n := fl.length
        let s1 := r.1.modSi t fun si => si.circSent cid c (decide (c.sent + 1 = n)) s.ft
        let fr : BitVec 2 := if n = 1 then 3 else if c.sent = 0 then 1 else if c.sent + 1 = n then 2 else 0
        some ({ f with vc := fr, head := true, tail := false, kill := true },
          (if c.sent = 0 then s1.watchT t c.pkt.hdr else s1).injected t 1)
  | some p =>
    if p ≥ 5 then
      let n := nth 0 (linksOf s.build t) (p - 5)
      match (s.link n).ll.circRx.find? (fun x => x.cid == cid && x.due == s.ft) with
      | some x =>
        some ({ vc := x.vc, head := true, tail := false, kill := true, data := x.data }, s.modLl n fun l => { l with circRx := l.circRx.erase x })
      | none => none
    else
    match (Tab.get [] (s.stop t).rt.skid p).find? (fun x => x.cid == cid && x.due == s.ft) with
    | some x => some (x.flit, s.modRt t fun r => { r with skid := r.skid.set p ((Tab.get [] r.skid p).erase x) })
    | none => none
  | none => none

/-! ## Arbitration -/

/-- A packet is foreign at a tile (R153). -/
def State.isForeign (s : State) (t : Nat) (h : THdr) : Bool :=
  match s.tilePan t with
  | some p => h.pan.toNat != p.id
  | none => true

/-- The effective priority of a packet (R159). -/
def State.prioOf (s : State) (t : Nat) (h : THdr) : Nat :=
  let w := s.prioNow t
  let v := h.vc.toNat
  if w.getLsbD (4 * v + 3) then (w.extractLsb' (4 * v) 3).toNat else h.prio.toNat

/-- Bytes of the link transmit buffer that a ring port's T-plane VC has room for (R368): one maximum packet. -/
def State.linkRoom (s : State) (n vc : Nat) : Nat :=
  let held := ((s.link n).ll.tx.filter fun x => x.vc == vc).map fun x => x.bytes.length - x.framed
  maxFlits s.build - ceilDiv held.sum (flitW s.build)

/-- Free credit downstream of an output on a VC, in flits (R70, R368). -/
def State.creditAt (s : State) (t o vc : Nat) : Nat :=
  let u := Tab.get 0 ((s.stop t).rt.outp o).used vc
  if o < 5 then maxFlits s.build - u
  else match (linksOf s.build t)[o - 5]? with
    | some n => s.linkRoom n vc - u
    | none => 0

/-- The free credits of an output at the start of this fc are kept, before the first of them changes in it (R108). -/
def State.holdCredit (s : State) (t o : Nat) : State :=
  let op := (s.stop t).rt.outp o
  if (op.held.map (·.1)) = some s.ft then s
  else s.modRt t fun r => r.modOut o fun op => { op with held := some (s.ft, (List.range 4).map fun vc => (vc, s.creditAt t o vc)) }

/-- Free credit downstream of an output on a VC at the start of this fc (R108). -/
def State.creditStart (s : State) (t o vc : Nat) : Nat :=
  match ((s.stop t).rt.outp o).held with
  | some (f, l) => if f = s.ft then Tab.get 0 l vc else s.creditAt t o vc
  | none => s.creditAt t o vc

/-- An output leads into a row that is held for a new map (R16): the stops that border it take nothing more into it. -/
def State.heldInto (s : State) (t o : Nat) : Bool :=
  match neighbour s.build t o with
  | some u => tileY u != tileY t && (s.row (tileY u)).hold.isSome
  | none => false

/-- The tile's own row is held (R16): nothing new enters it there. -/
def State.rowHeld (s : State) (t : Nat) : Bool := (s.row (tileY t)).hold.isSome

/-- The output that a packet with two candidates competes for now, by the credits held at the start of the fc (R108). -/
def State.pickOut (s : State) (t : Nat) (p : BufPkt) : Option Nat :=
  let vc := p.hdr.vc.toNat
  let ok := p.cands.filter fun o => !s.deadOut t o && decide (p.total ≤ s.creditStart t o vc)
  match ok with
  | [] => none
  | [o] => some o
  | a :: b :: _ =>
    let ca := s.creditStart t a vc
    let cb := s.creditStart t b vc
    if ca > cb then some a else if cb > ca then some b else if a == 1 || a == 3 then some a else some b

/-- Whether the packet at the front of a buffer competes for output `o` in this fc (R108, R156). -/
def State.competes (s : State) (t o : Nat) (p : BufPkt) : Bool :=
  if s.heldInto t o then false
  else if p.cands.isEmpty then
    p.branches.any (fun b => b.port == o && !b.won) && !s.deadOut t o && decide (p.total ≤ s.creditAt t o p.hdr.vc.toNat)
  else s.pickOut t p == some o && decide (p.total ≤ s.creditAt t o p.hdr.vc.toNat)

/-- The requesters that are candidates at output `o`, with their packets, by index 4n + VC (R156). -/
def State.candidates (s : State) (t o : Nat) : List (Nat × BufPkt) :=
  (List.range 52).filterMap fun i =>
    match ((s.stop t).rt.buf (i / 4) (i % 4)).pkts.head? with
    | some p => if s.competes t o p then some (i, p) else none
    | none => none

/-- The first of `l` after pointer `ptr`, cyclic over 0 to 51 (R156). -/
def rrNext (ptr : Nat) (l : List (Nat × BufPkt)) : Option (Nat × BufPkt) :=
  l.foldl (fun best c =>
    match best with
    | none => some c
    | some b => if (c.1 + 51 - ptr) % 52 < (b.1 + 51 - ptr) % 52 then some c else some b) none

/-- The highest effective priority among candidates. -/
def State.topPrio (s : State) (t : Nat) (l : List (Nat × BufPkt)) : Nat := l.foldl (fun m c => max m (s.prioOf t c.2.hdr)) 0

/-- The ranking of R156: the winner, its level, and whether it came from the transit class. -/
def State.rank (s : State) (t o : Nat) (cs : List (Nat × BufPkt)) : Option (Nat × BufPkt × Nat × Bool) :=
  let op := (s.stop t).rt.outp o
  let tr := cs.filter fun c => s.isForeign t c.2.hdr && decide (c.2.total ≤ op.tbal)
  let pool := if tr.isEmpty then cs else tr
  let p := s.topPrio t pool
  match rrNext (Tab.get 0 op.ptr p) (pool.filter fun c => s.prioOf t c.2.hdr == p) with
  | some w => some (w.1, w.2, p, !tr.isEmpty)
  | none => none

/-- The packet at the front of requester `i` is granted output `o`. -/
def BufPkt.grant (p : BufPkt) (o : Nat) : BufPkt :=
  if p.cands.isEmpty then { p with branches := p.branches.map fun b => if b.port == o then { b with won := true } else b }
  else { p with cands := [], branches := [{ port := o, sent := 0, won := true }] }

/-- The front packet of a requester is changed by `f`. -/
def Router.modFront (r : Router) (i : Nat) (f : BufPkt → BufPkt) : Router :=
  let b := r.buf (i / 4) (i % 4)
  match b.pkts with
  | [] => r
  | p :: ps => r.setBuf (i / 4) (i % 4) { b with pkts := f p :: ps }

/-- Output `o` grants requester `i` its packet of `total` flits: the credit is reserved, and the head crosses from the next fc
on, one fc later after another requester's tail (R157). -/
def State.grantTo (s : State) (t o i : Nat) (p : BufPkt) (turn : Bool) : State :=
  (s.holdCredit t o).modRt t fun r => (r.modFront i fun x => x.grant o).modOut o fun op => { op with
    holder := some i, headAt := s.ft + (if turn then 2 else 1), burst := if op.last == some i then op.burst + 1 else 1,
    used := op.used.set p.hdr.vc.toNat (Tab.get 0 op.used p.hdr.vc.toNat + p.total) }

/-- The ranking runs over all candidates (R156, R158). -/
def State.ranked (s : State) (t o : Nat) (cs : List (Nat × BufPkt)) (tailNow : Bool) : State :=
  match s.rank t o cs with
  | none => s
  | some (i, p, lvl, transit) =>
    let op := (s.stop t).rt.outp o
    (s.grantTo t o i p (tailNow && op.last != some i)).modRt t fun r => r.modOut o fun op => { op with
      ptr := op.ptr.set lvl i, tbal := if transit then op.tbal - p.total else op.tbal }

/-- The arbitration of an output (R156 to R160); `tailNow` says that a tail crossed it in this fc. -/
def State.arbitrate (s : State) (t o : Nat) (tailNow : Bool) : State :=
  let op := (s.stop t).rt.outp o
  let cs := s.candidates t o
  let arb := s.arbNow t
  match cs.find? fun c => op.last == some c.1 with
  | some (i, p) =>
    if arb.getLsbD 31 && tailNow && decide (op.burst < (arb.extractLsb' 16 5).toNat) then s.grantTo t o i p false
    else if !arb.getLsbD 31 && cs.length == 1 then s.grantTo t o i p false
    else s.ranked t o cs tailNow
  | none => s.ranked t o cs tailNow

/-! ## The output cycle -/

/-- A packet flit enters the transmit buffer of the link at a ring port (R368); an abandoned packet leaves it. -/
def State.toLink (s : State) (n : Nat) (f : Flit) (h : THdr) : State :=
  s.modLl n fun l =>
    let vc := f.vc.toNat
    if f.tail && f.kill then
      { l with tx := l.tx.filter fun x => !(x.vc == vc && !x.whole) }
    else
      let tx := if f.head then l.tx ++ [{ vc := vc, bytes := [], framed := 0, whole := false }] else l.tx
      { l with tx := tx.map fun x =>
          if x.vc == vc && !x.whole then
            let bs := x.bytes ++ f.data
            { x with bytes := if f.tail then bs.take (64 + h.plen.toNat) else bs, whole := f.tail }
          else x }

/-- A flit of a packet with header `h` crosses output `o`; the SI counts a packet that ends with `KILL` (R97). -/
def State.crossOut (s : State) (t o : Nat) (f : Flit) (h : THdr) : State :=
  let s := if f.tail && decide (4 ≤ o) then s.noteExit h else s
  if o = 4 ∧ f.tail = true ∧ f.kill = true then (s.emit (.tFlit t o f)).modSi t fun si => { si with killed := inc8 si.killed }
  else if o < 5 then s.emit (.tFlit t o f)
  else match (linksOf s.build t)[o - 5]? with
    | some n => (s.toLink n f h).modRt t fun r => r.modOut o fun op => { op with
        used := op.used.set f.vc.toNat (Tab.get 0 op.used f.vc.toNat - 1) }
    | none => s

/-- Flits of a packet that every branch has sent. -/
def BufPkt.allSent (p : BufPkt) : Nat :=
  if p.cands.isEmpty then p.branches.foldl (fun m b => min m b.sent) p.got.length else 0

/-- The buffer places of an input whose flits every branch has sent are freed, with their credits, and a finished packet
leaves the buffer (R70, R128). -/
def State.freeFront (s : State) (t i : Nat) : State :=
  let b := (s.stop t).rt.buf (i / 4) (i % 4)
  match b.pkts with
  | [] => s
  | p :: ps =>
    let k := p.allSent - p.freed
    let done := decide (p.allSent = p.got.length) && (p.got.getLast?.map (·.tail)).getD false
    (s.modRt t fun r => r.setBuf (i / 4) (i % 4) { b with pkts := if done then ps else { p with freed := p.allSent } :: ps })
      |>.credits t (i / 4) (i % 4) k

/-- The holder's next flit crosses output `o`, if one is ready (R155). Answers whether a tail crossed. -/
def State.sendHeld (s : State) (t o : Nat) : State × Bool :=
  let op := (s.stop t).rt.outp o
  match op.holder with
  | none => (s, false)
  | some i =>
    match ((s.stop t).rt.buf (i / 4) (i % 4)).pkts.head? with
    | none => (s, false)
    | some p =>
      match p.branches.find? (fun b => b.port == o && b.won) with
      | none => (s, false)
      | some b =>
        match p.got[b.sent]? with
        | none => (s, false)
        | some f =>
          if b.sent = 0 ∧ s.ft < op.headAt then (s, false)
          else
            let s1 := ((s.holdCredit t o).crossOut t o f p.hdr).modRt t fun r => r.modFront i fun x => { x with
              branches := x.branches.map fun y => if y.port == o then { y with sent := y.sent + 1 } else y }
            let s2 := if f.tail then s1.modRt t fun r => r.modOut o fun op => { op with
                holder := none, last := some i
                used := if f.kill then op.used.set p.hdr.vc.toNat
                    (Tab.get 0 op.used p.hdr.vc.toNat - (flitsOf s.build p.hdr.plen.toNat - p.total)) else op.used } else s1
            (s2.freeFront t i, f.tail)

/-- The transit balance's rise at this index (R154), which comes before the arbitration of the same fc (DESIGN CHOICE, log entry
1146). -/
def State.transitRise (s : State) (t o : Nat) (w : Word) (circSent : Bool) : State :=
  let i := s.slotIndex
  let op := (s.stop t).rt.outp o
  if seKind w = 2 ∨ (seKind w = 1 ∧ circSent = false ∧ (op.bank s.slotBank).tmap.getLsbD i = true) then
    s.modRt t fun r => r.modOut o fun op => { op with tbal := min (maxFlits s.build) (op.tbal + 1) }
  else s

/-- Flits that the ejection buffer for circuit data holds (R150): those of the open packet, of which `rx` has come, and those of the
packets that the SI has not taken. -/
def Si.circLoad (si : Si) (b : Build) (rx : List Byte) : Nat :=
  ceilDiv rx.length (flitW b) + (si.circDone.map fun p => flitsOf b p.hdr.plen.toNat).sum

/-- The destination SI assembles a circuit packet from its framing in its ejection buffer, from which it is taken as an arriving packet
(R150): a first flit discards an open packet, and a flit that finds the buffer full is dropped with the rest of its packet. -/
def State.circEject (s : State) (t cid : Nat) (f : Flit) : State :=
  let si := (s.stop t).si
  let first := f.vc == 1 || f.vc == 3
  let last := f.vc == 2 || f.vc == 3
  let rx := if first then [] else si.circRx
  if !first && !si.circOpen then s
  else if si.circLoad s.build rx ≥ maxFlits s.build then
    (s.modSi t fun si => { si with circRx := [], circOpen := false }).dropCirc t cid 0x0306
  else if last then
    let p := pktOfBytes (rx ++ f.data)
    (s.modSi t fun si => { si with circRx := [], circOpen := false, circDone := si.circDone ++ [p] }).emit (.circPkt t p)
  else s.modSi t fun si => { si with circRx := rx ++ f.data, circOpen := true }

/-- The SI takes a packet that the ejection buffer for circuit data holds (R150). -/
def State.circTake (s : State) (t : Nat) (p : Pkt) : State := s.modSi t fun si => { si with circDone := si.circDone.erase p }

/-- A circuit flit leaves by output `o`: onto the wire, to the own SI, or into the circuit transmit queue of the link at a
ring port (R150, R382). -/
def State.crossCirc (s : State) (t o cid : Nat) (f : Flit) : State :=
  if o = 4 then (s.emit (.tCirc t o cid f)).circEject t cid f
  else if o < 5 then s.emit (.tCirc t o cid f)
  else match (linksOf s.build t)[o - 5]? with
    | some n => s.modLl n fun l => { l with circTx := l.circTx ++ [{ cid := cid, vc := f.vc, data := f.data, due := s.ft }] }
    | none => s

/-- One fc of a T-plane output (R155): the circuit flit due goes first, then the holder's next flit; a free output
arbitrates. -/
def State.outCycle (s : State) (t o : Nat) : State :=
  let s := s.expireSkid t
  let w := s.entry t o s.slotIndex
  let due := if seKind w = 1 ∧ s.ceased t o w = false then s.circDue t w else none
  match due with
  | some (f, s1) =>
    let s2 := (s1.transitRise t o w true).crossCirc t o (seCid w) f
    if ((s2.stop t).rt.outp o).holder.isNone then s2.arbitrate t o false else s2
  | none =>
    let r := (s.transitRise t o w false).sendHeld t o
    if ((r.1.stop t).rt.outp o).holder.isNone then r.1.arbitrate t o r.2 else r.1

/-! ## Going through buffers -/

/-- Whether a packet's tail is in the buffer. -/
def BufPkt.whole (p : BufPkt) : Bool := (p.got.getLast?.map (·.tail)).getD false

/-- Each packet of a buffer is gone through with `f`; one that goes returns its credits, and what is still to come of it is
discarded. -/
def State.sweepBuf (s : State) (t i : Nat) (f : State → BufPkt → State × Option BufPkt) : State :=
  let b := (s.stop t).rt.buf (i / 4) (i % 4)
  b.pkts.foldl (fun s p =>
    let r := f s p
    match r.2 with
    | some q => r.1.modRt t fun x => let b := x.buf (i / 4) (i % 4); x.setBuf (i / 4) (i % 4) { b with pkts := b.pkts ++ [q] }
    | none =>
      (r.1.modRt t fun x => let b := x.buf (i / 4) (i % 4); x.setBuf (i / 4) (i % 4) { b with disc := b.disc || !p.whole }).credits
        t (i / 4) (i % 4) (p.got.length - p.freed))
    (s.modRt t fun x => x.setBuf (i / 4) (i % 4) { b with pkts := [] })

/-- Every input buffer of a stop. -/
def State.sweep (s : State) (t : Nat) (f : Nat → State → BufPkt → State × Option BufPkt) : State :=
  (List.range 52).foldl (fun s i => s.sweepBuf t i (f (i / 4))) s

/-! ## Meanings -/

/-- T_FLIT_ARRIVE (R69). A flit with the circuit combination of R148 is a circuit flit. -/
def execTFlitArrive (t port : Nat) (f : Flit) (e : Ecc) (s : State) : Host.Outcome State Fault Refusal :=
  atPort t port s fun s => if f.head && f.kill && !f.tail then s.takeCirc t port f e else s.takeFlit t port f e

/-- CREDIT_RETURN (R70): one flit has left the downstream buffer of output `port`. -/
def execCreditReturn (t port vc : Nat) (s : State) : Host.Outcome State Fault Refusal :=
  atPort t port s fun s => (s.holdCredit t port).modRt t fun r => r.modOut port fun op => { op with used := op.used.set vc (Tab.get 0 op.used vc - 1) }

/-- CIRCUIT_FLIT_ARRIVE (R149). -/
def execCircuitFlitArrive (t port : Nat) (f : Flit) (e : Ecc) (s : State) : Host.Outcome State Fault Refusal :=
  atPort t port s fun s => s.takeCirc t port f e

end Sys2Proof.Machine
end

