-- ==== Sys2Proof/Machine/Messages.lean ====
section
/-! DEFINITION. The sending side of a stop interface: descriptors, completions and command records, issue of MSEQ values, TP
reads, packets from messages, circuits' queues and the injection port (R75 to R84, R89 to R94, R120, R150, R151, R511, R581
to R585, R601, R602). -/

namespace Sys2Proof.Machine

/-! ## Counters and completions -/

/-- What the SI latches when a command's descriptor reaches its entry point (R511). -/
def State.latch (s : State) (t : Nat) : CmdStart :=
  let p := (s.stop t).pb
  { tick := s.stamp, c0 := p.c0, c1 := p.c1, c2 := p.c2, c3 := p.c3, c4 := p.c4 }

/-- The differences of the counters over a command, modulo 2^32, with its end tick (R511). -/
def CmdStart.delta (a b : CmdStart) : CmdStart :=
  { tick := b.tick, c0 := b.c0 - a.c0, c1 := b.c1 - a.c1, c2 := b.c2 - a.c2, c3 := b.c3 - a.c3, c4 := b.c4 - a.c4 }

/-- The word C of a CMDREC record (R500). -/
def cmdrecC (st : CmdStart) (d : CmdStart) (code : Nat) : Nat :=
  st.tick.toNat * 2 ^ 32 + min 65535 d.c2.toNat * 65536 + min 255 d.c3.toNat * 256 + min 15 d.c4.toNat * 16 + code % 16

/-- A command's completion: its record of CMP, the command record and the CMDREC record (R511, R585, R263). -/
def State.cmpCmd (s : State) (t dkind code : Nat) (ctag : Word) (st : CmdStart) (data : BitVec 128) : State :=
  let d := st.delta (s.latch t)
  let r : CmdRec := { ctag := ctag, dkind := dkind, code := code, start := st, fin := d }
  ((s.emit (.cmp t dkind data)).modPb t fun p => { p with recs := (r :: p.recs).take 16 }).trace (unitId uSi (s.phys t)) 0x06 (some 3)
    ctag.toNat (d.c0.toNat * 2 ^ 32 + d.c1.toNat) (cmdrecC st d code) []

/-- The completion record of a transfer (R585). -/
def cmpData (ctag : Word) (resends code : Nat) : BitVec 128 :=
  ctag ++ (0 : BitVec 56) ++ BitVec.ofNat 8 (min 255 resends) ++ (0 : BitVec 28) ++ BitVec.ofNat 4 code

/-- A transfer descriptor completes (R585). -/
def State.cmpXfer (s : State) (t dkind code resends : Nat) (ctag : Word) (st : CmdStart) : State :=
  s.cmpCmd t dkind code ctag st (cmpData ctag resends code)

/-- The final bitmaps of one collector die (R134): its node, `B`, the retry and the fail bitmap. -/
def Mcast.dieBytes (c : Mcast) (m : Nat × Nat × Nat × Nat) : List Byte :=
  let b := m.2.1
  let w := 8 * b / 16
  let pos (t : Nat) : Nat := tileY t * w + tileX t
  let l := c.failed.filter fun f => f.1 == m.1
  let re := (l.filter fun f => f.2.2.2).foldl (fun a f => a ||| 2 ^ pos f.2.1) 0
  let fa := (l.filter fun f => !f.2.2.2).foldl (fun a f => a ||| 2 ^ pos f.2.1) 0
  bytesOf 2 m.1 ++ [BitVec.ofNat 8 b] ++ List.replicate 13 0 ++ bytesOf b re ++ bytesOf b fa

/-- Insertion of a bitmap entry by ascending node id. -/
def insertMap (m : Nat × Nat × Nat × Nat) : List (Nat × Nat × Nat × Nat) → List (Nat × Nat × Nat × Nat)
  | [] => [m]
  | x :: xs => if m.1 ≤ x.1 then m :: x :: xs else x :: insertMap m xs

/-- What a multicast writes at AUX before its completion (R134). -/
def Mcast.bitmaps (c : Mcast) : List Byte :=
  let l := c.maps.foldl (fun a m => insertMap m a) []
  bytesOf 2 l.length ++ List.replicate 14 0 ++ l.foldl (fun a m => a ++ c.dieBytes m) []

/-- The completion code of a multicast (R134): the lowest code among its failed targets, those of dies whose collector never answered
among them. -/
def Mcast.code (c : Mcast) : Nat :=
  match c.failed.map (·.2.2.1) ++ c.silent.toList with
  | [] => 0
  | x :: xs => xs.foldl min x

/-- The descriptor's message `m` completes with `code` and leaves the SI, its copies with it (R89, R134, R585). -/
def State.cmpDesc (s : State) (t : Nat) (m : Msg) (code : Nat) : State :=
  let s0 := match m.mc with
    | some c => if m.aux = 0 then s else s.emit (.tpWrite t m.aux c.bitmaps)
    | none => s
  s0.cmpXfer t m.dkind code m.resends m.hdr.ctag m.start

/-! ## Messages as packets -/

/-- Packets of a message (R81), or pieces of a contribution on the small path (R277). -/
def Msg.pcnt (m : Msg) : Nat := max 1 (ceilDiv m.len (if m.small then 32 else 2048))

/-- Payload bytes of packet `i` (R81). -/
def Msg.plen (m : Msg) (i : Nat) : Nat := min 2048 (m.len - 2048 * i)

/-- Packet `i` of a message (R71, R81). -/
def Msg.pkt (m : Msg) (i : Nat) : Pkt :=
  { hdr := { m.hdr with
      pcnt := BitVec.ofNat 13 m.pcnt, pidx := BitVec.ofNat 13 i, last := BitVec.ofBool (i + 1 = m.pcnt),
      plen := BitVec.ofNat 12 (m.plen i), addr := m.hdr.addr + BitVec.ofNat 48 (2048 * i), resend := BitVec.ofBool m.again }
    data := slice m.data (2048 * i) (m.plen i) }

/-- Whether the data of packet `i` is in hand (R602): what is to be read of it has come, and the rest is 0. -/
def Msg.inHand (m : Msg) (i : Nat) : Bool := decide (min m.fetch (2048 * i + m.plen i) ≤ m.data.length)

/-- The packet a message would send next, if it is ready (R602). -/
def Msg.next (m : Msg) : Option Nat :=
  if m.issued && m.backoff.isNone then
    match m.todo with
    | i :: _ => if m.inHand i then some i else none
    | [] => none
  else none

/-- A message whose next packet has just become ready notes when (R602). -/
def Msg.note (old : Msg) (ft : Nat) (m : Msg) : Msg :=
  if m.next.isSome && (old.next != m.next || old.again != m.again) then { m with readyAt := ft } else m

/-- The message of the SI's number `uid` is changed by `f`. -/
def State.modMsg (s : State) (t uid : Nat) (f : Msg → Msg) : State :=
  s.modMsgs t (fun m => m.uid == uid) fun m => Msg.note m s.ft (f m)

/-- The message of the SI's number `uid`. -/
def State.msg? (s : State) (t uid : Nat) : Option Msg := (s.stop t).si.msgs.find? (fun m => m.uid == uid)

/-- The message leaves the SI, with the copies and the circuit packets that are its own. -/
def State.dropMsg (s : State) (t uid : Nat) : State :=
  s.modSi t fun si => { si with
    msgs := si.msgs.filter (fun m => m.uid != uid && m.owner != .copyOf uid), circ := si.circ.filter (fun c => c.uid != uid) }

/-- The whole message is to be sent again, at once (R89, R90). A round of a multicast under R133, which still awaits collectors after a
backoff, is none of the resends that the sluice lets pass (R120). -/
def Msg.resendAll (m : Msg) : Msg :=
  { m with
    todo := List.range m.pcnt, again := true, exempt := m.mc.isNone || m.backoff.isNone, deadline := none, backoff := none
    resends := m.resends + 1 }

/-- A whole-message resend with its counters (R98, R511). -/
def State.resendMsg (s : State) (t uid : Nat) : State :=
  ((s.modMsg t uid Msg.resendAll).modSi t fun si => { si with resent := inc8 si.resent }).modPb t fun p => { p with c4 := p.c4 + 1 }

/-- A message joins the SI's list under the SI's next number. -/
def State.addMsg (s : State) (t : Nat) (m : Msg) : State :=
  s.modSi t fun si => { si with msgs := si.msgs ++ [{ m with uid := si.nextUid, readyAt := s.ft }], nextUid := si.nextUid + 1 }

/-- A message of the reduction counter (R206) with MSEQ `q`: it has its MSEQ at once, and R83 does not hold it. -/
def State.addRedAs (s : State) (t : Nat) (q : BitVec 16) (m : Msg) : State :=
  s.addMsg t { m with hdr := { m.hdr with mseq := q }, issued := true, todo := List.range m.pcnt }

/-- A new message of the reduction counter (R206): RED_UP, RED_DOWN or COLL_CTL. -/
def State.addRed (s : State) (t : Nat) (m : Msg) : State :=
  let q := (s.stop t).si.rseq
  (s.modSi t fun si => { si with rseq := q + 1 }).addRedAs t q m

/-! ## Pans of a tile -/

/-- The tile's pan is in DRAIN (R413). -/
def State.draining (s : State) (t : Nat) : Bool :=
  match s.tilePan t with
  | some p => s.img.switches.any fun w => w.draining && w.panset.contains p.id
  | none => false

/-! ## Circuits at the source -/

/-- The outputs and entries of the tile's stop that are circuit `cid`'s source entries in the active bank (R146, R584). -/
def State.srcEntries (s : State) (t cid : Nat) : List (Nat × Word) :=
  (portsOf s.build t).foldl (fun l o =>
    l ++ ((((s.stop t).rt.outp o).bank s.slotBank).entries.filter fun e =>
      seKind e.2 == 1 && seIn e.2 == 4 && seCid e.2 == cid).map fun e => (o, e.2)) []

/-- The source treats circuit `cid` as ceased (R151). -/
def State.circDead (s : State) (t cid : Nat) : Bool :=
  (s.stop t).si.circCeased.contains cid || (s.srcEntries t cid).all fun e => s.ceased t e.1 e.2

/-- A circuit has ceased for its source (R151): its messages go on as ordinary packets with ROUTE 0, and a packet that the
circuit has not carried whole is sent whole. -/
def State.ceaseCirc (s : State) (t cid : Nat) : State :=
  s.modSi t fun si => { si with
    circCeased := if si.circCeased.contains cid then si.circCeased else si.circCeased ++ [cid]
    circ := si.circ.filter fun c => c.cid != cid
    msgs := si.msgs.map fun m =>
      if m.circ == some cid then
        let back := (si.circ.filter fun c => c.uid == m.uid).map fun c => c.pkt.hdr.pidx.toNat
        { m with circ := none, hdr := { m.hdr with route := 0 }, todo := back ++ m.todo, readyAt := s.ft }
      else m }

/-- The packets of circuit messages that are ready go into their circuit's queue (R150), unless the circuit has ceased. -/
def State.feedCirc (s : State) (t : Nat) : State :=
  (s.stop t).si.msgs.foldl (fun s m =>
    match m.circ with
    | none => s
    | some cid =>
      if s.circDead t cid then s.ceaseCirc t cid
      else
        let ps := m.todo.takeWhile fun i => m.issued && m.backoff.isNone && m.inHand i
        let rest := m.todo.drop ps.length
        let add := ps.map fun i =>
          ({ cid := cid, uid := m.uid, pkt := m.pkt i, sent := 0, last := rest.isEmpty && some i == ps.getLast? } : CircPkt)
        (s.modSi t fun si => { si with circ := si.circ ++ add }).modMsg t m.uid fun m => { m with todo := rest }) s

/-! ## TP reads -/

/-- Bytes of TP reads outstanding (R581). -/
def Si.reading (si : Si) : Nat := (si.reads.map (·.len)).sum

/-- The lowest tag that no TP read outstanding uses. -/
def Si.freeTag (si : Si) : Option Nat := firstBelow (fun k => !si.reads.any fun r => r.tag == k) 16

/-- The next TP read leaves, if a message has bytes to ask for and the SI has room for them (R581). -/
def State.pumpOne (s : State) (t : Nat) : State :=
  let si := (s.stop t).si
  match si.msgs.find? (fun m => m.issued && decide (m.asked < m.fetch) && !s.shut (.tp t)), si.freeTag with
  | some m, some tag =>
    let n := min 2048 (m.fetch - m.asked)
    if si.reading + n ≤ 4096 then
      let addr := (m.src + m.asked) % 2 ^ 40
      ((s.modMsg t m.uid fun m => { m with asked := m.asked + n }).modSi t fun si => { si with
        reads := si.reads ++ [{ tag := tag, uid := m.uid, addr := addr, len := n, got := [], done := false }] }).emit (.tpRead t addr n tag)
    else s
  | _, _ => s

/-- TP reads leave while there is room for them: at most sixteen are outstanding. -/
def State.pump (s : State) (t : Nat) : State := (List.range 16).foldl (fun s _ => s.pumpOne t) s

/-! ## Issue -/

/-- The SI's next MSEQ is free: not issued less than 2 ms ago (R82). -/
def Si.mseqFree (si : Si) (ft : Nat) : Bool :=
  !si.issuedAt.any fun e => e.1 == si.mseq.toNat && decide (ft < e.2 + 2 * msFc)

/-- The next waiting message is issued, if it may be (R82, R413): a descriptor's message waits while its pan drains. -/
def State.issueOne (s : State) (t : Nat) : State :=
  let si := (s.stop t).si
  match si.msgs.find? (fun m => !m.issued && m.hdr.type != 0 && !(m.owner == .desc && s.draining t)) with
  | none => s
  | some m =>
    if si.mseqFree s.ft then
      let dead := match m.circ with | some c => s.circDead t c | none => false
      (s.modSi t fun si => { si with
        mseq := si.mseq + 1
        issuedAt := (si.mseq.toNat, s.ft) :: si.issuedAt.filter fun e => decide (s.ft < e.2 + 2 * msFc) }).modMsg t m.uid fun m =>
        { m with
          issued := true, todo := List.range m.pcnt, circ := if dead then none else m.circ
          hdr := { m.hdr with mseq := si.mseq, route := if dead then 0 else m.hdr.route } }
    else s

/-- Every message that may be issued is, with its TP reads and its circuit packets. -/
def State.issue (s : State) (t : Nat) : State :=
  (((List.range 64).foldl (fun s _ => s.issueOne t) s).pump t).feedCirc t

/-- MESSAGE_ISSUE (R82, R83). -/
def execMessageIssue (t : Nat) (s : State) : Host.Outcome State Fault Refusal := atTile t s fun s => s.issue t

/-! ## The injection port -/

/-- What the injection port may start: a packet without a message of its own, or the next packet of a message. -/
inductive Cand where
  | inj (k : Nat)
  | msg (uid i : Nat)
  deriving DecidableEq, Repr

/-- A candidate with the order of R602: when it became ready, its VC, and its place among descriptors and answers. -/
structure CandAt where
  readyAt : Nat
  vc : Nat
  place : Nat
  cand : Cand
  pkt : Pkt
  governed : Bool
  deriving DecidableEq, Repr

/-- Whether the sluice governs a message's packets (R120): those of VC0 and MCAST messages and of a multicast's copies, but for a
resend under R89 or R90. -/
def Msg.governed (m : Msg) : Bool :=
  (match m.owner with | .desc | .member _ | .copyOf _ => true | _ => false) && !m.exempt && (m.hdr.vc == 0 || m.hdr.type == tMcast)

/-- A message's place among descriptors and answers (R602): a copy has that of its multicast. -/
def Msg.place (m : Msg) : Nat := match m.owner with | .copyOf p => p | _ => m.uid

/-- Packets whose data is in hand at the SI of tile `t`; a 65th message waits (R83). -/
def State.ready602 (s : State) (t : Nat) : List CandAt :=
  let si := (s.stop t).si
  (si.inj.mapIdx fun k x =>
    { readyAt := x.readyAt, vc := x.pkt.hdr.vc.toNat, place := x.place, cand := .inj k, pkt := x.pkt, governed := x.governed }) ++
  si.msgs.filterMap fun m =>
    match m.circ, m.next with
    | none, some i =>
      if m.small || !si.mayFly m then none
      else some { readyAt := m.readyAt, vc := m.hdr.vc.toNat, place := m.place, cand := .msg m.uid i, pkt := m.pkt i, governed := m.governed }
    | _, _ => none

/-- Whether a multicast's first packet may leave: a root collector has a record for it or can open one (R131). -/
def State.rootReady (s : State) (t : Nat) (h : THdr) : Bool :=
  h.dmode == 0 || h.pidx != 0 || (s.openRecord t h).isSome

/-- Whether a packet is a contribution to the own tile, which passes to the CU without the router (R199). -/
def State.toOwnCu (s : State) (t : Nat) (h : THdr) : Bool :=
  h.type == tRedUp && h.dmode == 0 && h.dnode.toNat == s.node && h.dtile.toNat == t

/-- Eligibility (R602); a held row takes no new packet (R16). -/
def State.eligible (s : State) (t : Nat) (c : CandAt) : Bool :=
  !s.rowHeld t && (s.toOwnCu t c.pkt.hdr ||
    decide (flitsOf s.build c.pkt.data.length + ((s.stop t).rt.buf 4 c.vc).load ≤ maxFlits s.build)) &&
  (!c.governed || decide ((s.stop t).sl.balance > 0)) && s.rootReady t c.pkt.hdr

/-- The earlier of two candidates (R602). -/
def CandAt.before (a b : CandAt) : Bool :=
  decide (a.readyAt < b.readyAt) || (a.readyAt == b.readyAt && (decide (a.vc < b.vc) || (a.vc == b.vc && decide (a.place < b.place))))

/-- The first candidate in the order of R602. -/
def firstCand : List CandAt → Option CandAt
  | [] => none
  | c :: cs =>
    match firstCand cs with
    | none => some c
    | some d => if d.before c then some d else some c

/-- The packet's message goes on to its next packet, which is ready at once; the tail of its last one, which leaves at `tail`,
starts the answer timer (R90). -/
def Msg.started (m : Msg) (ft tail : Nat) : Msg :=
  let rest := m.todo.drop 1
  { m with todo := rest, flown := true, readyAt := ft, deadline := if rest.isEmpty then some (tail + 100 * usFc) else m.deadline }

/-- A packet of the message that is sent again alone restarts its answer timer, where that runs, as its tail leaves at `tail` (R90). -/
def Msg.restarted (m : Msg) (tail : Nat) : Msg := { m with deadline := m.deadline.map fun _ => tail + 100 * usFc }

/-- A candidate starts into the router's SI input (R602), or passes to the own CU. -/
def State.startCand (s : State) (t : Nat) (c : CandAt) : State :=
  let r := s.stampHdr c.pkt.hdr
  let p : Pkt := { hdr := r.2, data := c.pkt.data }
  let n := flitsOf s.build p.data.length
  let s0 := if p.hdr.dmode ≠ 0 ∧ p.hdr.pidx = 0 then (r.1.openRecord t p.hdr).getD r.1 else r.1
  let s1 := match c.cand with
    | .inj k =>
      let one := ((s0.stop t).si.inj[k]?).bind (·.uid)
      (s0.modMsgs t (fun m => some m.uid == one) fun m => m.restarted (s.ft + n - 1)).modSi t fun si => { si with inj := si.inj.eraseIdx k }
    | .msg uid _ => s0.modMsgs t (fun m => m.uid == uid) fun m => m.started s.ft (s.ft + n - 1)
  let s2 := match c.cand with
    | .msg uid _ => (match s0.msg? t uid with
      | some m => (match m.owner with
        | .relay _ => if p.hdr.pidx = 0 ∧ p.hdr.dmode ≠ 0 then s1.targetAnswer t p.hdr t 0 else s1
        | _ => s1)
      | none => s1)
    | .inj _ => s1
  let s3 := if c.governed then s2.modSl t fun sl => { sl with balance := sl.balance - n } else s2
  let s4 := (s3.injected t n).watchT t p.hdr
  if s4.toOwnCu t p.hdr then (s4.emit (.cuPkt t p)).modStop t fun st => { st with cu := { st.cu with waitO := st.cu.waitO ++ [p] } }
  else (pktFlits s.build p).foldl (fun s f => s.takeFlit t 4 f .ok) (s4.modSi t fun si => { si with injAt := s.ft + n })

/-- One fc of the injection port (R602): where no packet is crossing, the first eligible one starts; C2 counts the fc in which a governed packet waits
(R511). -/
def State.injectCycle (s : State) (t : Nat) : State :=
  let s := (s.issue t)
  let l := s.ready602 t
  let ok := l.filter (s.eligible t)
  let s1 := if l.any fun c => c.governed && !s.eligible t c then s.modPb t fun b => { b with c2 := b.c2 + 1 } else s
  match decide ((s.stop t).si.injAt ≤ s.ft), firstCand ok with
  | true, some c => s1.startCand t c
  | _, _ => s1

/-! ## Descriptors -/

end Sys2Proof.Machine

namespace Sys2Proof

/-- Fields of a transfer descriptor (R583). -/
def Desc.kind (d : Desc) : Nat := (d.w0.extractLsb' 60 4).toNat
def Desc.route (d : Desc) : BitVec 2 := d.w0.extractLsb' 58 2
def Desc.prio (d : Desc) : BitVec 3 := d.w0.extractLsb' 55 3
def Desc.circ (d : Desc) : Bool := d.w0.getLsbD 54
def Desc.cid (d : Desc) : Nat := (d.w0.extractLsb' 42 12).toNat
def Desc.drank (d : Desc) : Nat := (d.w0.extractLsb' 22 20).toNat
def Desc.ctag (d : Desc) : Word := d.w1.extractLsb' 32 32
def Desc.qepoch (d : Desc) : BitVec 8 := d.w1.extractLsb' 24 8
def Desc.len (d : Desc) : Nat := (d.w1.extractLsb' 0 24).toNat
def Desc.src (d : Desc) : Nat := (d.w2.extractLsb' 0 40).toNat
def Desc.daddr (d : Desc) : BitVec 48 := d.w3.extractLsb' 0 48
def Desc.aux (d : Desc) : Nat := (d.w4.extractLsb' 0 40).toNat
def Desc.dmode (d : Desc) : BitVec 2 := d.w5.extractLsb' 62 2
def Desc.mset (d : Desc) : BitVec 36 := d.w5.extractLsb' 0 36

/-- The reserved bits of a descriptor are 0 (R583, R584). -/
def Desc.reservedOk (d : Desc) : Bool :=
  d.w0.extractLsb' 0 22 == 0 && d.w2.extractLsb' 40 24 == 0 && d.w3.extractLsb' 48 16 == 0 && d.w4.extractLsb' 40 24 == 0 &&
  d.w5.extractLsb' 36 26 == 0 && d.w6 == 0 && d.w7 == 0

/-- The fields that a kind leaves unused are 0 (R583, R584). -/
def Desc.unusedOk (d : Desc) : Bool :=
  match d.kind with
  | 1 => d.qepoch == 0 && d.aux == 0 && d.w5 == 0
  | 2 => d.drank == 0 && d.qepoch == 0 && d.aux == 0 && d.w5 == 0
  | 4 => !d.circ && d.cid == 0 && d.drank == 0 && d.qepoch == 0 && d.src == 0 && d.w5 == 0
  | 5 => !d.circ && d.cid == 0 && d.aux == 0 && d.w5 == 0
  | 6 => !d.circ && d.cid == 0 && d.drank == 0 && d.qepoch == 0
  | _ => false

/-- Length limits (R84, R583). -/
def Desc.lenOk (d : Desc) : Bool := decide (1 ≤ d.len ∧ d.len ≤ if d.kind = 5 then 2048 else 8388608)

end Sys2Proof

namespace Sys2Proof.Machine

/-- A circuit is named only by PUT and MWRITE, and has a source entry at the tile's stop (R584). -/
def State.circOk (s : State) (t : Nat) (d : Desc) : Bool := !d.circ || !(s.srcEntries t d.cid).isEmpty

/-- The pan's default route mode stands for ROUTE 3 (R102, R583). -/
def descRoute (d : Desc) (p : PanRec) : BitVec 2 := if d.route = 3 then BitVec.ofNat 2 p.route else d.route

/-- The 64 bytes of a descriptor. -/
def descBytes (d : Desc) : List Byte :=
  bytesOf 8 d.w0.toNat ++ bytesOf 8 d.w1.toNat ++ bytesOf 8 d.w2.toNat ++ bytesOf 8 d.w3.toNat ++ bytesOf 8 d.w4.toNat ++
  bytesOf 8 d.w5.toNat ++ bytesOf 8 d.w6.toNat ++ bytesOf 8 d.w7.toNat

/-- The refusals that every kind shares (R584): the fenced client, then what breaks the bounds. -/
def State.descCode (s : State) (t : Nat) (d : Desc) : Nat :=
  if (s.stop t).ro.clientFenced then nFenced
  else if (s.tilePan t).isNone || !d.reservedOk || !d.unusedOk || !d.lenOk || !s.circOk t d then nBounds
  else 0

/-- The header fields that every descriptor's packets share (R80, R583). -/
def State.descHdr (s : State) (t : Nat) (d : Desc) (p : PanRec) (type : BitVec 4) (vc : BitVec 2) : THdr :=
  { (default : THdr) with
    prio := d.prio, route := descRoute d p, stile := BitVec.ofNat 9 t, snode := BitVec.ofNat 12 s.node, pan := BitVec.ofNat 8 p.id,
    type := type, vc := vc, srank := BitVec.ofNat 20 (p.rankOf s.node t), addr := d.daddr, ctag := d.ctag }

/-- The message of a descriptor with header `h` (R583). -/
def State.descMsg (s : State) (t : Nat) (d : Desc) (h : THdr) (len fetch : Nat) (mc : Option Mcast) : Msg :=
  { (default : Msg) with
    start := s.latch t, hdr := h, owner := .desc, dkind := d.kind, len := len, src := d.src, fetch := fetch, aux := d.aux,
    circ := if d.circ then some d.cid else none, mc := mc }

/-- A refused descriptor completes at once (R584). -/
def State.refuseDesc (s : State) (t : Nat) (d : Desc) (code : Nat) : State := s.cmpXfer t d.kind code 0 d.ctag (s.latch t)

/-- An accepted descriptor's message waits its turn, and is issued at once where it may be (R82, R83). -/
def State.sendDesc (s : State) (t : Nat) (m : Msg) : State := (s.addMsg t m).issue t

/-- A message of the SI waits for its MSEQ or for room among the 64 in flight, and with it the CMD port (R82, R83). -/
def Si.stalls (si : Si) : Bool :=
  si.msgs.any fun m => m.owner.flight && m.hdr.type != 0 && (!m.issued || !si.mayFly m)

/-- The stop takes the next descriptor of its CMD port (R82, R83, R238, R413): none waits before it, no message and no collective that
has been accepted waits, and the tile's pan is not in DRAIN. -/
def State.cmdReady (s : State) (t : Nat) : Bool :=
  let st := s.stop t
  st.cmdq.isEmpty && !st.si.stalls && st.co.waiting.isEmpty && !s.draining t

/-- A descriptor comes to the CMD port of tile `t`, whose crossing holds eight (R31); the SI performs it by `f`. -/
def cmdAct (t : Nat) (d : Desc) (s : State) (f : State → State) : Host.Outcome State Fault Refusal :=
  portAct t (.cmd t) (fun st => st.cmdq) (fun st q => { st with cmdq := q }) 8 (s.cmdReady t) d s f

/-- A descriptor of kind `k` that the SI of tile `t` takes: the shared checks come first, and `f` answers a message or a refusal's
code. -/
def State.takeDesc (s : State) (t : Nat) (d : Desc) (f : State → PanRec → Nat ⊕ Msg) : State :=
  let s := s.mirror (mirTile t) (unitId uSi (s.phys t)) 1 (descBytes d)
  match s.descCode t d, s.tilePan t with
  | 0, some p => (match f s p with | .inl c => s.refuseDesc t d c | .inr m => s.sendDesc t m)
  | c, _ => s.refuseDesc t d c

/-- A descriptor of kind `k` at the CMD port of tile `t`, and one of a reserved kind, which is refused; a descriptor of another kind is
another command's. -/
def descForm (t k : Nat) (d : Desc) (s : State) (f : State → State) : Host.Outcome State Fault Refusal :=
  if d.kind ≠ k ∧ 1 ≤ d.kind ∧ d.kind ≤ 6 then .next s else cmdAct t d s f

/-- A PUT descriptor (R583): a PUT to a rank's receive space. -/
def State.dscPut (s : State) (t : Nat) (d : Desc) : State :=
  s.takeDesc t d fun s p =>
    match p.rank d.drank with
    | some (n, u) =>
      if d.daddr.extractLsb' 40 8 ≠ 0 then .inl nBounds
      else .inr (s.descMsg t d { s.descHdr t d p tPut 0 with
        dnode := BitVec.ofNat 12 n, dtile := BitVec.ofNat 9 u, drank := BitVec.ofNat 20 d.drank } d.len d.len none)
    | none => .inl nBounds

/-- DSC_PUT (R583). -/
def execDscPut (t : Nat) (d : Desc) (s : State) : Host.Outcome State Fault Refusal := descForm t 1 d s fun s => s.dscPut t d

/-- A queue-window address of a ring queue with bits 25:0 clear (R77). -/
def ringAddrOk (a : BitVec 48) : Bool := a.extractLsb' 44 4 == 2 && decide ((a.extractLsb' 26 5).toNat ≥ 16) && a.extractLsb' 0 26 == 0

/-- A RINGMSG descriptor (R583): one RINGMSG to a ring queue. -/
def State.dscRingmsg (s : State) (t : Nat) (d : Desc) : State :=
  s.takeDesc t d fun s p =>
    match p.rank d.drank with
    | some (n, u) =>
      if !ringAddrOk d.daddr then .inl nBounds
      else .inr (s.descMsg t d { s.descHdr t d p tRing 0 with
        dnode := BitVec.ofNat 12 n, dtile := BitVec.ofNat 9 u, drank := BitVec.ofNat 20 d.drank, qepoch := d.qepoch } d.len d.len none)
    | none => .inl nBounds

/-- DSC_RINGMSG (R583). -/
def execDscRingmsg (t : Nat) (d : Desc) (s : State) : Host.Outcome State Fault Refusal := descForm t 5 d s fun s => s.dscRingmsg t d

/-- The account of a multicast that `n` collectors answer. -/
def Mcast.start (n : Nat) : Mcast := { collecting := true, need := n, got := [], noRecord := [], silent := none, maps := [], failed := [] }

/-- Whether a rectangle lies within a pan's (R124). -/
def rectInPan (w : Word64) (p : PanRec) : Bool :=
  let r := rectOf w
  decide (r.1 ≤ r.2.2.1 ∧ r.2.1 ≤ r.2.2.2 ∧ p.x0 ≤ r.1 ∧ r.2.2.1 ≤ p.x1 ∧ p.y0 ≤ r.2.1 ∧ r.2.2.2 ≤ p.y1)

/-- Collectors that a multicast from tile `t` awaits, if its set is one that may be sent from there (R124, R125). -/
def State.mcastNeed (s : State) (t : Nat) (p : PanRec) (dmode : BitVec 2) (w : Word64) : Option Nat :=
  if dmode = 1 then (if rectInPan w p && !(s.rectTargets w t).isEmpty then some 1 else none)
  else if dmode = 2 then
    let e := s.treeEntry t (treeOf w)
    if trValid e && trRoot e then some (trNodes e) else none
  else none

/-- Bits of MSET that a mode leaves unused (R74). -/
def msetOk (dmode : BitVec 2) (w : BitVec 36) : Bool := dmode != 2 || w.extractLsb' 8 28 == 0

/-- An MCAST descriptor (R583): a multicast by rectangle or tree. Its root collector's record opens as its first packet leaves (R131). -/
def State.dscMcast (s : State) (t : Nat) (d : Desc) : State :=
  s.takeDesc t d fun s p =>
    let w : Word64 := d.mset.setWidth 64
    match s.mcastNeed t p d.dmode w with
    | some n =>
      if d.daddr.extractLsb' 40 8 ≠ 0 || !msetOk d.dmode d.mset then .inl nBounds
      else .inr (s.descMsg t d { s.descHdr t d p tMcast 3 with
        route := 0, dmode := d.dmode, dnode := BitVec.ofNat 12 s.node, w6 := w } d.len d.len (some (Mcast.start n)))
    | none => .inl nBounds

/-- DSC_MCAST (R583). -/
def execDscMcast (t : Nat) (d : Desc) (s : State) : Host.Outcome State Fault Refusal := descForm t 6 d s fun s => s.dscMcast t d

end Sys2Proof.Machine
end

