-- ==== Sys2Proof/Machine/Receive.lean ====
section
/-! DEFINITION. The receiving side of a stop interface: end-to-end windows (R380), packets left behind by a pan switch (R415),
the pan check (R407), count fields (R84), assemblies and completed keys (R85 to R88), delivery of PUT, MRESP and MCAST, and
the sluice's evaluation (R121 to R123). -/

namespace Sys2Proof.Machine

/-! ## Checks -/

/-- The window of a node's source at an SI, and the others, least recently used first. -/
def splitWin (node : Nat) (l : List E2eWin) : Option E2eWin × List E2eWin :=
  (l.find? (fun w => w.node == node), l.filter fun w => w.node != node)

/-- The end-to-end window takes a packet with E2E = 1 or discards a duplicate (R380). A sequence is above the top when it is
less than 2^23 ahead of it, modulo 2^24 (DEDUCED, log entry 31). -/
def Si.e2eTake (si : Si) (h : THdr) : Si × Bool :=
  let q := h.e2eseq.toNat
  match splitWin h.snode.toNat si.e2eWins with
  | (none, ws) => ({ si with e2eWins := (if ws.length ≥ 16 then ws.drop 1 else ws) ++ [{ node := h.snode.toNat, top := q, seen := [q] }] }, true)
  | (some w, ws) =>
    let back := (w.top + 2 ^ 24 - q) % 2 ^ 24
    let ahead := (q + 2 ^ 24 - w.top) % 2 ^ 24
    if back < 1024 then
      if w.seen.contains q then ({ si with e2eWins := ws ++ [w], e2eDup := inc8 si.e2eDup }, false)
      else ({ si with e2eWins := ws ++ [{ w with seen := w.seen ++ [q] }] }, true)
    else if ahead < 2 ^ 23 then
      ({ si with e2eWins := ws ++ [{ w with top := q, seen := (w.seen.filter fun x => (q + 2 ^ 24 - x) % 2 ^ 24 < 1024) ++ [q] }] }, true)
    else ({ si with e2eWins := ws ++ [w], e2eUnchk := inc8 si.e2eUnchk }, true)

/-- What a packet at the SI of tile `t` goes through before all else: an SI that reads an invalid header drops the packet (R73), and the
end-to-end window a duplicate (R380). -/
def State.e2eOk (s : State) (t : Nat) (h : THdr) : State × Bool :=
  if !s.hdrOk h then (s.raiseAt t uSi 0x0303 0 h.mseq.toNat, false)
  else if h.e2e = 1 then
    let r := (s.stop t).si.e2eTake h
    (s.modSi t fun _ => r.1, r.2)
  else (s, true)

/-- A packet of a pan whose last commit tick lies between its stamp and now (R415). -/
def State.isLate (s : State) (h : THdr) : Bool :=
  match Tab.get? s.pans.tc h.pan.toNat with
  | some tc => decide (extendStamp s.now h.tstamp < (tc : Int) ∧ tc ≤ s.now)
  | none => false

/-- A late packet is discarded, counted, and answered PAN where it is the LAST of a VC0 message (R415). -/
def State.dropLate (s : State) (t : Nat) (h : THdr) : State :=
  let s1 := { s with pans := { s.pans with late := s.pans.late.set h.pan.toNat (inc8 (Tab.get 0 s.pans.late h.pan.toNat)) } }
  if h.vc = 0 ∧ h.last = 1 then s1.nack t h nPan else s1

/-- A packet is answered as its type's answers travel: to the collector of the die, or to its sender (R130, R133). -/
def State.respond (s : State) (t : Nat) (h : THdr) (code : Nat) : State := s.answerMcast t h code

/-- A foreign delivery is refused at tile `t` (R407): counted under the tile's pan, reported by unit type `ty`, and answered PAN
once per message, on its LAST packet. -/
def State.foreign (s : State) (t ty : Nat) (h : THdr) (answer : Bool) : State :=
  let own := ((s.tilePan t).map (·.id)).getD h.pan.toNat
  let s1 := { s with pans := { s.pans with foreign := s.pans.foreign.set own (inc8 (Tab.get 0 s.pans.foreign own)) } }
  let s2 := s1.raiseAt t ty 0x030A 0 h.mseq.toNat
  if answer && h.last == 1 then s2.respond t h nPan else s2

/-- The packet's pan is the tile's (R407, first row). -/
def State.panOk (s : State) (t : Nat) (h : THdr) : Bool :=
  match s.tilePan t with
  | some p => h.pan.toNat == p.id
  | none => false

/-- The count fields of a packet agree with R81 and R84. -/
def countOk (h : THdr) : Bool :=
  let n := h.pcnt.toNat
  let i := h.pidx.toNat
  let l := h.plen.toNat
  decide (1 ≤ n ∧ n ≤ 4096 ∧ i < n) && (h.last == BitVec.ofBool (i + 1 = n)) &&
  (if h.type = tMread then n == 1 && l == 0
   else if h.type = tCtl then n == 1 && l == 16
   else if h.type = tRing then n == 1 && decide (1 ≤ l ∧ l ≤ 2048)
   else if h.last = 1 then decide (1 ≤ l ∧ l ≤ 2048) else l == 2048)

/-- The receive space holds the packet's bytes (R78). -/
def State.inSpace (s : State) (t : Nat) (h : THdr) : Bool :=
  h.addr.extractLsb' 40 8 == 0 && decide (h.addr.toNat + h.plen.toNat ≤ (s.stop t).si.rxlim)

/-! ## Assemblies -/

/-- Reorder slots occupied (R85, R97). -/
def Si.robUsed (si : Si) : Nat := (si.asms.map fun a => a.held.length).sum

/-- The record of a key that is not a millisecond old (R88). -/
def Si.keyState (si : Si) (k : Key) (ft : Nat) : Option Bool :=
  (si.keys.find? (fun d => d.key == k && decide (ft < d.expires))).map (·.complete)

/-- A key is recorded as completed or INCOMPLETE, newest first, 1,024 in all, and its assembly ends (R87, R88). -/
def Si.closeKey (si : Si) (k : Key) (complete : Bool) (ft : Nat) : Si :=
  { si with
    asms := si.asms.filter fun a => a.key != k
    keys := ({ key := k, complete := complete, expires := ft + msFc } :: si.keys.filter fun d => d.key != k).take 1024 }

/-- A message fails at the receiver as a whole (R84, R129): its key is INCOMPLETE. -/
def State.failKey (s : State) (t : Nat) (h : THdr) : State := s.modSi t fun si => si.closeKey (keyOf h) false s.ft

/-- A message is marked INCOMPLETE at this target (R87, R129): STOP_RXSTAT counts it (R97). -/
def State.failTarget (s : State) (t : Nat) (h : THdr) : State :=
  (s.failKey t h).modSi t fun si => { si with incomplete := inc8 si.incomplete }

/-- A packet that finds no slot or no assembly (R85): NACK NOTREADY for the packet; a target of a multicast fails the whole
message (R129); an MRESP is not answered (DEDUCED, log entry 32). -/
def State.noRoom (s : State) (t : Nat) (h : THdr) : State :=
  if h.type = tMresp then s
  else if h.dmode ≠ 0 then (s.failTarget t h).respond t h nNotReady
  else s.nackPkt t h nNotReady

/-- The packets in sequence from `n` on that an assembly holds, and those that stay held. -/
def takeRun : Nat → Nat → List Pkt → List Pkt × List Pkt
  | 0, _, held => ([], held)
  | f + 1, n, held =>
    match held.find? (fun p => p.hdr.pidx.toNat == n) with
    | none => ([], held)
    | some p =>
      let r := takeRun f (n + 1) (held.filter fun q => q.hdr.pidx.toNat != n)
      (p :: r.1, r.2)

/-- A packet enters its assembly (R85 to R88): the packets now delivered in `PIDX` order, and the assembly where the message
is complete with them. The later packets of a multicast that has failed here (R129) go unanswered and do not count in EJDROP, which counts
copies that an ejection or a relay could not take (DESIGN CHOICE, log entry 1147). -/
def State.assemble (s : State) (t : Nat) (p : Pkt) : State × List Pkt × Option Assembly :=
  let h := p.hdr
  let k := keyOf h
  let si := (s.stop t).si
  match si.keyState k s.ft with
  | some true => (if h.last = 1 ∧ h.resend = 1 ∧ h.type ≠ tMresp then s.respond t h 0 else s, [], none)
  | old =>
    if old = some false ∧ h.resend = 0 then (s, [], none)
    else
      let s0 := s.modSi t fun si => { si with keys := si.keys.filter fun d => d.key != k }
      match si.asms.find? (fun a => a.key == k) with
      | none =>
        if si.asms.length ≥ 32 then (s.noRoom t h, [], none)
        else
          let a : Assembly := { key := k, hdr := h, seen := [h.pidx.toNat], next := 0, held := [], deadline := s.ft + 50 * usFc, bytes := 0 }
          if h.pidx = 0 then
            let a1 := { a with next := 1, bytes := h.plen.toNat }
            if h.pcnt = 1 then (s0.modSi t fun si => si.closeKey k true s.ft, [p], some a1)
            else (s0.modSi t fun si => { si with asms := si.asms ++ [a1] }, [p], none)
          else if si.robUsed ≥ 16 then
            ((s0.modSi t fun si => { si with asms := si.asms ++ [{ a with seen := [] }] }).noRoom t h, [], none)
          else (s0.modSi t fun si => { si with asms := si.asms ++ [{ a with held := [p] }] }, [], none)
      | some a =>
        if a.seen.contains h.pidx.toNat then (s, [], none)
        else if h.pidx.toNat = a.next then
          let r := takeRun 16 (a.next + 1) a.held
          let out := p :: r.1
          let a1 := { a with
            seen := a.seen ++ [h.pidx.toNat], next := a.next + out.length, held := r.2
            bytes := a.bytes + (out.map fun q => q.hdr.plen.toNat).sum }
          if a1.next ≥ h.pcnt.toNat then (s.modSi t fun si => si.closeKey k true s.ft, out, some a1)
          else (s.modSi t fun si => { si with asms := si.asms.map fun x => if x.key == k then a1 else x }, out, none)
        else if si.robUsed ≥ 16 then (s.noRoom t h, [], none)
        else
          (s.modSi t fun si => { si with asms := si.asms.map fun x =>
              if x.key == k then { x with seen := x.seen ++ [h.pidx.toNat], held := x.held ++ [p] } else x }, [], none)

/-- Whether a target of a multicast has answered for the message of a packet (R130): its key is INCOMPLETE, and the packet is no
resend's, or not the last of one. -/
def State.answeredFor (s : State) (t : Nat) (h : THdr) : Bool :=
  h.dmode != 0 && (s.stop t).si.keyState (keyOf h) s.ft == some false && !(h.resend == 1 && h.last == 1)

/-- A packet that breaks its bounds fails its message (R84): BOUNDS, counted, and the key INCOMPLETE. A target of a multicast answers
once for the message (R130). -/
def State.boundsFail (s : State) (t : Nat) (h : THdr) : State :=
  let s1 := (s.failKey t h).modSi t fun si => { si with bounds := inc8 si.bounds }
  if s.answeredFor t h then s1 else s1.respond t h nBounds

/-- Flits ejected to the client are counted (R511). -/
def State.countC1 (s : State) (t : Nat) (p : Pkt) : State :=
  s.modPb t fun b => { b with c1 := b.c1 + BitVec.ofNat 32 (flitsOf s.build p.hdr.plen.toNat) }

/-- Packets go to client memory through the TP write channel, in order (R86, R581). -/
def State.tpDeliver (s : State) (t : Nat) (ps : List Pkt) : State :=
  ps.foldl (fun s p => (s.countC1 t p).emit (.tpWrite t (p.hdr.addr.extractLsb' 0 40).toNat (slice p.data 0 p.hdr.plen.toNat))) s

/-- A receive notice (R585). -/
def State.notice (s : State) (t : Nat) (h : THdr) (len addr : Nat) : State :=
  s.emit (.cmp t 0xE (h.ctag ++ h.srank ++ BitVec.ofNat 24 len ++ (0 : BitVec 12) ++ BitVec.ofNat 40 addr))

/-- The address of a message's first byte from a packet of it (R81). -/
def msgAddr (h : THdr) : Nat := h.addr.toNat - 2048 * h.pidx.toNat

/-- A PUT or MCAST packet that has passed its checks is assembled, delivered and answered, with a notice when its message is
complete (R78, R85, R86). -/
def State.takePut (s : State) (t : Nat) (p : Pkt) : State :=
  if !countOk p.hdr || !s.inSpace t p.hdr then s.boundsFail t p.hdr
  else
    let r := s.assemble t p
    let s1 := r.1.tpDeliver t r.2.1
    match r.2.2 with
    | some a => (s1.respond t p.hdr 0).notice t a.hdr a.bytes (msgAddr a.hdr)
    | none => s1

/-- What every delivery to the SI of a tile goes through first (R380, R415, R407, R112): duplicates and late packets end here,
then foreign ones, then those for a fenced client. -/
def State.deliverable (s : State) (t : Nat) (p : Pkt) (f : State → State) : State :=
  let r := s.e2eOk t p.hdr
  if !r.2 then r.1
  else if r.1.isLate p.hdr then r.1.dropLate t p.hdr
  else if !r.1.panOk t p.hdr then r.1.foreign t uSi p.hdr true
  else if (s.stop t).ro.clientFenced then
    (if p.hdr.dmode = 0 then r.1.fencedAnswer t p.hdr else if p.hdr.last = 1 then r.1.respond t p.hdr nFenced else r.1)
  else f r.1

/-- PUT_ARRIVE (R85); a circuit's packet leaves the ejection buffer (R150). -/
def execPutArrive (t : Nat) (p : Pkt) (s : State) : Host.Outcome State Fault Refusal :=
  atTile t s fun s => if p.hdr.type = tPut then (s.circTake t p).deliverable t p fun s => s.takePut t p else s

/-- The MREAD in flight that an MRESP answers (R407): its MSEQ and its pan. -/
def Msg.reads (m : Msg) (h : THdr) : Bool := m.issued && m.hdr.type == tMread && m.hdr.mseq == h.mseq && m.hdr.pan == h.pan

/-- An MRESP packet lies within the buffer that its MREAD named (R84). -/
def respInBuf (m : Msg) (h : THdr) : Bool :=
  let a := (m.hdr.w6.extractLsb' 0 40).toNat
  let n := (m.hdr.w6.extractLsb' 40 24).toNat
  decide (a ≤ h.addr.toNat ∧ h.addr.toNat + h.plen.toNat ≤ a + n)

/-- MRESP_ARRIVE (R86): the data goes to the client, and the MREAD descriptor completes with the last of it. -/
def execMrespArrive (t : Nat) (p : Pkt) (s : State) : Host.Outcome State Fault Refusal :=
  atTile t s fun s =>
    if p.hdr.type = tMresp then
      let r := s.e2eOk t p.hdr
      if !r.2 then r.1
      else if r.1.isLate p.hdr then r.1.dropLate t p.hdr
      else if (s.stop t).ro.clientFenced then r.1
      else
        match (r.1.stop t).si.msgs.find? (fun m => m.reads p.hdr) with
        | none => r.1
        | some m =>
          if !countOk p.hdr || !respInBuf m p.hdr then
            (r.1.failKey t p.hdr).modSi t fun si => { si with bounds := inc8 si.bounds }
          else
            let a := r.1.assemble t p
            let s1 := a.1.tpDeliver t a.2.1
            match a.2.2 with
            | some _ => (s1.cmpDesc t m 0).dropMsg t m.uid
            | none => s1
    else s

/-- ASSEMBLY_TIMEOUT (R87). -/
def execAssemblyTimeout (t snode stile vc mseq : Nat) (s : State) : Host.Outcome State Fault Refusal :=
  atTile t s fun s =>
    let k : Key := { snode := snode, stile := stile, vc := vc, mseq := mseq }
    match (s.stop t).si.asms.find? (fun a => a.key == k && decide (a.deadline ≤ s.ft)) with
    | none => s
    | some a =>
      let s1 := s.modSi t fun si => { si.closeKey k false s.ft with incomplete := inc8 si.incomplete }
      if a.hdr.type = tMresp then s1 else s1.respond t a.hdr nIncomplete

/-- COMPLETED_KEY_EXPIRE (R88). -/
def execCompletedKeyExpire (t snode stile vc mseq : Nat) (s : State) : Host.Outcome State Fault Refusal :=
  atTile t s fun s => s.modSi t fun si => { si with
    keys := si.keys.filter fun d =>
      !(d.key == { snode := snode, stile := stile, vc := vc, mseq := mseq } && decide (d.expires ≤ s.ft)) }

/-! ## Multicast at a target -/

/-- Whether the packet is for the tile's own SI: a unicast copy, or a packet one of whose branches at this stop is the SI. -/
def State.mcLocal (s : State) (t port : Nat) (h : THdr) : Option Bool :=
  if h.dmode = 0 then some true else (s.mcastBranches t port h).map fun l => l.contains 4

/-- MCAST_ARRIVE (R129): a packet that has come to the stop by `port` is refused where the tree is invalid there (R126), counts
as the first of its message at a collector (R131), and its local copy is delivered to a target. -/
def execMcastArrive (t port : Nat) (p : Pkt) (s : State) : Host.Outcome State Fault Refusal :=
  atPort t port s fun s =>
    if p.hdr.type = tMcast then
      match s.mcLocal t port p.hdr with
      | none => s.raiseAt t uT 0x0309 0 p.hdr.mseq.toNat
      | some here =>
        let e := s.enterDie t port p.hdr
        if !e.2 || !here then e.1
        else e.1.deliverable t p fun s => s.takePut t p
    else s

/-- The branch to the SI of a buffered packet with header `h` ends, with the grant and the credit that it holds (R129). -/
def State.cutEject (s : State) (t : Nat) (h : THdr) (p : BufPkt) : State × Option BufPkt :=
  match p.branches.find? fun b => b.port == 4 && decide (b.sent < p.total) with
  | some b =>
    if p.hdr = h then
      let rest := p.branches.filter fun b => b.port != 4
      let s1 := if b.won then s.modRt t fun r => r.modOut 4 fun o =>
        { o with holder := none, used := o.used.set h.vc.toNat (Tab.get 0 o.used h.vc.toNat - (p.total - b.sent)) } else s
      (s1, if rest.isEmpty then none else some { p with branches := rest })
    else (s, some p)
  | none => (s, some p)

/-- The replication buffers of tile `t` no longer hold the local copy of the packet with header `h` (R129). -/
def State.pruneEject (s : State) (t : Nat) (h : THdr) : State :=
  (List.range 52).foldl (fun s i => s.freeFront t i) (s.sweep t fun _ s p => s.cutEject t h p)

/-- The local copy of a multicast packet cannot be taken (R129): it is counted, the message has failed at this target, and NOTREADY is
answered once. -/
def State.ejectFail (s : State) (t : Nat) (h : THdr) : State :=
  let s1 := s.modSi t fun si => { si with ejdrop := inc8 si.ejdrop }
  if (s.stop t).si.keyState (keyOf h) s.ft = some false then s1 else (s1.failTarget t h).respond t h nNotReady

/-- MCAST_EJECT_TIMEOUT (R129): the SI could not take the packet's head within 64 fc of its arrival; the copy is discarded. -/
def execMcastEjectTimeout (t : Nat) (p : Pkt) (waited : Nat) (s : State) : Host.Outcome State Fault Refusal :=
  atTile t s fun s =>
    if mcAnswered p.hdr && p.hdr.dmode != 0 && decide (64 ≤ waited) then (s.pruneEject t p.hdr).ejectFail t p.hdr else s

/-! ## The sluice -/

/-- Flits of VC0 and MCAST packets that the SI holds for injection (R121). -/
def State.heldFlits (s : State) (t : Nat) : Nat :=
  (((s.stop t).si.msgs.filter fun m => m.issued && m.circ.isNone && (m.hdr.vc == 0 || m.hdr.type == tMcast)).map fun m =>
    ((m.todo.takeWhile m.inHand).map fun i => flitsOf s.build (m.plen i)).sum).sum +
  (((s.stop t).si.inj.filter fun x => x.pkt.hdr.vc == 0 || x.pkt.hdr.type == tMcast).map fun x => flitsOf s.build x.pkt.data.length).sum

/-- VC0 flits in the stop's own input buffers, on the four mesh inputs and the SI, that wait for an output (R121). -/
def State.waitingFlits (s : State) (t : Nat) : Nat :=
  ((List.range 5).map fun i =>
    ((((s.stop t).rt.buf i 0).pkts.filter fun p => p.branches.all fun b => !b.won).map fun p => p.got.length - p.freed).sum).sum

/-- The level after an evaluation with metric `m` (R121). -/
def levelStep (up dn : List Nat) (l m : Nat) : Nat :=
  if l < 7 ∧ m ≥ nth 0 up l then l + 1 else if 0 < l ∧ m < nth 0 dn (l - 1) then l - 1 else l

/-- Allowance by effective level (R123). -/
def allowance (l : Nat) : Int := nth 0 [64, 48, 32, 24, 16, 8, 4, 2] l

/-- An evaluation of the sluice (R121 to R123). A floor that the arbiter has written shows in STOP_SLUICE.FLOOR from the evaluation at
which it takes effect (DESIGN CHOICE, log entry 1148). -/
def sluiceStep (up dn : List Nat) (m : Nat) (sl : Sluice) : Sluice :=
  let l := levelStep up dn sl.level m
  let e := max l sl.floorNext
  { sl with
    level := l, floor := sl.floorNext, eff := e, metric := BitVec.ofNat 8 m, peak := BitVec.ofNat 8 (max m sl.peak.toNat),
    balance := min (allowance e) (sl.balance + allowance e) }

/-- SLUICE_EVAL (R121): at phase 0 of every tick whose count is a multiple of 16. -/
def execSluiceEval (t : Nat) (s : State) : Host.Outcome State Fault Refusal :=
  atTile t s fun s =>
    if s.now % 16 = 0 ∧ s.tide.phase = 0 then
      s.modSl t (sluiceStep s.img.act.up s.img.act.dn (min 255 (s.heldFlits t + s.waitingFlits t)))
    else s

end Sys2Proof.Machine
end

