-- ==== Sys2Proof/Machine/CPlane.lean ====
section
/-! DEFINITION. The C-plane: flits into the input buffers, the grant of whole messages, header checks, and the answers that a
stop gives itself (R271 to R277), with the requests that an SI originates over it: issue, answers and resends (R276). -/

namespace Sys2Proof.Machine

/-- The C-plane router of the stop at `t` is changed by `f`. -/
def State.modC (s : State) (t : Nat) (f : CRouter → CRouter) : State := s.modStop t fun st => { st with c := f st.c }

/-- The buffer of an input's VC. -/
def CRouter.buf (c : CRouter) (k : Nat) : CBuf := Tab.get default c.bufs k

/-- The buffer of key `k`, 2 * input + VC, becomes `b`. -/
def State.setCBuf (s : State) (t k : Nat) (b : CBuf) : State := s.modC t fun c => { c with bufs := c.bufs.set k b }

/-- The VC of a message's kind (R275): answers travel on VC1. -/
def cVc (kind : BitVec 4) : Nat := if kind = 2 ∨ kind = 5 ∨ kind = 7 ∨ kind = 11 then 1 else 0

/-- Whether a payload length is its kind's (R275). -/
def cLenOk (kind : BitVec 4) (n : Nat) : Bool :=
  match kind.toNat with
  | 1 => decide (1 ≤ n ∧ n ≤ 48)
  | 6 => decide (17 ≤ n ∧ n ≤ 48)
  | 2 | 3 | 4 | 5 | 7 | 8 => n == 0
  | 9 | 10 | 11 | 12 | 13 | 14 => n == 16
  | _ => false

/-- Whether a header is valid at a stop (R275). -/
def State.cHdrOk (s : State) (h : CHdr) : Bool :=
  cLenOk h.mkind h.plen.toNat && !(h.dnode.toNat == s.node && !tileOk s.build h.dtile.toNat)

/-- The answer kind of a request, if it has one (R273, R275). -/
def ansKind (kind : BitVec 4) : Option (BitVec 4) :=
  match kind.toNat with
  | 1 => some 2
  | 3 | 4 => some 5
  | 6 => some 7
  | _ => none

/-- The answer of kind `kind` from tile `t` to a message of header `h` (R274, R406): its MSEQ and its pan. -/
def State.cAnswer (s : State) (t : Nat) (h : CHdr) (kind : BitVec 4) (epoch : BitVec 8) (arg : BitVec 32) : State :=
  s.cSend t
    { hdr := { (default : CHdr) with
        mseq := h.mseq, epoch := epoch, index := h.index, pan := h.pan, stile := BitVec.ofNat 9 t, snode := BitVec.ofNat 12 s.node,
        dtile := h.stile, dnode := h.snode, mkind := kind, arg := arg }
      data := [] }

/-- A stop discards a message under R273, with FENCED for a kind that has an answer. -/
def State.cFenced (s : State) (t : Nat) (h : CHdr) : State :=
  match ansKind h.mkind with
  | some 7 => s.cAnswer t h 7 0 (0x10 + BitVec.ofNat 32 nFenced)
  | some k => s.cAnswer t h k 0 (BitVec.ofNat 32 nFenced)
  | none => s

/-- The T-plane header that stands for a C-plane one in routing by dimension order (R273). -/
def cRouteHdr (h : CHdr) : THdr := { (default : THdr) with dnode := h.dnode, dtile := h.dtile }

/-- The output of a message at stop `t` (R273): the output, `inl 0` for FENCED or a dead port, `inl 1` for a route table
miss. -/
def State.cOut (s : State) (t port : Nat) (h : CHdr) : Nat ⊕ Nat :=
  match s.route t port (cRouteHdr h) with
  | .miss => .inl 1
  | .fenced => .inl 0
  | .outs l =>
    match l with
    | p :: _ => if s.deadOut t p && !s.setApplies t p then .inl 0 else .inr p
    | [] => .inl 1

/-- The upstream output of an input has room on the VC again (R272). -/
def State.cFreeUp (s : State) (t k : Nat) : State :=
  match neighbour s.build t (k / 2) with
  | some u => if k / 2 < 4 then s.modC u fun c => { c with busy := c.busy.filter (· != 2 * facing (k / 2) + k % 2) } else s
  | none => s

/-- A C-plane message goes into the transmit buffer of the link at a ring port, flit by flit (R365, R368); an abort flit takes
the unfinished one out. -/
def State.cToLink (s : State) (n vc : Nat) (f : CFlit) : State :=
  s.modLl n fun l =>
    if f.head && f.tail && f.data == List.replicate 16 0 then { l with tx := l.tx.filter fun x => !(x.vc == 4 + vc && !x.whole) }
    else
      let tx := if f.head then l.tx ++ [{ vc := 4 + vc, bytes := [], framed := 0, whole := false }] else l.tx
      { l with tx := tx.map fun x => if x.vc == 4 + vc && !x.whole then { x with bytes := x.bytes ++ f.data, whole := f.tail } else x }

/-- A C-plane flit crosses output `o`. -/
def State.cCross (s : State) (t o vc : Nat) (f : CFlit) : State :=
  if o < 5 then s.emit (.cFlit t o f)
  else match (linksOf s.build t)[o - 5]? with
    | some n => s.cToLink n vc f
    | none => s

/-- The abort flit (R271). -/
def abortFlit (vc : Nat) : CFlit := { vc := BitVec.ofNat 1 vc, head := true, tail := true, data := List.replicate 16 0 }

/-- The message in a buffer is discarded whole; where its header has gone on, an abort flit follows it (R271). -/
def State.cDiscard (s : State) (t k : Nat) (disc : Bool) : State :=
  let b := (s.stop t).c.buf k
  let s1 := if b.granted then
      ((if b.sent > 0 then s.cCross t b.dest (k % 2) (abortFlit (k % 2)) else s).modC t fun c => { c with holder := c.holder.set b.dest none })
    else s
  (s1.setCBuf t k { (default : CBuf) with disc := disc }).cFreeUp t k

/-- A header flit opens a message at an input (R272 to R275). -/
def State.cHead (s : State) (t k : Nat) (f : CFlit) : State :=
  let h := chdrOfBytes f.data
  let gone (s : State) : State := (s.setCBuf t k { (default : CBuf) with disc := !f.tail }).cFreeUp t k
  if !s.cHdrOk h then gone (s.raiseAt t uC 0x0503 0 h.mseq.toNat)
  else
    match s.cOut t (k / 2) h with
    | .inl 0 => gone (s.cFenced t h)
    | .inl _ => gone (s.raiseAt t uC 0x0307 0 h.mseq.toNat)
    | .inr o => s.setCBuf t k { flits := [f], dest := o, granted := false, sent := 0, since := s.ft, disc := false }

/-- Whether the last flit of a message has come. -/
def CBuf.whole (b : CBuf) : Bool := (b.flits.getLast?.map (·.tail)).getD false

/-- A flit after the header (R271): it goes on at once where the output has granted its message. -/
def State.cBody (s : State) (t k : Nat) (f : CFlit) : State :=
  let b := (s.stop t).c.buf k
  if b.granted then
    let s1 := s.cCross t b.dest (k % 2) f
    if f.tail then ((s1.setCBuf t k default).modC t fun c => { c with holder := c.holder.set b.dest none }).cFreeUp t k
    else s1.setCBuf t k { b with flits := b.flits ++ [f], sent := b.sent + 1 }
  else s.setCBuf t k { b with flits := b.flits ++ [f] }

/-- A flit comes in by an input other than the stop's own (R271). -/
def State.cTake (s : State) (t port : Nat) (f : CFlit) (e : Ecc) : State :=
  let k := 2 * port + f.vc.toNat
  let b := (s.stop t).c.buf k
  let s0 := if e = .corrected then s.raiseAt t uC 0x0501 0 0 else s
  let opened := !b.flits.isEmpty && !b.whole
  if b.disc then s0.setCBuf t k { b with disc := !f.tail }
  else if e = .bad then (s0.raiseAt t uC 0x0502 0 0).cDiscard t k (!f.tail)
  else if f.head then (if opened then s0.cDiscard t k false else if b.flits.isEmpty then s0.cHead t k f else s0)
  else if opened then s0.cBody t k f
  else s0

/-- C_FLIT_ARRIVE (R271). The SI's own messages enter from its queue, so no flit arrives at port 4. -/
def execCFlitArrive (t port : Nat) (f : CFlit) (e : Ecc) (s : State) : Host.Outcome State Fault Refusal :=
  atPort t port s fun s => if port = 4 then s else s.cTake t port f e

/-! ## Forwarding -/

/-- Whether output `o` has room downstream for a whole message on a VC (R272, R368); a dead port has none (R114). -/
def State.cRoom (s : State) (t o vc : Nat) : Bool :=
  if s.deadOut t o then false
  else if o < 4 then !(s.stop t).c.busy.contains (2 * o + vc)
  else if o = 4 then true
  else match (linksOf s.build t)[o - 5]? with
    | some n => !((s.link n).ll.tx.any fun x => x.vc == 4 + vc)
    | none => false

/-- The message of the stop's own queue that heads a VC: its place and its output. -/
def State.cOwn (s : State) (t vc : Nat) : Option (Nat × CMsg) :=
  ((s.stop t).c.cq.mapIdx fun i m => (i, m)).find? fun e => cVc e.2.hdr.mkind == vc

/-- The inputs that compete for an output on a VC: inputs 0 to 12, with the own queue as input 4. -/
def State.cCands (s : State) (t o vc : Nat) : List Nat :=
  (List.range 13).filter fun i =>
    if s.heldInto t o then false
    else if i = 4 then
      match s.cOwn t vc with
      | some e => !s.rowHeld t && s.cOut t 4 e.2.hdr == .inr o
      | none => false
    else
      let b := (s.stop t).c.buf (2 * i + vc)
      !b.flits.isEmpty && !b.granted && b.dest == o

/-- The first of `l` after `ptr`, cyclic over the 13 inputs. -/
def cNext (ptr : Nat) (l : List Nat) : Option Nat :=
  l.foldl (fun best c => match best with
    | none => some c
    | some b => if (c + 12 - ptr) % 13 < (b + 12 - ptr) % 13 then some c else some b) none

/-- The answer timer of a request whose last flit has entered the C-plane router (R90): an SI's own request, or the last piece
of a contribution on the small path. -/
def State.cTimer (s : State) (t : Nat) (m : CMsg) : State :=
  if m.hdr.mkind = 6 then
    s.modSi t fun si => { si with msgs := si.msgs.map fun x =>
      if x.small && x.hdr.mseq == m.hdr.mseq && x.todo.isEmpty then { x with deadline := some (s.ft + 100 * usFc) } else x }
  else
    s.modStop t fun st => { st with cr := { st.cr with reqs := st.cr.reqs.map fun r =>
      if r.issued && r.msg.hdr.mseq == m.hdr.mseq && r.msg.hdr.mkind == m.hdr.mkind then { r with deadline := some (s.ft + 100 * usFc) } else r } }

/-- Output `o` grants input `i` its message on a VC: the flits in hand cross, and the rest as they come (R272). -/
def State.cGrant (s : State) (t o vc i : Nat) : State :=
  let s0 := s.modC t fun c => { c with
    ptr := c.ptr.set (2 * o + vc) i, busy := if o < 4 then c.busy ++ [2 * o + vc] else c.busy }
  if i = 4 then
    match s0.cOwn t vc with
    | none => s0
    | some e =>
      ((cmsgFlits e.2).foldl (fun s f => s.cCross t o vc f) (s0.modC t fun c => { c with cq := c.cq.eraseIdx e.1 })).cTimer t e.2
  else
    let k := 2 * i + vc
    let b := (s0.stop t).c.buf k
    let s1 := b.flits.foldl (fun s f => s.cCross t o vc f) s0
    if b.whole then (s1.setCBuf t k default).cFreeUp t k
    else (s1.setCBuf t k { b with granted := true, sent := b.flits.length }).modC t fun c => { c with holder := c.holder.set o (some k) }

/-- A message of the stop's own queue that has no output is discarded as at any stop (R273); it has entered the router, and a request's
answer timer has started (R90). -/
def State.cPrune (s : State) (t : Nat) : State :=
  let l := (s.stop t).c.cq
  let bad := l.filter fun m => match s.cOut t 4 m.hdr with | .inl _ => true | .inr _ => false
  if bad.isEmpty then s
  else
    bad.foldl (fun s m => match s.cOut t 4 m.hdr with
        | .inl 0 => (s.cTimer t m).cFenced t m.hdr
        | .inl _ => (s.cTimer t m).raiseAt t uC 0x0307 0 m.hdr.mseq.toNat
        | .inr _ => s)
      (s.modC t fun c => { c with cq := c.cq.filter fun m => !bad.contains m })

/-- A free output grants one whole message, VC1 first (R272). -/
def State.cForward (s0 : State) (t port : Nat) : State :=
  let s := s0.cPrune t
  if (Tab.get none (s.stop t).c.holder port).isSome then s
  else
    let pick (vc : Nat) : Option Nat :=
      if s.cRoom t port vc then cNext (Tab.get 0 (s.stop t).c.ptr (2 * port + vc)) (s.cCands t port vc) else none
    match pick 1, pick 0 with
    | some i, _ => s.cGrant t port 1 i
    | none, some i => s.cGrant t port 0 i
    | none, none => s

/-! ## Requests of an SI -/

/-- The C-plane requests of the SI at `t` are changed by `f`. -/
def State.modCr (s : State) (t : Nat) (f : CReqs → CReqs) : State := s.modStop t fun st => { st with cr := f st.cr }

/-- A request is sent into the C-plane (R276). -/
def State.cLaunch (s : State) (t : Nat) (r : CReq) (again : Bool) : State :=
  s.cSend t { r.msg with hdr := { r.msg.hdr with resend := BitVec.ofBool again } }

/-- The next waiting request takes its MSEQ and leaves, where R82 and R83 let it; a QSEND or LOCK_ACQ waits while its pan drains
(R413). -/
def State.cIssueOne (s : State) (t : Nat) : State :=
  let cr := (s.stop t).cr
  let q := (s.stop t).si.cseq
  match cr.reqs.find? (fun r => !r.issued && r.lostDue.isNone && !(r.op != 7 && s.draining t)) with
  | none => s
  | some r =>
    if (cr.reqs.filter fun r => r.issued).length < 64 && !cr.issuedAt.any fun e => e.1 == q.toNat && decide (s.ft < e.2 + 2 * msFc) then
      let r1 := { r with issued := true, msg := { r.msg with hdr := { r.msg.hdr with mseq := q } } }
      ((s.modCr t fun c => { c with
          reqs := replaceFirst (· == r) r1 c.reqs
          issuedAt := (q.toNat, s.ft) :: c.issuedAt.filter fun e => decide (s.ft < e.2 + 2 * msFc) }).modSi t fun si => { si with cseq := q + 1 }).cLaunch t r1 false
    else s

/-- Every request that may leave does. -/
def State.cIssue (s : State) (t : Nat) : State := (List.range 64).foldl (fun s _ => s.cIssueOne t) s

/-- The bytes of a MSG reply (R587): its header and nothing else. -/
def msgReply (op code free lstat : Nat) (gen : BitVec 16) : List Byte :=
  bytesOf 64 ((BitVec.ofNat 4 op ++ BitVec.ofNat 4 code ++ BitVec.ofNat 8 free ++ BitVec.ofNat 4 lstat ++ gen ++ (0 : BitVec 92)).toNat)

/-- A MSG request is answered (R587); a reply whose crossing has timed out is discarded (R35). -/
def State.msgr (s : State) (t : Nat) (tag : BitVec 4) (op code free lstat : Nat) (gen : BitVec 16) : State :=
  if s.shut (.msg t) then s else s.emit (.msgr t tag (msgReply op code free lstat gen))

/-- Whether a request is the SI's own one of a tag, or of an answer's key and pan. -/
def CReq.answers (r : CReq) (m : CMsg) : Bool := r.issued && r.msg.hdr.mseq == m.hdr.mseq && r.msg.hdr.pan == m.hdr.pan

/-- A request ends: it leaves the SI and its reply is given. -/
def State.cEnd (s : State) (t : Nat) (r : CReq) (code free lstat : Nat) (gen : BitVec 16) : State :=
  let s1 := (s.modCr t fun c => { c with reqs := c.reqs.erase r }).cIssue t
  match r.tag with
  | some g => s1.msgr t g r.op code free lstat gen
  | none => s1

/-- The SI's request `r` is replaced by `r1`. -/
def State.cSet (s : State) (t : Nat) (r r1 : CReq) : State := s.modCr t fun c => { c with reqs := replaceFirst (· == r) r1 c.reqs }

/-- A request fails under R91, with the code of its last answer, or INCOMPLETE; by timeout it is a fault. -/
def State.cFail (s : State) (t : Nat) (r : CReq) (timeout : Bool) : State :=
  let s1 := s.modSi t fun si => { si with undeliv := inc8 si.undeliv }
  (if timeout then s1.raiseAt t uSi 0x0304 0 r.msg.hdr.mseq.toNat else s1).cEnd t r (r.lastCode.getD nIncomplete) 0 0 0

/-- Backoff after the k-th consecutive refusal (R89, R295). -/
def backoffFc (k : Nat) : Nat := min 65536 (32 * 2 ^ (k - 1))

/-- A refusal of a request (R89, R276). -/
def State.cRefused (s : State) (t : Nat) (r : CReq) (code free : Nat) : State :=
  let s0 := s.modPb t fun p => { p with c3 := p.c3 + 1 }
  if code = nNotReady then
    let k := r.notReady + 1
    let s1 := s0.modSi t fun si => { si with notready := inc8 si.notready }
    let r1 := { r with lastCode := some code }
    if k ≥ 8 then (s1.cSet t r r1).cFail t r1 false
    else s1.cSet t r { r with notReady := k, lastCode := some code, deadline := none, backoff := some (s.ft + backoffFc k) }
  else s0.cEnd t r code free 0 0

/-- A request is sent again whole (R90, R276): `tries` of its resends are for want of an answer, and such a resend ends a run of
refusals (R89). -/
def State.cResend (s : State) (t : Nat) (r : CReq) (tries : Nat) : State :=
  let r1 := { r with
    deadline := none, backoff := none, tries := tries, notReady := if tries = r.tries then r.notReady else 0 }
  (((s.cSet t r r1).modSi t fun si => { si with resent := inc8 si.resent }).modPb t fun p => { p with c4 := p.c4 + 1 }).cLaunch t r1 true

/-- A request's answer timer has expired (R90, R91). -/
def State.cTimeout (s : State) (t : Nat) (r : CReq) : State :=
  if r.tries ≥ 3 then s.cFail t r true else s.cResend t r (r.tries + 1)

/-- A C-plane message is of a kind. -/
def isKind (m : CMsg) (k : BitVec 4) : Bool := m.hdr.mkind == k

/-- TIME_MESSAGE (R275): an invalid header is dropped as a fault. The command that a TIME message carries is scheduled where
its own register is written, and the manual lays down no payload for it, so nothing else follows. -/
def execTimeMessage (t : Nat) (m : CMsg) (s : State) : Host.Outcome State Fault Refusal :=
  atTile t s fun s => if isKind m 0xE && !s.cHdrOk m.hdr then s.raiseAt t uC 0x0503 0 m.hdr.mseq.toNat else s

end Sys2Proof.Machine
end

