-- ==== Sys2Proof/Machine/Queues.lean ====
section
/-! DEFINITION. Register queues and ring queues: their commands, arrivals, pops, dispatch, ring records and the client's
requests about them (R278 to R292, R586, R587). -/

namespace Sys2Proof.Machine

/-- The queue block of the tile is changed by `f`. -/
def State.modQ (s : State) (t : Nat) (f : QBlock → QBlock) : State := s.modStop t fun st => { st with q := f st.q }

/-- Queue `k` of a tile. -/
def State.queue (s : State) (t k : Nat) : Queue := Tab.get default (s.stop t).q.qs k

/-- Queue `k` of a tile is changed by `f`. -/
def State.modQueue (s : State) (t k : Nat) (f : Queue → Queue) : State :=
  s.modQ t fun q => { q with qs := q.qs.set k (f (Tab.get default q.qs k)) }

/-! ## The register access of a C-plane message (R598) -/

/-- `WIN`, the byte offset within the page, `TAG` and `DATA` of a REG message's payload (R598). -/
def regWin (m : CMsg) : Nat := leAt m.data 0 16 / 2 ^ 125 % 8
def regOfs (m : CMsg) : Nat := leAt m.data 0 16 / 2 ^ 103 % 2 ^ 10 * 4
def regData (m : CMsg) : Word := BitVec.ofNat 32 (leAt m.data 0 4)

/-- The payload of a REG_ANS to a request (R598). -/
def regAnsBytes (m : CMsg) (code : Nat) (data : Word) : List Byte :=
  bytesOf 16 (leAt m.data 0 16 / 2 ^ 97 * 2 ^ 97 + code % 16 * 2 ^ 32 + data.toNat)

/-- The REG_ANS of a stop or link to a register access (R598). -/
def State.regAnsMsg (s : State) (t : Nat) (m : CMsg) (code : Nat) (data : Word) : CMsg :=
  { hdr := { (default : CHdr) with
      mseq := m.hdr.mseq, stile := BitVec.ofNat 9 t, snode := BitVec.ofNat 12 s.node, dtile := m.hdr.stile, dnode := m.hdr.snode,
      plen := 16, mkind := 0xB, arg := 0 }
    data := regAnsBytes m code data }

/-- A stop or link answers a register access with REG_ANS (R598). -/
def State.regAns (s : State) (t : Nat) (m : CMsg) (code : Nat) (data : Word) : State := s.cSend t (s.regAnsMsg t m code data)

/-- STOP page offsets whose writes follow the window rights (R96, R161, R270, R298, R571). -/
def rightsOfs : List Nat := [0x100, 0x104, 0x300, 0x510, 0x600, 0x904]

/-- Whether a window may write the STOP register at an offset of a tile's page (R417). -/
def State.stopWrOk (s : State) (w t ofs : Nat) : Bool :=
  w == 0 || (rightsOfs.contains ofs && s.hasReg w && s.mayTile w t)

/-- Whether a window may read a tile's STOP page (R417). -/
def State.stopRdOk (s : State) (w t : Nat) : Bool := w == 0 || s.mayTile w t || s.hasDbg w

/-- A register write at a stop: refused to a window without the right, else performed by `f`, which answers the state and a
code. A message that is no write of the offset is another command's. -/
def stopWrite (t ofs : Nat) (m : CMsg) (s : State) (f : State → State × Nat) : State :=
  if !(isKind m 0xA && regOfs m == ofs) then s
  else if !s.stopWrOk (regWin m) t ofs then s.regAns t m rDenied 0
  else
    let r := f s
    r.1.regAns t m r.2 0

/-! ## MSG requests -/

/-- The tags of MSG requests outstanding at a tile. -/
def State.tagBusy (s : State) (t : Nat) (tag : BitVec 4) : Bool := (s.stop t).cr.reqs.any fun r => r.tag == some tag

/-- A MSG request passes the mirror tap (R513). -/
def State.msgSeen (s : State) (t : Nat) (data : List Byte) : State :=
  s.mirror (mirTile t) (unitId uSi (s.phys t)) 3 data

/-- The header of a MSG request (R586). -/
def msgHdr (op queue cmd : Nat) (tag : BitVec 4) : BitVec 128 :=
  BitVec.ofNat 4 op ++ BitVec.ofNat 5 queue ++ BitVec.ofNat 3 cmd ++ (0 : BitVec 77) ++ tag ++ (0 : BitVec 35)

/-- The register-queue block has not yet done in this fc what comes at stage `k` of it, or later: 1 a command, 2 a pop, 3 an arrival, of
which it takes one each, in this order (R283). -/
def State.qFree (s : State) (t k : Nat) : Bool :=
  match (s.stop t).q.turn with
  | some (f, j) => f != s.ft || decide (j < k)
  | none => true

/-- The register-queue block acts at stage `k` of this fc (R283); stage 0 is none of its. -/
def State.qTurn (s : State) (t k : Nat) : State := if k = 0 then s else s.modQ t fun q => { q with turn := some (s.ft, k) }

/-- The stop takes the next request of its MSG port (R31, R283): none waits before it, and the register-queue block is free for its
stage. -/
def State.msgReady (s : State) (t k : Nat) : Bool := (s.stop t).msgq.isEmpty && (k == 0 || s.qFree t k)

/-- A request `i` of the client on its MSG port, at stage `k` of R283, which the stop performs by `f` (R31): the crossing holds four. -/
def msgAct (t k : Nat) (i : Instr) (s : State) (f : State → State) : Host.Outcome State Fault Refusal :=
  portAct t (.msg t) (fun st => st.msgq) (fun st q => { st with msgq := q }) 4 (s.msgReady t k) i s fun s => f (s.qTurn t k)

/-- A request on the MSG port that is answered as soon as it is performed: a repeated tag is answered ERROR (R587). -/
def State.msgForm (s : State) (t op : Nat) (tag : BitVec 4) (data : List Byte) (f : State → State × Nat) : State :=
  let s := s.msgSeen t data
  if s.tagBusy t tag then s.msgr t tag op nError 0 0 0
  else
    let r := f s
    r.1.msgr t tag op r.2 0 0 0

/-! ## Commands (R279) -/

/-- Whether a ring's base and size are valid (R287). -/
def Queue.ringOk (q : Queue) : Bool :=
  q.base.toNat % 64 == 0 && q.size.toNat % 32 == 0 && decide (4096 ≤ q.size.toNat ∧ q.size.toNat ≤ 2 ^ 30)

/-- OPEN (R279, R287): the queue after it, or a refusal. -/
def Queue.open (ring : Bool) (q : Queue) : Option Queue :=
  match q.state with
  | 1 => if ring && !q.ringOk then none
         else some (if ring then { q with state := 2, wrLap := false, wrOfs := 0, rdLap := false, rdOfs := 0, recs := [] } else { q with state := 2 })
  | 2 => some q
  | _ => none

/-- CLOSE (R279). -/
def Queue.close (q : Queue) : Option Queue := if q.state = 2 ∨ q.state = 3 then some { q with state := 1 } else none

/-- RESET (R279). -/
def Queue.reset (q : Queue) : Option Queue :=
  if q.state = 0 then none else some { q with state := 1, epoch := q.epoch + 1, entries := [], dropped := false, recs := [] }

/-- PAUSE (R279). -/
def Queue.pause (q : Queue) : Option Queue := if q.state = 2 then some { q with state := 3 } else none

/-- RESUME (R279). -/
def Queue.resume (q : Queue) : Option Queue := if q.state = 3 then some { q with state := 2 } else none

/-- A command of R279 at a queue: done, or refused with ERROR. RESET clears the queue's alive entries (R281). -/
def State.queueCmd (s : State) (t k : Nat) (reset : Bool) (f : Queue → Option Queue) : State × Bool :=
  if k < 32 then
    match f (s.queue t k) with
    | some q =>
      let s1 := s.modQueue t k fun _ => q
      (if reset then s1.modQ t fun b => { b with alive := b.alive.filter fun a => a.queue != k } else s1, true)
    | none => (s, false)
  else (s, false)

/-- A command of R279 from the MSG port (R586). -/
def State.queueMsg (s : State) (t k cmd : Nat) (tag : BitVec 4) (reset : Bool) (f : Queue → Option Queue) : State :=
  s.msgForm t 2 tag (bytesOf 64 (msgHdr 2 k cmd tag).toNat) fun s =>
    let r := s.queueCmd t k reset f
    (r.1, if r.2 then 0 else nError)

/-- A write of STOP_Q_CMD (R298) for command `i`: one that finds the register-queue block busy in this fc waits for a later one
(R283). -/
def State.queueHost (s : State) (t k : Nat) (i : Instr) (m : CMsg) (reset : Bool) (f : Queue → Option Queue) : State :=
  if isKind m 0xA && regOfs m == 0x600 && s.stopWrOk (regWin m) t 0x600 && !s.qFree t 1 then s.modQ t fun q => { q with wait := q.wait ++ [i] }
  else stopWrite t 0x600 m s fun s =>
    let r := (s.qTurn t 1).queueCmd t k reset f
    (r.1, if r.2 then rOk else rError)

/-- Command `i` of R279 with its source: the MSG port, or a write of STOP_Q_CMD that names the same command and queue (R298). -/
def queueForm (t k cmd : Nat) (src : QSrc) (i : Instr) (s : State) (reset : Bool) (f : Queue → Option Queue) :
    Host.Outcome State Fault Refusal :=
  match src with
  | .msg tag => msgAct t 1 i s fun s => s.queueMsg t k cmd tag reset f
  | .host _ m => atTile t s fun s =>
    if regData m &&& 0x71F = BitVec.ofNat 32 (cmd * 256 + k) then s.queueHost t k i m reset f else s

/-- QUEUE_OPEN (R279). -/
def execQueueOpen (t k : Nat) (src : QSrc) (s : State) : Host.Outcome State Fault Refusal :=
  queueForm t k 1 src (.queueOpen t k src) s false (Queue.open (decide (k ≥ 16)))

/-- QUEUE_CLOSE (R279). -/
def execQueueClose (t k : Nat) (src : QSrc) (s : State) : Host.Outcome State Fault Refusal :=
  queueForm t k 2 src (.queueClose t k src) s false Queue.close

/-- QUEUE_RESET (R279). -/
def execQueueReset (t k : Nat) (src : QSrc) (s : State) : Host.Outcome State Fault Refusal :=
  queueForm t k 3 src (.queueReset t k src) s true Queue.reset

/-- QUEUE_PAUSE (R279). -/
def execQueuePause (t k : Nat) (src : QSrc) (s : State) : Host.Outcome State Fault Refusal :=
  queueForm t k 4 src (.queuePause t k src) s false Queue.pause

/-- QUEUE_RESUME (R279). -/
def execQueueResume (t k : Nat) (src : QSrc) (s : State) : Host.Outcome State Fault Refusal :=
  queueForm t k 5 src (.queueResume t k src) s false Queue.resume

/-! ## Arrivals at a register queue -/

/-- Rows 1 to 3 of R280 for a C-plane request: the pan, the fenced client, and `there`, whether what it names is mapped. -/
def State.cRows (s : State) (t ty : Nat) (h : CHdr) (there : Bool) : State × Nat :=
  let ok := match s.tilePan t with | some p => h.pan.toNat == p.id | none => false
  if !ok then
    let own := ((s.tilePan t).map (·.id)).getD h.pan.toNat
    (({ s with pans := { s.pans with foreign := s.pans.foreign.set own (inc8 (Tab.get 0 s.pans.foreign own)) } }).raiseAt t ty 0x030A 0
      h.mseq.toNat, nPan)
  else if (s.stop t).ro.clientFenced then (s, nFenced)
  else if !there then (s, nBounds)
  else (s, 0)

/-- A refusal that STOP_Q_CNT counts (R303). -/
def State.countRefused (s : State) (t : Nat) : State := s.modQ t fun q => { q with refused := inc8 q.refused }

/-- A NOTREADY that STOP_Q_CNT counts, which is a queue event (R303, R597). -/
def State.countNotReady (s : State) (t : Nat) : State := (s.modQ t fun q => { q with notready := inc8 q.notready }).qcEvent t

/-- The alive entry of a key, and the others. -/
def QBlock.aliveOf (q : QBlock) (snode stile k : Nat) : Option Alive × List Alive :=
  (q.alive.find? fun a => a.snode == snode && a.stile == stile && a.queue == k,
   q.alive.filter fun a => !(a.snode == snode && a.stile == stile && a.queue == k))

/-- An entry as it lies in the queue (R282): the header flit with GAP, and 48 payload bytes. -/
def entryBytes (h : CHdr) (gap : Nat) (data : List Byte) : List Byte :=
  bytesOf 16 ((chdrBits h).toNat % 2 ^ 112 + gap * 2 ^ 112) ++ slice data 0 48

/-- An accepted QSEND is stored (R281, R284). -/
def State.qAccept (s : State) (t : Nat) (m : CMsg) : State :=
  let h := m.hdr
  let k := h.index.toNat
  let a := (s.stop t).q.aliveOf h.snode.toNat h.stile.toNat k
  let gap := match a.1 with | some e => (h.alive - e.last - 1).toNat | none => 0
  let keep := if a.1.isNone && decide (a.2.length ≥ 128) then a.2.drop 1 else a.2
  let s1 := if gap = 0 then s else (s.modQ t fun q => { q with skip := inc8 q.skip }).raiseAt t uQ 0x0504 k 0
  let s2 := (s1.modQ t fun q => { q with
    alive := keep ++ [{ snode := h.snode.toNat, stile := h.stile.toNat, queue := k, last := h.alive }]
    disp := if (s.queue t k).disp then q.disp ++ [k] else q.disp })
  s2.modQueue t k fun q => { q with entries := q.entries ++ [entryBytes h gap m.data] }

/-- Rows 4 to 8 of R280 for a QSEND: the state after, and the code of the answer. -/
def State.qDecide (s : State) (t : Nat) (m : CMsg) : State × Nat :=
  let h := m.hdr
  let k := h.index.toNat
  let q := s.queue t k
  if q.state = 1 then (s.countRefused t, nClosed)
  else if h.epoch ≠ q.epoch then (s.countRefused t, nStale)
  else
    let a := (s.stop t).q.aliveOf h.snode.toNat h.stile.toNat k
    match a.1 with
    | some e =>
      if h.alive = e.last then (s.modQ t fun q => { q with repeats := inc8 q.repeats, alive := a.2 ++ [e] }, 0)
      else if q.state = 3 ∨ q.entries.length ≥ q.depth then (s.countNotReady t, nNotReady)
      else (s.qAccept t m, 0)
    | none =>
      if q.state = 3 ∨ q.entries.length ≥ q.depth then (s.countNotReady t, nNotReady)
      else (s.qAccept t m, 0)

/-- The QANS to a QSEND (R275, R280). -/
def State.qAnswer (s : State) (t : Nat) (h : CHdr) (code : Nat) : State :=
  let q := s.queue t h.index.toNat
  s.cAnswer t h 2 q.epoch (BitVec.ofNat 32 ((q.depth - q.entries.length) * 16 + code))

/-- The register-queue block decides a QSEND and answers it (R280). -/
def State.qArrive (s : State) (t : Nat) (m : CMsg) : State :=
  let k := m.hdr.index.toNat
  match s.cRows t uQ m.hdr (decide (k < 16) && (s.queue t k).state != 0) with
  | (s1, 0) => let r := s1.qDecide t m; r.1.qAnswer t m.hdr r.2
  | (s1, c) => s1.qAnswer t m.hdr c

/-- Whether an arrival waits for its fc. -/
def QBlock.arrivals (q : QBlock) : Bool := q.wait.any fun i => match i with | .qsendArrive _ _ => true | _ => false

/-- QSEND_ARRIVE (R280, R283): one arrival is decided in an fc, and further ones wait. -/
def execQsendArrive (t : Nat) (m : CMsg) (s : State) : Host.Outcome State Fault Refusal :=
  atTile t s fun s =>
    if isKind m 1 then
      if s.qFree t 3 && !(s.stop t).q.arrivals then (s.qTurn t 3).qArrive t m
      else s.modQ t fun q => { q with wait := q.wait ++ [.qsendArrive t m] }
    else s

/-- QANS_RECEIVED (R276). -/
def execQansReceived (t : Nat) (m : CMsg) (s : State) : Host.Outcome State Fault Refusal :=
  atTile t s fun s =>
    if isKind m 2 then
      match (s.stop t).cr.reqs.find? (fun r => r.op == 5 && r.answers m) with
      | none => s
      | some r =>
        let code := (m.hdr.arg.extractLsb' 0 4).toNat
        let free := (m.hdr.arg.extractLsb' 4 8).toNat
        if code = 0 then s.cEnd t r 0 free 0 0 else s.cRefused t r code free
    else s

/-! ## Pops and dispatch -/

/-- Queue `k` loses an entry row, for this map and those after it (R474). -/
def State.rowGone (s : State) (t k : Nat) : State :=
  ((s.modQueue t k fun q => { q with depth := q.depth - 1 }).modQ t fun b => { b with gone := b.gone.set k (Tab.get 0 b.gone k + 1) }).raiseAt
    t uQ 0x0806 k 0

/-- Entries that a pop finds uncorrectable are discarded, `n` of them at most (R286, R474): a spare row replaces each, or the
queue loses a row. -/
def State.popBad (s : State) (t k : Nat) : Nat → State
  | 0 => s
  | n + 1 =>
    let q := s.queue t k
    if q.entries.isEmpty then s
    else
      let s1 := (s.modQueue t k fun q => { q with entries := q.entries.drop 1, dropped := true }).raiseAt t uQ 0x0506 k 0
      let s2 := if (s.stop t).q.spares > 0 then s1.modQ t fun b => { b with spares := b.spares - 1 }
        else s1.rowGone t k
      s2.popBad t k n

/-- The front entry as a pop returns it (R282): DROP in bit 36 of the header flit. -/
def Queue.front (q : Queue) : List Byte :=
  match q.entries with
  | [] => List.replicate 64 0
  | e :: _ => if q.dropped then bytesOf 16 (leAt e 0 16 + 2 ^ 36) ++ e.drop 16 else e

/-- A pop of queue `k` (R282): `bad` entries at the front are found uncorrectable, and `fixed` says that an error of the entry returned
has been corrected (R286). -/
def State.pop (s : State) (t k : Nat) (tag : BitVec 4) (fixed : Bool) (bad : Nat) : State :=
  let s1 := s.popBad t k bad
  let q := s1.queue t k
  let s2 := if fixed && !q.entries.isEmpty then s1.raiseAt t uQ 0x0505 k 0 else s1
  (s2.modQueue t k fun q => { q with entries := q.entries.drop 1, dropped := q.dropped && q.entries.isEmpty }).emit (.msgr t tag q.front)

/-- QUEUE_POP (R282). -/
def execQueuePop (t k : Nat) (tag : BitVec 4) (fixed : Bool) (bad : Nat) (s : State) : Host.Outcome State Fault Refusal :=
  msgAct t 2 (.queuePop t k tag fixed bad) s fun s =>
    let s := s.msgSeen t (bytesOf 64 (msgHdr 1 k 0 tag).toNat)
    if s.tagBusy t tag then s.msgr t tag 1 nError 0 0 0
    else if k ≥ 16 then s.msgr t tag 1 nBounds 0 0 0
    else s.pop t k tag fixed bad

/-- DISPATCH_SEND (R284): the oldest dispatch record leaves where the DSP FIFO has room. -/
def execDispatchSend (t : Nat) (room : Bool) (s : State) : Host.Outcome State Fault Refusal :=
  atTile t s fun s =>
    match (s.stop t).q.disp with
    | k :: rest =>
      if room && !s.shut (.dsp t) then
        let q := s.queue t k
        let pend := min 255 (if k < 16 then q.entries.length else q.recs.length)
        (s.modQ t fun b => { b with disp := rest }).emit (.dsp t (BitVec.ofNat 8 pend ++ (0 : BitVec 3) ++ BitVec.ofNat 5 k ++ q.handler))
      else s
    | [] => s

/-! ## Rings -/

/-- Bytes between RD and a position of the ring (R289). -/
def ringDist (size : Nat) (aLap : Bool) (aOfs : Nat) (bLap : Bool) (bOfs : Nat) : Nat :=
  if aLap = bLap then bOfs - aOfs else size - aOfs + bOfs

/-- Where the next record goes: WR, or past the records still being written (DEDUCED, log entry 33). -/
def Queue.putAt (q : Queue) : Bool × Nat :=
  match q.writes.getLast? with
  | none => (q.wrLap, q.wrOfs)
  | some w =>
    let e := w.ofs + 32 + ceilDiv w.hdr.plen.toNat 32 * 32
    if e = q.size.toNat then (!w.lap, 0) else (w.lap, e)

/-- The placement of R289 for a message of `len` bytes: its pad, if one, with the record's offset and lap. -/
def Queue.place (q : Queue) (len : Nat) : Option (Option Nat × Nat × Bool) :=
  let size := q.size.toNat
  let p := q.putAt
  let free := size - ringDist size q.rdLap q.rdOfs p.1 p.2
  let n := 32 + ceilDiv len 32 * 32
  let tail := size - p.2
  if n ≤ tail then (if n > free then none else some (none, p.2, p.1))
  else if tail + n > free then none
  else some (some p.2, 0, !p.1)

/-- Word 0 of a record (R288). -/
def ringWord0 (mseq : Nat) (epoch : BitVec 8) (len : Nat) (lap : Bool) (kind : Nat) : Nat :=
  mseq * 2 ^ 48 + epoch.toNat * 2 ^ 40 + len * 2 ^ 16 + b2n lap * 16 + kind

/-- Words 1 to 3 of a message's record (R288). -/
def ringWords (h : THdr) : List Byte :=
  bytesOf 8 (h.ctag ++ h.snode ++ h.srank).toNat ++ bytesOf 8 (h.tstamp ++ h.stile ++ h.pan ++ (0 : BitVec 15)).toNat ++ bytesOf 8 0

/-- The client-local address of a ring offset. -/
def Queue.addr (q : Queue) (ofs : Nat) : Nat := q.base.toNat + ofs

/-- A placed record's bytes but for its word 0 go out on the TP port (R290): the pad's words first where there is one. -/
def State.ringPut (s : State) (t k : Nat) (p : Pkt) (pl : Option Nat × Nat × Bool) : State :=
  let q := s.queue t k
  let n := ceilDiv p.hdr.plen.toNat 32 * 32
  let s1 := match pl.1 with
    | some o => s.emit (.tpWrite t (q.addr (o + 8)) (List.replicate 24 0))
    | none => s
  ((s1.emit (.tpWrite t (q.addr (pl.2.1 + 32)) (slice (p.data.take p.hdr.plen.toNat) 0 n))).emit
    (.tpWrite t (q.addr (pl.2.1 + 8)) (ringWords p.hdr))).modQueue t k fun q =>
      { q with writes := q.writes ++ [{ hdr := p.hdr, ofs := pl.2.1, lap := pl.2.2, pad := pl.1 }] }

/-- Rows 3 to 8 of R280 for a RINGMSG that has passed the pan and the fence; a repeat of a completed key is answered again
(R88), and one that is being written is discarded. -/
def State.ringDecide (s : State) (t : Nat) (p : Pkt) : State :=
  let h := p.hdr
  let k := (h.addr.extractLsb' 26 5).toNat
  let q := s.queue t k
  let named := (h.addr.extractLsb' 40 4).toNat == s.chipPos && tileId (h.addr.extractLsb' 35 5).toNat (h.addr.extractLsb' 31 4).toNat == t
  if (s.stop t).si.keyState (keyOf h) s.ft = some true then (if h.resend = 1 then s.ack t h else s)
  else if q.writes.any fun w => keyOf w.hdr == keyOf h then s
  else if q.state = 0 || !ringAddrOk h.addr || !named || !countOk h then
    (s.modSi t fun si => { si with bounds := inc8 si.bounds }).nack t h nBounds
  else if q.state = 1 then (s.countRefused t).nack t h nClosed
  else if h.qepoch ≠ q.epoch then (s.countRefused t).nack t h nStale
  else if q.state = 3 then (s.countNotReady t).nack t h nNotReady
  else
    match q.place h.plen.toNat with
    | none => (s.countNotReady t).nack t h nNotReady
    | some pl => (s.countC1 t p).ringPut t k p pl

/-- RINGMSG_ARRIVE (R280). -/
def execRingmsgArrive (t : Nat) (p : Pkt) (s : State) : Host.Outcome State Fault Refusal :=
  atTile t s fun s => if p.hdr.type = tRing then s.deliverable t p fun s => s.ringDecide t p else s

/-- RING_WRITE_COMPLETE (R290): the TP port has accepted the oldest record's payload and words 1 to 3; word 0 goes out, WR
advances, the sender is acknowledged and the message dispatched. -/
def execRingWriteComplete (t k : Nat) (s : State) : Host.Outcome State Fault Refusal :=
  atTile t s fun s =>
    let q := s.queue t k
    match q.writes with
    | [] => s
    | w :: ws =>
      let len := w.hdr.plen.toNat
      let e := w.ofs + 32 + ceilDiv len 32 * 32
      let wrap := e = q.size.toNat
      let s1 := match w.pad with
        | some o => s.emit (.tpWrite t (q.addr o) (bytesOf 8 (ringWord0 0 q.epoch (q.size.toNat - o) (!w.lap) 2)))
        | none => s
      let s2 := s1.emit (.tpWrite t (q.addr w.ofs) (bytesOf 8 (ringWord0 w.hdr.mseq.toNat q.epoch len w.lap 1)))
      let s3 := s2.modQueue t k fun q => { q with
        writes := ws, wrOfs := if wrap then 0 else e, wrLap := if wrap then !w.lap else w.lap, recs := q.recs ++ [(w.lap, w.ofs)] }
      let s4 := s3.modSi t fun si => si.closeKey (keyOf w.hdr) true s.ft
      (s4.ack t w.hdr).modQ t fun b => { b with disp := if q.disp then b.disp ++ [k] else b.disp }

/-- What a RING_SET sets of a ring (R287, R301). -/
def ringApply (f : RingField) (q : Queue) : Queue :=
  match f with
  | .both b n => { q with base := b, size := n }
  | .baseLo v => { q with base := q.base.extractLsb' 32 8 ++ v }
  | .baseHi v => { q with base := v.extractLsb' 0 8 ++ q.base.extractLsb' 0 32 }
  | .size v => { q with size := v.extractLsb' 0 31 }

/-- The register offset and the data of a RING_SET from a host (R301). -/
def ringReg (f : RingField) : Nat × Word :=
  match f with
  | .baseLo v => (0x60C, v)
  | .baseHi v => (0x610, v)
  | .size v => (0x614, v)
  | .both _ _ => (0xFFF, 0)

/-- RING_SET (R287, R301): a host's write sets the ring that STOP_Q_SEL selects. -/
def execRingSet (t k : Nat) (src : QSrc) (f : RingField) (s : State) : Host.Outcome State Fault Refusal :=
  match src with
  | .msg tag => msgAct t 0 (.ringSet t k src f) s fun s =>
      let data := match f with
        | .both b n => bytesOf 64 (((BitVec.ofNat 57 0 ++ n ++ b).toNat) * 2 ^ 128 + (msgHdr 3 k 0 tag).toNat)
        | _ => bytesOf 64 (msgHdr 3 k 0 tag).toNat
      s.msgForm t 3 tag data fun s =>
        if k < 16 ∨ k ≥ 32 then (s, nBounds)
        else if (s.queue t k).state = 1 then (s.modQueue t k (ringApply f), 0)
        else (s, if (s.queue t k).state = 0 then nError else nBusy)
  | .host _ m => atTile t s fun s =>
      if (s.stop t).q.sel = k ∧ (ringReg f).2 = regData m then
        stopWrite t (ringReg f).1 m s fun s =>
          if k < 16 then (s, rError)
          else if (s.queue t k).state = 1 then (s.modQueue t k (ringApply f), rOk)
          else (s, rBusy)
      else s

/-- The read pointer's advance (R291): a value on the path to WR, and the records it leaves unread. -/
def Queue.advance (q : Queue) (lap : Bool) (ofs : Nat) : Option Queue :=
  let size := q.size.toNat
  let used := ringDist size q.rdLap q.rdOfs q.wrLap q.wrOfs
  let ok := decide (ofs < size) && ofs % 32 == 0 && (lap != q.rdLap || decide (q.rdOfs ≤ ofs))
  let d := ringDist size q.rdLap q.rdOfs lap ofs
  if ok && decide (d ≤ used) then
    some { q with rdLap := lap, rdOfs := ofs, recs := q.recs.filter fun r => decide (d ≤ ringDist size q.rdLap q.rdOfs r.1 r.2) }
  else none

/-- RING_RD_WRITE (R291). -/
def execRingRdWrite (t k : Nat) (src : QSrc) (lap : Bool) (ofs : Nat) (s : State) : Host.Outcome State Fault Refusal :=
  match src with
  | .msg tag => msgAct t 0 (.ringRdWrite t k src lap ofs) s fun s =>
      s.msgForm t 4 tag (bytesOf 64 ((b2n lap * 2 ^ 31 + ofs) * 2 ^ 128 + (msgHdr 4 k 0 tag).toNat)) fun s =>
        if k < 16 ∨ k ≥ 32 then (s, nBounds)
        else
          match (s.queue t k).advance lap ofs with
          | some q => (s.modQueue t k fun _ => q, 0)
          | none => (s, nError)
  | .host _ m => atTile t s fun s =>
      if (s.stop t).q.sel = k ∧ regData m = BitVec.ofBool lap ++ BitVec.ofNat 31 ofs then
        stopWrite t 0x61C m s fun s =>
          if k < 16 then (s, rError)
          else
            match (s.queue t k).advance lap ofs with
            | some q => (s.modQueue t k fun _ => q, rOk)
            | none => (s, rError)
      else s

/-! ## Sending -/

/-- Fields of a MSG request's header (R586). -/
def mqOp (h : BitVec 128) : Nat := (h.extractLsb' 124 4).toNat
def mqQueue (h : BitVec 128) : Nat := (h.extractLsb' 119 5).toNat
def mqLock (h : BitVec 128) : BitVec 6 := h.extractLsb' 110 6
def mqRank (h : BitVec 128) : Nat := (h.extractLsb' 90 20).toNat
def mqTag (h : BitVec 128) : BitVec 4 := h.extractLsb' 35 4

/-- The bytes of a MSG request as its beat holds them (R586). -/
def mqBytes (r : MsgReq) : List Byte := bytesOf 16 r.hdr.toNat ++ slice r.payload 0 48

/-- A MSG request that is sent over the C-plane: a repeated tag is answered ERROR, what breaks R79, R84 or R406 is answered
BOUNDS, and `f` gives the message to the rank's tile. A request of another `OP` is another command's. -/
def State.msgSendForm (s : State) (t op : Nat) (r : MsgReq) (ok : Bool) (f : CHdr → CReq) : State :=
  if mqOp r.hdr ≠ op then s
  else
    let s := s.msgSeen t (mqBytes r)
    let tag := mqTag r.hdr
    if s.tagBusy t tag then s.msgr t tag op nError 0 0 0
    else
      match s.tilePan t with
      | none => s.msgr t tag op nBounds 0 0 0
      | some p =>
        match p.rank (mqRank r.hdr) with
        | none => s.msgr t tag op nBounds 0 0 0
        | some (n, u) =>
          if !ok then s.msgr t tag op nBounds 0 0 0
          else
            let h : CHdr := { (default : CHdr) with
              pan := BitVec.ofNat 8 p.id, stile := BitVec.ofNat 9 t, snode := BitVec.ofNat 12 s.node, dtile := BitVec.ofNat 9 u,
              dnode := BitVec.ofNat 12 n, arg := BitVec.ofNat 32 (p.rankOf s.node t) }
            (s.modCr t fun c => { c with reqs := c.reqs ++ [{ f h with op := op, tag := some tag }] }).cIssue t

/-- MSG_QSEND (R586). -/
def execMsgQsend (t : Nat) (r : MsgReq) (s : State) : Host.Outcome State Fault Refusal :=
  msgAct t 0 (.msgQsend t r) s fun s =>
    let n := (r.hdr.extractLsb' 72 6).toNat
    s.msgSendForm t 5 r (decide (mqQueue r.hdr < 16 ∧ 1 ≤ n ∧ n ≤ 48)) fun h => { (default : CReq) with
      msg := { hdr := { h with
                 mkind := 1, index := BitVec.ofNat 6 (mqQueue r.hdr), epoch := r.hdr.extractLsb' 78 8, alive := r.hdr.extractLsb' 86 4,
                 plen := BitVec.ofNat 6 n }
               data := slice r.payload 0 n } }

end Sys2Proof.Machine
end

