-- ==== Sys2Proof/Machine/Locks.lean ====
section
/-! DEFINITION. Locks: the table's decisions, orphaning, and the SI's acquires and releases (R293 to R297). -/

namespace Sys2Proof.Machine

/-- The lock table of the stop is changed by `f`. -/
def State.modLk (s : State) (t : Nat) (f : LockTab → LockTab) : State := s.modStop t fun st => { st with lk := f st.lk }

/-- Lock `k` of a stop. -/
def State.lock (s : State) (t k : Nat) : Lock := Tab.get Lock.init (s.stop t).lk.locks k

/-- Lock `k` of a stop becomes `l`. -/
def State.setLock (s : State) (t k : Nat) (l : Lock) : State := s.modLk t fun b => { b with locks := b.locks.set k l }

/-- Lock status codes (R294). -/
def lsGranted : Nat := 0
def lsOrphanGranted : Nat := 1
def lsLost : Nat := 2
def lsReleased : Nat := 3
def lsNotOwner : Nat := 4

/-- An acquire by a sender (R294): the lock after it and the status. -/
def Lock.acquire (l : Lock) (node tile : Nat) (rank : BitVec 20) : Lock × Nat :=
  match l.state with
  | 0 => ({ l with state := 1, node := node, tile := tile, rank := rank, orph := false }, lsGranted)
  | 2 => ({ l with state := 1, node := node, tile := tile, rank := rank, orph := true }, lsOrphanGranted)
  | _ => if l.node = node ∧ l.tile = tile then (l, if l.orph then lsOrphanGranted else lsGranted) else (l, lsLost)

/-- A release by a sender (R294): the lock after it and the status. -/
def Lock.release (l : Lock) (node tile : Nat) (gen : BitVec 16) (orph : Bool) : Lock × Nat :=
  if l.state = 1 ∧ l.node = node ∧ l.tile = tile ∧ l.gen = gen then
    ({ l with state := if orph then 2 else 0, node := if orph then node else 0, tile := if orph then tile else 0, orph := false, last := some (node, tile, gen) },
      lsReleased)
  else if l.state ≠ 1 ∧ l.last = some (node, tile, gen) then (l, lsReleased)
  else (l, lsNotOwner)

/-- A lock whose owner is lost (R296). -/
def Lock.orphan (l : Lock) : Lock := { l with state := 2, gen := l.gen + 1 }

/-- What STOP_LOCK_CNT counts of an answer (R306). -/
def LockTab.count (b : LockTab) (st : Nat) : LockTab :=
  if st = lsGranted then { b with grant := inc8 b.grant }
  else if st = lsOrphanGranted then { b with ogrant := inc8 b.ogrant }
  else if st = lsLost then { b with lost := inc8 b.lost } else b

/-- The LOCK_ANS to a request (R275, R294). -/
def State.lockAnswer (s : State) (t : Nat) (h : CHdr) (gen : BitVec 16) (status code : Nat) : State :=
  s.cAnswer t h 5 0 (gen ++ (0 : BitVec 8) ++ BitVec.ofNat 4 status ++ BitVec.ofNat 4 code)

/-- A lock request at a table (R294): rows 1 to 3 of R280 first. -/
def State.lockForm (s : State) (t : Nat) (m : CMsg) (f : Lock → Lock × Nat) : State :=
  let k := m.hdr.index.toNat
  match s.cRows t uLock m.hdr ((s.lock t k).state != 3) with
  | (s1, 0) =>
    let r := f (s1.lock t k)
    ((s1.setLock t k r.1).modLk t fun b => b.count r.2).lockAnswer t m.hdr r.1.gen r.2 0
  | (s1, c) => s1.lockAnswer t m.hdr (s1.lock t k).gen 0 c

/-- LOCK_ACQ_ARRIVE (R294). -/
def execLockAcqArrive (t : Nat) (m : CMsg) (s : State) : Host.Outcome State Fault Refusal :=
  atTile t s fun s =>
    if isKind m 3 then s.lockForm t m fun l => l.acquire m.hdr.snode.toNat m.hdr.stile.toNat (m.hdr.arg.extractLsb' 0 20) else s

/-- LOCK_REL_ARRIVE (R294). -/
def execLockRelArrive (t : Nat) (m : CMsg) (s : State) : Host.Outcome State Fault Refusal :=
  atTile t s fun s =>
    if isKind m 4 then
      s.lockForm t m fun l => l.release m.hdr.snode.toNat m.hdr.stile.toNat (m.hdr.arg.extractLsb' 0 16) (m.hdr.arg.getLsbD 16)
    else s

/-! ## Orphaning (R296) -/

/-- A table orphans every lock whose owner meets `p`; each is a lock event (R306, R597). -/
def State.orphanAt (s : State) (t : Nat) (p : Lock → Bool) : State :=
  let hit := (s.stop t).lk.locks.filter fun e => e.2.state == 1 && p e.2
  if hit.isEmpty then s
  else
    (s.modLk t fun b => { b with
      locks := b.locks.map fun e => if e.2.state == 1 && p e.2 then (e.1, e.2.orphan) else e
      orphaned := add8 b.orphaned hit.length }).qcEvent t

/-- The argument of a TILE_LOST (R275). -/
def lostArg (node tile : Nat) : BitVec 32 := (0 : BitVec 11) ++ BitVec.ofNat 12 node ++ BitVec.ofNat 9 tile

/-- A TILE_LOST goes to every stop of the own die (R296). -/
def State.lostHere (s : State) (t node tile : Nat) : State :=
  s.tiles.foldl (fun s u => s.cSend t (s.blockMsg t 8 s.node u (lostArg node tile) [])) s

/-- The ring tile of another node at which a TILE_LOST enters it: the memory-service tile that NODES or NODEMAP records of it
(DEDUCED, log entry 34). -/
def State.ringTileOf (s : State) (node : Nat) : Nat :=
  (((s.img.act.nodes ++ s.img.act.nodemap).find? fun r => r.node == node).map (·.mtile)).getD 0

/-- The block sends TILE_LOST for a tile of this die (R296): to its own die, and to the other nodes of the tile's pan; from the tile's own
stop, or from the control port's where its router is fenced. -/
def State.tileLost (s : State) (t : Nat) : State :=
  let others := match s.tilePan t with | some p => p.nodes.filter (· != s.node) | none => []
  let u := if (s.stop t).ro.routerFenced then ctlTile else t
  others.foldl (fun s n => s.cSend u (s.blockMsg u 8 n (s.ringTileOf n) (lostArg s.node t) [])) (s.lostHere u s.node t)

/-- Whether an owner is the one that a TILE_LOST names: 0x1FF is every tile of the node (R296, R381). -/
def Lock.owned (l : Lock) (node tile : Nat) : Bool := l.node == node && (tile == 0x1FF || l.tile == tile)

/-- TILE_LOST_RECEIVED (R296): the named owner's locks are orphaned; one from another node is forwarded to the die. -/
def execTileLostReceived (t : Nat) (m : CMsg) (s : State) : Host.Outcome State Fault Refusal :=
  atTile t s fun s =>
    if isKind m 8 then
      let node := (m.hdr.arg.extractLsb' 9 12).toNat
      let tile := (m.hdr.arg.extractLsb' 0 9).toNat
      if m.hdr.snode.toNat = s.node then s.orphanAt t fun l => l.owned node tile else s.lostHere t node tile
    else s

/-! ## The SI's side -/

/-- MSG_LOCK_ACQ (R586): its limit counts from its entry. -/
def execMsgLockAcq (t : Nat) (r : MsgReq) (s : State) : Host.Outcome State Fault Refusal :=
  msgAct t 0 (.msgLockAcq t r) s fun s =>
    let lim := (r.hdr.extractLsb' 56 16).toNat
    s.msgSendForm t 6 r (decide (1 ≤ lim)) fun h => { (default : CReq) with
      msg := { hdr := { h with mkind := 3, index := mqLock r.hdr }, data := [] }, limit := some (s.ft + lim * usFc) }

/-- MSG_LOCK_REL (R586): the grant it gives up is held no longer. -/
def execMsgLockRel (t : Nat) (r : MsgReq) (s : State) : Host.Outcome State Fault Refusal :=
  msgAct t 0 (.msgLockRel t r) s fun s =>
    let gen : BitVec 16 := r.hdr.extractLsb' 40 16
    s.msgSendForm t 7 r true fun h => { (default : CReq) with
      msg := { hdr := { h with mkind := 4, index := mqLock r.hdr, arg := (0 : BitVec 15) ++ r.hdr.extractLsb' 39 1 ++ gen }, data := [] } }

/-- A grant for no acquire in flight is released at once, unless the SI holds it (R297). -/
def State.strayGrant (s : State) (t : Nat) (m : CMsg) (gen : BitVec 16) (orph : Bool) : State :=
  let g : HeldLock := { lock := m.hdr.index, node := m.hdr.snode, tile := m.hdr.stile, gen := gen }
  if (s.stop t).cr.held.contains g then s
  else
    let h : CHdr := { (default : CHdr) with
      pan := m.hdr.pan, stile := BitVec.ofNat 9 t, snode := BitVec.ofNat 12 s.node, dtile := m.hdr.stile, dnode := m.hdr.snode,
      mkind := 4, index := m.hdr.index, arg := (0 : BitVec 15) ++ BitVec.ofBool orph ++ gen }
    (s.modCr t fun c => { c with reqs := c.reqs ++ [{ (default : CReq) with op := 7, tag := none, msg := { hdr := h, data := [] } }] }).cIssue t

/-- A LOCK_ANS with code 0 to an acquire (R294, R295). -/
def State.acqAnswered (s : State) (t : Nat) (r : CReq) (m : CMsg) (status : Nat) (gen : BitVec 16) : State :=
  if status = lsLost then
    let k := r.losts + 1
    s.cSet t r { r with losts := k, issued := false, deadline := none, backoff := none, tries := 0, notReady := 0, gen := gen, lostDue := some (s.ft + backoffFc k) }
  else
    (s.modCr t fun c => { c with held := c.held ++ [{ lock := m.hdr.index, node := m.hdr.snode, tile := m.hdr.stile, gen := gen }] }).cEnd t r 0 0 status gen

/-- LOCK_ANS_RECEIVED (R297). -/
def execLockAnsReceived (t : Nat) (m : CMsg) (s : State) : Host.Outcome State Fault Refusal :=
  atTile t s fun s =>
    if isKind m 5 then
      let code := (m.hdr.arg.extractLsb' 0 4).toNat
      let status := (m.hdr.arg.extractLsb' 4 4).toNat
      let gen : BitVec 16 := m.hdr.arg.extractLsb' 16 16
      match (s.stop t).cr.reqs.find? (fun r => (r.op == 6 || r.op == 7) && r.answers m) with
      | none => if code = 0 ∧ status ≤ lsOrphanGranted then s.strayGrant t m gen (status == lsOrphanGranted) else s
      | some r =>
        if code ≠ 0 then s.cRefused t r code 0
        else if r.op = 6 then s.acqAnswered t r m status gen
        else
          (s.modCr t fun c => { c with held := c.held.filter fun g => !(g.lock == m.hdr.index && g.node == m.hdr.snode && g.tile == m.hdr.stile && g.gen == r.msg.hdr.arg.extractLsb' 0 16) }).cEnd t r 0 0 status gen
    else s

/-- The acquire of a tag at an SI. -/
def State.acqOf (s : State) (t tag : Nat) : Option CReq :=
  (s.stop t).cr.reqs.find? fun r => r.op == 6 && r.tag == some (BitVec.ofNat 4 tag)

/-- LOCK_BACKOFF_EXPIRE (R295). -/
def execLockBackoffExpire (t tag : Nat) (s : State) : Host.Outcome State Fault Refusal :=
  atTile t s fun s =>
    match s.acqOf t tag with
    | some r =>
      match r.lostDue with
      | some d => if d ≤ s.ft then (s.cSet t r { r with lostDue := none }).cIssue t else s
      | none => s
    | none => s

/-- LOCK_LIMIT_EXPIRE (R295). -/
def execLockLimitExpire (t tag : Nat) (s : State) : Host.Outcome State Fault Refusal :=
  atTile t s fun s =>
    match s.acqOf t tag with
    | some r =>
      match r.limit with
      | some d => if d ≤ s.ft then s.cEnd t r 0 0 lsLost r.gen else s
      | none => s
    | none => s

end Sys2Proof.Machine
end

