-- ==== Sys2Proof/Machine/Combine.lean ====
section
/-! DEFINITION. Combine units: groups and plans as a tile reads them, claims, combining, partials, bypass and the failures of
the store and the lanes (R199 to R221, R228 to R235, R253, R277). -/

namespace Sys2Proof.Machine

/-! ## Groups and plans -/

/-- The combine unit of the tile is changed by `f`. -/
def State.modCu (s : State) (t : Nat) (f : Cu → Cu) : State := s.modStop t fun st => { st with cu := f st.cu }

/-- The collective side of the SI is changed by `f`. -/
def State.modCo (s : State) (t : Nat) (f : Coll → Coll) : State := s.modStop t fun st => { st with co := f st.co }

/-- The group of a collective id (R238). -/
def State.groupOf (s : State) (coll : Nat) : Option Group := s.img.act.groups.find? fun g => g.id == coll / 64

/-- The launch and tally segments (R240, R241). -/
def segLaunch : Nat := 0xFFFFF
def segTally : Nat := 0xFFFFE

/-- The stripe of a segment (R230). -/
def Group.stripeOf (g : Group) (seg : Nat) : Nat := if seg ≥ segTally then 0 else seg % max 1 g.nstr

/-- The plan of a group in force at a tile (R233, R260). -/
def State.planAt (s : State) (t : Nat) (g : Group) : Plan :=
  nth default g.plans (Tab.get 0 (s.stop t).cu.plans g.id)

/-- The group root's plan node in a stripe. -/
def Plan.rootOf (p : Plan) (stripe : Nat) : Option PlanNode := p.nodes.find? fun n => n.root && n.stripe == stripe

/-- A plan node by number and stripe. -/
def Plan.nodeOf (p : Plan) (pnode stripe : Nat) : Option PlanNode := p.nodes.find? fun n => n.pnode == pnode && n.stripe == stripe

/-- The plan node that takes a member's raw contribution, with the member's child index there: the leaf map (R231). -/
def Plan.leafOf (p : Plan) (m stripe : Nat) : Option (PlanNode × Nat) :=
  p.nodes.findSome? fun n =>
    if n.stripe == stripe then
      let i := n.children.idxOf { member := true, index := m }
      if i < n.children.length then some (n, i) else none
    else none

/-- The chip position and board of a node, from NODES and otherwise NODEMAP (R228). -/
def State.nodeRec (s : State) (node : Nat) : Option NodeRec :=
  ((s.img.act.nodes ++ s.img.act.nodemap).find? fun r => r.node == node)

/-- Whether a rank of the group's pan is a member (R228). -/
def State.isMember (s : State) (g : Group) (p : PanRec) (r : Nat) : Bool :=
  let i := r % p.tiles
  let x := p.x1 + 1 - p.x0
  let inR (a : Nat × Nat) (v : Nat) : Bool := decide (a.1 ≤ v ∧ v ≤ a.2)
  let axes := match s.nodeRec (nth 0 p.nodes (r / p.tiles)) with
    | some n => inR g.cp n.pos && inR g.bd n.board
    | none => g.cp == (0, 15) && g.bd == (0, 255)
  inR g.tx (i % x) && inR g.ty (i / x) && axes

/-- The members' ranks in ascending order (R229). -/
def State.members (s : State) (g : Group) : List Nat :=
  match s.pan? g.pan with
  | some p => (List.range (p.nodes.length * p.tiles)).filter (s.isMember g p)
  | none => []

/-- The group's context of a segment's arithmetic (R178, R240, R241). -/
def State.segCtx (s : State) (g : Group) (coll seg : Nat) : SegCtx :=
  { coll := coll, seg := seg, fmts := s.img.act.formats
    seed := if seg ≥ segTally then 0 else g.seed
    acw := Acw.ofWord (if seg = segLaunch then 0x8600 else if seg = segTally then 0x8000 else g.acw) }

/-- The context of the segment that a slot holds: what it was claimed with (R171, R178). -/
def Slot.ctx (x : Slot) : SegCtx := { coll := x.key.coll, seg := x.key.seg, fmts := x.fmts, seed := x.seed, acw := Acw.ofWord x.acw }

/-- The control word of a segment. -/
def Group.acwOf (g : Group) (seg : Nat) : BitVec 16 := if seg = segLaunch then 0x8600 else if seg = segTally then 0x8000 else g.acw

/-! ## The store -/

/-- Slots of a build's store (R203). -/
def nSlots : Build → Nat
  | .hfE => 32
  | .hfS => 256

/-- A slot of a tile's store. -/
def State.slot (s : State) (t k : Nat) : Slot := Tab.get default (s.stop t).cu.slots k

/-- A slot of a tile's store is changed by `f`. -/
def State.modSlot (s : State) (t k : Nat) (f : Slot → Slot) : State :=
  s.modCu t fun c => { c with slots := c.slots.set k (f (Tab.get default c.slots k)) }

/-- RSV, HOLDMAX and CTHR (R222). -/
def State.cuCfg (s : State) (t : Nat) : Nat × Nat × Nat :=
  (s.stop t).cu.cfg.getD (match s.build with | .hfE => (2, 4, 16) | .hfS => (16, 32, 16))

/-- Slots that may be claimed: FREE, in no bank that retires, lowest first (R204, R220). A slot of a retiring bank, which takes no claim,
counts as no FREE slot in R205 either (DEDUCED, log entry 708). -/
def State.freeSlots (s : State) (t : Nat) : List Nat :=
  (List.range (nSlots s.build)).filter fun k => (s.slot t k).state == 0 && !(s.stop t).cu.retiring.contains (k / 4)

/-- Slots that a claim sees: a claim that is no proxy's sees one only while more than the reserve are FREE (R205). It takes the lowest
(DESIGN CHOICE, log entry 701). -/
def State.claimable (s : State) (t : Nat) (rootc : Bool) : List Nat :=
  let l := s.freeSlots t
  if rootc then l else l.take (l.length - (s.cuCfg t).1)

/-- The head slot of a key: HEAD, SENDING or HELD (R211, R260). -/
def State.headOf (s : State) (t : Nat) (k : SegKey) : Option Nat :=
  (List.range (nSlots s.build)).find? fun i => let x := s.slot t i; (x.state == 1 || x.state == 3 || x.state == 4) && x.key == k

/-- The hold slots of a key. -/
def State.holdsOf (s : State) (t : Nat) (k : SegKey) : List Nat :=
  (List.range (nSlots s.build)).filter fun i => let x := s.slot t i; x.state == 2 && x.key == k

/-- A slot becomes FREE. -/
def State.freeSlot (s : State) (t k : Nat) : State := s.modSlot t k fun _ => default

/-- A freed key enters the done record (R214). -/
def State.addDone (s : State) (t : Nat) (k : SegKey) : State :=
  s.modCu t fun c => { c with done := ((k, s.ft + msFc) :: c.done).take 256 }

/-! ## Answers to contributions -/

/-- ROOTC, PNODE and SAF of a combine tag (R207). -/
def tagRootc (h : THdr) : Bool := h.ctag.getLsbD 23
def tagPnode (h : THdr) : Nat := (h.ctag.extractLsb' 0 12).toNat
def tagSaf (h : THdr) : BitVec 8 := h.ctag.extractLsb' 24 8

/-- A combine tag (R207). -/
def mkTag (saf : BitVec 8) (rootc : Bool) (pnode : Nat) : Word := saf ++ BitVec.ofBool rootc ++ (0 : BitVec 11) ++ BitVec.ofNat 12 pnode

/-- The key of a contribution. -/
def segKey (h : THdr) : SegKey := { coll := h.coll.toNat, seg := h.seg.toNat, pnode := tagPnode h }

/-- The CU answers a contribution, or one piece of it (R208, R277): on the T-plane, or with RED_ANS on the small path. -/
def State.cuAnswer (s : State) (t : Nat) (small : Bool) (h : THdr) (code : Nat) (whole : Bool) : State :=
  if small then
    s.cAnswer t { (default : CHdr) with mseq := h.mseq, pan := h.pan, stile := h.stile, snode := h.snode } 7 0
      (BitVec.ofNat 32 (h.pidx.toNat % 256 * 32 + b2n whole * 16 + code))
  else if code = 0 then s.ack t h
  else if whole then s.nack t h code
  else s

/-- A NACK BUSY (R208, R223). -/
def State.cuBusy (s : State) (t : Nat) (small : Bool) (h : THdr) : State :=
  (s.modCu t fun c => { c with nbusy := inc8 c.nbusy }).cuAnswer t small h nBusy true

/-! ## Control records -/

/-- The 16 bytes of a control record (R209). -/
def ctlRec (kind arg rank : Nat) (saf : BitVec 8) : List Byte :=
  ctlBytes { arg := BitVec.ofNat 21 arg, rank := BitVec.ofNat 20 rank, saf := saf, kind := BitVec.ofNat 8 kind }

/-- The header of a collective's packet from a tile (R80, R102, R206). -/
def State.collHdr (s : State) (t : Nat) (type : BitVec 4) (vc : BitVec 2) (pan coll seg : Nat) (sig tag : Word) : THdr :=
  { (default : THdr) with
    stile := BitVec.ofNat 9 t, snode := BitVec.ofNat 12 s.node, pan := BitVec.ofNat 8 pan, type := type, vc := vc,
    coll := BitVec.ofNat 16 coll, seg := BitVec.ofNat 20 seg, sig := sig, ctag := tag }

/-- A control record towards a root or deputy, on VC2 (R209, R259). -/
def State.ctlSend (s : State) (t pan coll : Nat) (sig : Word) (dst : Nat × Nat) (toDeputy : Bool) (data : List Byte) : State :=
  let h := s.collHdr t tCtl 2 pan coll 0 sig 0
  s.addRed t { (default : Msg) with
    hdr := { h with dnode := BitVec.ofNat 12 dst.1, dtile := BitVec.ofNat 9 dst.2 }, owner := .control coll toDeputy, len := 16, data := data }

/-- A record goes to the group root and to the deputy (R253, R257), by the plan in force at the tile. -/
def State.ctlBoth (s : State) (t : Nat) (g : Group) (coll stripe : Nat) (sig : Word) (data : List Byte) : State :=
  let p := s.planAt t g
  let s1 := match p.rootOf stripe with
    | some r => s.ctlSend t g.pan coll sig (r.node, r.tile) false data
    | none => s
  match p.deputy with
  | some d => s1.ctlSend t g.pan coll sig d true data
  | none => s1

/-- A REPLAY cause record (R257, R259). -/
def causeRec (cause pnode rank : Nat) : List Byte := ctlRec 5 (cause * 2 ^ 17 + pnode) rank 0

/-- A BYPASS record answers a contribution (R216): it names the group root, and its MSEQ is of the reduction counter (R206). -/
def State.cuBypass (s : State) (t : Nat) (p : Plan) (stripe : Nat) (h : THdr) : State :=
  let r := (p.rootOf stripe).getD default
  let a := s.ansHdr t h true (ansWord false true 0 h.mseq.toNat 0)
  let q := (s.stop t).si.rseq
  (s.modSi t fun si => { si with rseq := q + 1 }).inject t
    { hdr := { a with type := tCtl, vc := 3, route := 0, plen := 16, mseq := q, coll := h.coll, seg := h.seg, child := h.child, sig := h.sig }
      data := ctlRec 1 (r.node * 2 ^ 9 + r.tile) 0 0 }

/-! ## Root records and what a root sends down -/

/-- The root record of a collective at a tile. -/
def State.rootOf (s : State) (t coll : Nat) (sig : Word) : Option CollRoot :=
  (s.stop t).co.roots.find? fun r => r.coll == coll && r.sig == sig

/-- A root record is changed by `f`. -/
def State.modRoot (s : State) (t coll : Nat) (f : CollRoot → CollRoot) : State :=
  s.modCo t fun c => { c with roots := c.roots.map fun r => if r.coll == coll then f r else r }

/-- The root record of a COLL at a tile, whatever its signature (DEDUCED, log entry 60). -/
def State.rootAt (s : State) (t coll : Nat) : Option CollRoot := (s.stop t).co.roots.find? fun r => r.coll == coll

/-- The result tree's or the control tree's collectors, as the root's tile has them (R209, R234). -/
def State.treeNeed (s : State) (t tree : Nat) : Nat := trNodes (s.treeEntry t tree)

/-- A message down a tree of a collective from the root (R209, R249, R259): answered as MCAST is. -/
def State.downTree (s : State) (t : Nat) (r : CollRoot) (type : BitVec 4) (tree seg : Nat) (saf : BitVec 8) (fo : BitVec 4 × BitVec 4) (what : Down)
    (data : List Byte) : State :=
  let h := s.collHdr t type 3 r.pan r.coll seg r.sig (mkTag saf false 0)
  s.addRed t { (default : Msg) with
    hdr := { h with fmt := fo.1, op := fo.2, dmode := 2, dnode := BitVec.ofNat 12 s.node, w6 := BitVec.ofNat 64 tree }, owner := .down r.coll what,
    len := data.length, data := data, mc := some (Mcast.start (s.treeNeed t tree)) }

/-- A control record on the control tree (R259). -/
def State.downCtl (s : State) (t : Nat) (r : CollRoot) (what : Down) (data : List Byte) : State :=
  match s.groupOf r.coll with
  | some g => s.downTree t r tCtl (s.planAt t g).ctlTree 0 0 (0, 0) what data
  | none => s

/-- A collective ends with ABORT (R250, R254, R256, R258, R264). -/
def State.rootAbort (s : State) (t : Nat) (r : CollRoot) (status rank : Nat) : State :=
  (s.modRoot t r.coll fun x => { x with state := 4, due := some (s.ft + msFc) }).downCtl t r .abort (ctlRec 4 (status * 2 ^ 17) rank 0)

/-- The lowest member rank in a plan node's subtree; `fuel` bounds the tree (R254). -/
def lowestMember (p : Plan) (stripe : Nat) : Nat → Child → Option Nat
  | 0, _ => none
  | f + 1, c =>
    if c.member then some c.index
    else
      match p.nodeOf c.index stripe with
      | none => none
      | some n => n.children.foldl (fun b x => match b, lowestMember p stripe f x with | some a, some y => some (min a y) | none, y => y | a, none => a) none

/-! ## Claims -/

/-- What R211 does with the head of a contribution. -/
inductive Claim where
  | dup
  | combine (head : Nat)
  | hold (head : Nat) (slot : Nat)
  | busy
  | bypass
  | claim (head : Nat) (slot : Option Nat)
  | loss
  deriving DecidableEq, Repr

/-- The rows of R211. Row 6 is for no claim that is a proxy's, which is never bypassed again (R217). -/
def State.claimOf (s : State) (t : Nat) (h : THdr) : Claim :=
  let k := segKey h
  let ch := h.child.toNat
  let cu := (s.stop t).cu
  let free := s.claimable t (tagRootc h)
  if cu.done.any fun d => d.1 == k && decide (s.ft < d.2) then .dup
  else
    match s.headOf t k with
    | some i =>
      let x := s.slot t i
      if x.mask.testBit ch then .dup
      else if ch = x.next then .combine i
      else
        match (s.holdsOf t k).find? fun j => (s.slot t j).child == ch, free with
        | some j, _ => .hold i j
        | none, f :: _ => if (s.holdsOf t k).length < (s.cuCfg t).2.1 then .hold i f else .busy
        | none, [] => .busy
    | none =>
      if !tagRootc h && cu.pending.any fun e => e.key == k && e.byp then .bypass
      else
        match free, ch with
        | f :: _, 0 => .claim f none
        | f :: g :: _, _ => .claim f (some g)
        | _, _ => .loss

/-- A loss is counted in the pending table (R216); at 8 the key is marked BYPASS. Until a BYPASS has been sent, the 1 ms after which the
entry is deleted runs from the last loss (DESIGN CHOICE, log entry 709). -/
def State.addLoss (s : State) (t : Nat) (h : THdr) : State :=
  let k := segKey h
  let cu := (s.stop t).cu
  match cu.pending.find? fun e => e.key == k with
  | some e =>
    let n := e.losses + 1
    s.modCu t fun c => { c with
      nbyp := if n = 8 then inc8 c.nbyp else c.nbyp
      pending := replaceFirst (· == e) { e with losses := n, byp := decide (n ≥ 8), expires := s.ft + msFc } c.pending }
  | none =>
    if cu.pending.length ≥ (match s.build with | .hfE => 32 | .hfS => 64) then s
    else s.modCu t fun c => { c with pending := c.pending ++ [{ key := k, losses := 1, byp := false, sent := [], expires := s.ft + msFc }] }

/-- A pending entry after a BYPASS has been sent to child `ch` (R216): it ends when every child has had one. -/
def Pending.note (e : Pending) (nch ch ft : Nat) : Option Pending :=
  let sent := if e.sent.contains ch then e.sent else e.sent ++ [ch]
  if sent.length ≥ nch then none else some { e with sent := sent, expires := ft + msFc }

/-- A BYPASS has been sent to a child. -/
def State.noteBypass (s : State) (t nch : Nat) (h : THdr) : State :=
  let f (e : Pending) : Option Pending := if e.key == segKey h then e.note nch h.child.toNat s.ft else some e
  s.modCu t fun c => { c with pending := c.pending.filterMap f }

/-! ## Combining -/

/-- The plan node that a contribution names at this tile, with its group and plan (R210, R217). -/
def State.nodeFor (s : State) (t : Nat) (h : THdr) : Option (Group × Plan × PlanNode) :=
  match s.groupOf h.coll.toNat with
  | none => none
  | some g =>
    let p := s.planAt t g
    let stripe := g.stripeOf h.seg.toNat
    match p.nodeOf (tagPnode h) stripe with
    | none => none
    | some n =>
      let here := match (if tagRootc h then p.rootOf stripe else some n) with
        | some r => r.node == s.node && r.tile == t
        | none => false
      if here && decide (h.child.toNat < n.children.length) then some (g, p, n) else none

/-- The first packet of any segment of a collective at the root tile opens its record (R250); `none` where no record is free. A packet
of another signature opens none beside a live one: what R211 makes of it is a difference at the root's own CU (R254). -/
def State.openRoot (s : State) (t : Nat) (g : Group) (p : Plan) (h : THdr) : Option State :=
  if (match s.rootAt t h.coll.toNat with | some r => r.sig == h.sig || decide (r.state < 3) | none => false) then some s
  else if (s.rootAt t h.coll.toNat).isSome then none
  else if (s.stop t).co.roots.length ≥ 16 then none
  else some (s.modCo t fun c => { c with roots := c.roots ++
    [{ (default : CollRoot) with
       coll := h.coll.toNat, sig := h.sig, group := g.id, pan := g.pan, gtl := s.ft + g.gtl * usFc, deputy := p.deputy, progressAt := s.ft }] })

/-- A partial leaves for the node's parent (R213), unless the CU sends nothing more for its collective (R253). Its `OP` is the control
word's, whose `BLK` stays 1 in carry mode too, where the payload is not blocked (R206 over R177; DEDUCED, log entry 710). -/
def State.sendPartial (s : State) (t k : Nat) (g : Group) (p : Plan) (n : PlanNode) : State :=
  let x := s.slot t k
  let c := x.ctx
  let h := s.collHdr t tRedUp 2 g.pan x.key.coll x.key.seg x.sig (mkTag x.saf false n.parent)
  match p.nodeOf n.parent n.stripe with
  | none => s
  | some q =>
    if (s.stop t).cu.stopped.contains (x.key.coll, x.sig) then s
    else s.addRed t { (default : Msg) with
      hdr := { h with
        dnode := BitVec.ofNat 12 q.node, dtile := BitVec.ofNat 9 q.tile, child := BitVec.ofNat 8 n.childIdx
        fmt := BitVec.ofNat 4 (c.acw.segIdx c.fmts), op := BitVec.ofNat 4 c.acw.op4 }
      owner := .partialOf k, len := x.result.length, data := x.result, small := x.small }

/-- A data, launch or tally segment is COMBINED at the root (R248, R250). -/
def State.rootCombined (s : State) (t : Nat) (key : SegKey) (sig : Word) (saf : BitVec 8) (res : List Byte) : State :=
  let e (i : Nat) : Int := (BitVec.ofNat 32 (leAt res (4 * i) 4)).toInt
  if key.seg = segLaunch then
    s.modRoot t key.coll fun r => if r.sig == sig then { r with launch := 1, nseg := leAt res 0 4, cop := leAt res 4 4 } else r
  else if key.seg = segTally then
    s.modRoot t key.coll fun r => if r.sig == sig then { r with tally := 2, tallyElems := (e 0, e 1) } else r
  else
    s.modRoot t key.coll fun r => if r.sig == sig then { r with segs := r.segs.set key.seg 1, saf := r.saf ||| saf } else r

/-- The node's last child is combined (R213): a partial for the parent, or at the group root a HELD result. -/
def State.nodeFinal (s : State) (t k : Nat) (g : Group) (p : Plan) (n : PlanNode) : State :=
  let x := s.slot t k
  let c := x.ctx
  match x.acc with
  | none => s
  | some a =>
    let r := c.finish a n.root g.nmem
    let saf := x.saf ||| r.2.byte
    let s1 := s.modSlot t k fun x => { x with state := if n.root then 4 else 3, saf := saf, result := r.1, acc := none, got := [] }
    if n.root then s1.rootCombined t x.key x.sig saf r.1 else s1.sendPartial t k g p n

/-- A member's weight (R186): the group's, which is 1.0 for each where it has the unit weights (R434). -/
def Group.weightOf (g : Group) (m : Nat) : Option Word := if g.weights.isEmpty then some 0x3F800000 else g.weights[m]?

/-- The due child's contribution is whole (R212): it joins the fold, its bit is set and the next child is due. -/
def State.childDone (s : State) (t k : Nat) (g : Group) (n : PlanNode) (h : THdr) (bs : List Byte) : State :=
  let x := s.slot t k
  let c := x.ctx
  let ch := nth default n.children h.child.toNat
  let w : Option Word := if ch.member then g.weightOf ch.index else none
  s.modSlot t k fun x => { x with
    acc := some (c.fold x.acc ch.member w h.fmt.toNat bs), mask := x.mask ||| 2 ^ h.child.toNat, saf := x.saf ||| tagSaf h
    next := x.next + 1, got := [], pidx := 0, part := 0 }

/-- Held children that have become due are combined from their hold slots (R212, step 5). -/
def State.combineHeld (s : State) (t k : Nat) (g : Group) (n : PlanNode) : Nat → State
  | 0 => s
  | f + 1 =>
    let x := s.slot t k
    match (s.holdsOf t x.key).find? fun j => (s.slot t j).child == x.next && (s.slot t j).whole with
    | none => s
    | some j =>
      let y := s.slot t j
      ((s.freeSlot t j).childDone t k g n y.hdr y.got).combineHeld t k g n f

/-- A packet of the due child enters the head slot `k` (R212); `kl` gives the payload flits that came before its KILL, whose elements stay
combined, so that a later copy brings only what is still missing. A piece of the small path that is discarded is answered (R277). -/
def State.takeDue (s : State) (t k : Nat) (small : Bool) (g : Group) (p : Plan) (n : PlanNode) (pk : Pkt) (kl : Option Nat) : State :=
  let x := s.slot t k
  let h := pk.hdr
  if h.pidx.toNat ≠ x.pidx then (if small then s.cuAnswer t small h nNotReady false else s)
  else
    let came := match kl with | some b => min h.plen.toNat (b * flitW s.build) | none => h.plen.toNat
    let got := x.got ++ slice pk.data x.part (came - x.part)
    if kl.isSome then s.modSlot t k fun x => { x with got := got, part := max x.part came, hdr := h }
    else if h.pidx.toNat + 1 < h.pcnt.toNat then s.modSlot t k fun x => { x with got := got, pidx := x.pidx + 1, part := 0, hdr := h }
    else
      let s1 := ((s.childDone t k g n h got).cuAnswer t small h 0 true).combineHeld t k g n 256
      if (s1.slot t k).next ≥ n.children.length then s1.nodeFinal t k g p n else s1

/-- A packet of a child that waits in hold slot `j`; the whole contribution is ACKed, and combined at once where its child has
become due meanwhile (R208, R211, R212). A packet that ends with KILL claims the slot and stores nothing. -/
def State.takeHold (s : State) (t k j : Nat) (small : Bool) (g : Group) (p : Plan) (n : PlanNode) (pk : Pkt) (kl : Option Nat) : State :=
  let h := pk.hdr
  let x := s.slot t j
  let pidx := if x.state = 2 then x.pidx else 0
  if h.pidx.toNat ≠ pidx then (if small then s.cuAnswer t small h nNotReady false else s)
  else
    let whole := decide (h.pcnt.toNat ≤ h.pidx.toNat + 1) && kl.isNone
    let head := s.slot t k
    let s1 := s.modSlot t j fun y => { (default : Slot) with
      state := 2, proxy := tagRootc h, key := segKey h, child := h.child.toNat, sig := h.sig, acw := head.acw, seed := head.seed, fmts := head.fmts
      hdr := h, small := small
      got := (if y.state = 2 then y.got else []) ++ (if kl.isSome then [] else slice pk.data 0 h.plen.toNat)
      pidx := if kl.isSome then pidx else pidx + 1, whole := whole }
    if whole then
      let s2 := ((s1.modSlot t k fun y => { y with mask := y.mask ||| 2 ^ h.child.toNat }).cuAnswer t small h 0 true).combineHeld t k g n 256
      if (s2.slot t k).next ≥ n.children.length then s2.nodeFinal t k g p n else s2
    else s1

/-- The hold slot that a child's contribution is being stored in is freed: the child is due, and its resend is combined (R211,
row 3). -/
def State.dropHold (s : State) (t : Nat) (k : SegKey) (child : Nat) : State :=
  match (s.holdsOf t k).find? fun j => (s.slot t j).child == child with
  | some j => s.freeSlot t j
  | none => s

/-- The rank that the root names for child `ch` of a plan node (R254): a partial is resolved to the lowest member rank of that child's
subtree under the current plan. -/
def State.rankOfChild (s : State) (g : Group) (p : Plan) (stripe : Nat) (ch : Child) : Nat :=
  match lowestMember p stripe 64 ch with
  | some m => nth 0 (s.members g) m
  | none => 0

/-- A signature that differs from the head slot's `sig` (R253): NACK MISMATCH, and a record to the root and the deputy, under the
collective's signature, which is the head slot's (R239, DEDUCED, log entry 60). The root acts at once on a difference at its own CU
(R254). -/
def State.mismatch (s : State) (t : Nat) (small : Bool) (g : Group) (p : Plan) (n : PlanNode) (sig : Word) (h : THdr) : State :=
  let ch := nth default n.children h.child.toNat
  let data := if ch.member then ctlRec 2 0 h.srank.toNat 0 else ctlRec 2 (2 ^ 20 + n.pnode * 2 ^ 8 + h.child.toNat) 0 0
  let s1 := (s.cuAnswer t small h nMismatch true).modCo t fun c => { c with mism := inc8 c.mism }
  let s2 := s1.ctlBoth t g h.coll.toNat (g.stripeOf h.seg.toNat) sig data
  match s2.rootAt t h.coll.toNat with
  | some r =>
    if r.state = 4 then s2 else s2.rootAbort t r 2 (if ch.member then h.srank.toNat else s2.rankOfChild g p n.stripe ch)
  | none => s2

/-- A contribution's payload is a whole number of elements, in whole blocks where it is blocked (R176, R179), as its last packet shows it. -/
def payloadOk (c : SegCtx) (member small : Bool) (h : THdr) : Bool :=
  let f := fmtOf c.fmts h.fmt.toNat
  let blk := if member then c.acw.blk else c.acw.segBlk
  let total := h.pidx.toNat * (if small then 32 else 2048) + h.plen.toNat
  h.pidx.toNat + 1 != h.pcnt.toNat || f.bytes blk (f.elems blk total) == total

/-- The check of R179 on a packet of a contribution, under the control word and formats of its segment; what breaks it is an invalid
header. -/
def contribOk (c : SegCtx) (acw : BitVec 16) (n : PlanNode) (small : Bool) (h : THdr) : Bool :=
  let ch := nth default n.children h.child.toNat
  h.op.toNat == c.acw.op4 && payloadOk c ch.member small h &&
  (if ch.member then acwOk c.fmts acw h.fmt.toNat 32 else h.fmt.toNat == c.acw.segIdx c.fmts)

/-- A contribution's packet 0 that R211 has placed. -/
def State.placed (s : State) (t : Nat) (small : Bool) (g : Group) (p : Plan) (n : PlanNode) (pk : Pkt) (kl : Option Nat) (c : Claim) : State :=
  let h := pk.hdr
  match c with
  | .dup => (s.modCu t fun c => { c with ndup := inc8 c.ndup }).cuAnswer t small h 0 true
  | .busy => s.cuBusy t small h
  | .loss => (s.addLoss t h).cuBusy t small h
  | .bypass => (s.noteBypass t n.children.length h).cuBypass t p n.stripe h
  | .combine k => if (s.slot t k).sig = h.sig then (s.dropHold t (segKey h) h.child.toNat).takeDue t k small g p n pk kl else s.mismatch t small g p n (s.slot t k).sig h
  | .hold k j => if (s.slot t k).sig = h.sig then s.takeHold t k j small g p n pk kl else s.mismatch t small g p n (s.slot t k).sig h
  | .claim k j =>
    let s1 := (s.modSlot t k fun _ => { (default : Slot) with
        state := 1, proxy := tagRootc h, key := segKey h, sig := h.sig, acw := g.acwOf h.seg.toNat, seed := (s.segCtx g h.coll.toNat h.seg.toNat).seed
        fmts := s.img.act.formats, small := small }).modCu t fun c =>
      { c with pending := c.pending.filter fun e => e.key != segKey h, nproxy := if tagRootc h then inc8 c.nproxy else c.nproxy }
    match j with
    | none => s1.takeDue t k small g p n pk kl
    | some j => s1.takeHold t k j small g p n pk kl

/-- Whether a contribution or record is of a collective in the ended list (R255). -/
def State.hasEnded (s : State) (t : Nat) (h : THdr) : Bool :=
  (s.stop t).cu.ended.any fun e => e.coll == h.coll.toNat && e.sig == h.sig && decide (s.ft < e.expires)

/-- A contribution that is refused with BOUNDS (R84, R210), counted in STOP_RXSTAT (R97). -/
def State.cuBounds (s : State) (t : Nat) (small : Bool) (h : THdr) : State :=
  (s.modSi t fun si => { si with bounds := inc8 si.bounds }).cuAnswer t small h nBounds true

/-- Whether the stripe's group root is hosted at this tile. -/
def State.rootHere (s : State) (t : Nat) (p : Plan) (stripe : Nat) : Bool :=
  match p.rootOf stripe with | some r => r.node == s.node && r.tile == t | none => false

/-- A root whose CU no longer combines is lost to every collective (R221, R257, cause 4): the record that opens is reported. -/
def State.openLost (s : State) (t : Nat) (g : Group) (p : Plan) (stripe : Nat) (h : THdr) : State :=
  match s.openRoot t g p h, p.rootOf stripe with
  | some s1, some r => if (s.rootAt t h.coll.toNat).isNone then s1.ctlBoth t g h.coll.toNat stripe h.sig (causeRec 4 r.pnode 0) else s
  | _, _ => s

/-- What a claim is checked against: the segment's slot, or the group record for a claim (R178, R211). -/
def State.claimCtx (s : State) (t : Nat) (g : Group) (h : THdr) (c : Claim) : SegCtx × BitVec 16 :=
  match c with
  | .combine k | .hold k _ => ((s.slot t k).ctx, (s.slot t k).acw)
  | _ => (s.segCtx g h.coll.toNat h.seg.toNat, g.acwOf h.seg.toNat)

/-- Whether a row of R211 combines or stores, and so checks first (R211). -/
def Claim.takes (c : Claim) : Bool :=
  match c with
  | .combine _ | .hold _ _ | .claim _ _ => true
  | _ => false

/-- The head of a contribution is decided (R211, R221, R250). The first packet of any segment at the group root's tile opens the collective's
record; where none is free it is refused, which in row 8 still counts a loss (R216). -/
def State.cuHead (s : State) (t : Nat) (small : Bool) (pk : Pkt) (kl : Option Nat) : State :=
  let h := pk.hdr
  match s.nodeFor t h with
  | none => s.cuBounds t small h
  | some (g, p, n) =>
    let c := s.claimOf t h
    let root := s.rootHere t p n.stripe
    if (s.stop t).cu.fenced && c != .dup then
      (let s1 := if root then s.openLost t g p n.stripe h else s
       if n.root || tagRootc h then s1.cuBusy t small h else s1.cuBypass t p n.stripe h)
    else if c == .dup || c == .busy || c == .bypass then s.placed t small g p n pk kl c
    else if c.takes && !(let x := s.claimCtx t g h c; contribOk x.1 x.2 n small h) then s.raiseAt t uCu 0x0303 0 h.mseq.toNat
    else if root then
      match s.openRoot t g p h with
      | some s1 => s1.placed t small g p n pk kl c
      | none => if c == .loss then s.placed t small g p n pk kl c else s.cuBusy t small h
    else s.placed t small g p n pk kl c

/-- A later packet of a contribution (R212): of the due child of its head slot, or of a hold slot that is being filled; of any
other it is discarded, and a piece of the small path answered (R277). -/
def State.cuBody (s : State) (t : Nat) (small : Bool) (pk : Pkt) (kl : Option Nat) : State :=
  let h := pk.hdr
  match s.nodeFor t h, s.headOf t (segKey h) with
  | some (g, p, n), some k =>
    let x := s.slot t k
    if x.state = 1 ∧ x.sig = h.sig ∧ x.mask.testBit h.child.toNat = false then
      if !contribOk x.ctx x.acw n small h then s.raiseAt t uCu 0x0303 0 h.mseq.toNat
      else
        match (s.holdsOf t (segKey h)).find? fun j => (s.slot t j).child == h.child.toNat with
        | some j => s.takeHold t k j small g p n pk kl
        | none => if h.child.toNat = x.next then s.takeDue t k small g p n pk kl else s
    else s
  | _, _ => s

/-- A packet or piece of a contribution at a CU, its pan and its age checked (R407, R415). -/
def State.cuTake (s : State) (t : Nat) (small : Bool) (pk : Pkt) (kl : Option Nat) : State :=
  let h := pk.hdr
  let pan := (s.groupOf h.coll.toNat).map (·.pan)
  if pan.isSome && pan != some h.pan.toNat then
    let own := ((s.tilePan t).map (·.id)).getD h.pan.toNat
    let s1 := { s with pans := { s.pans with foreign := s.pans.foreign.set own (inc8 (Tab.get 0 s.pans.foreign own)) } }
    let s2 := s1.raiseAt t uCu 0x030A 0 h.mseq.toNat
    if h.last = 1 then s2.cuAnswer t small h nPan true else s2
  else if s.hasEnded t h then (if h.last = 1 then s.cuAnswer t small h 0 true else s)
  else if h.pidx = 0 then s.cuHead t small pk kl
  else s.cuBody t small pk kl

/-- A RED_UP packet at a CU: duplicates and late packets end first (R380, R415), then what breaks its counts (R84, R206), which is refused
with BOUNDS. `kl` gives the payload flits of a packet that ends with KILL. -/
def State.cuPacket (s : State) (t : Nat) (p : Pkt) (kl : Option Nat) : State :=
  if p.hdr.type = tRedUp then
    let r := s.e2eOk t p.hdr
    if !r.2 then r.1
    else if r.1.isLate p.hdr then r.1.dropLate t p.hdr
    else if !countOk p.hdr || decide (2 < p.hdr.pcnt.toNat) then r.1.cuBounds t false p.hdr
    else r.1.cuTake t false p kl
  else s

/-! ## The collective's own life at the root -/

/-- The top trees rooted at a tile: the trees that a group's plan names where its root is there, and the source trees of the tile's
member (R231, R234). They are no lower tree of a tree of trees. -/
def State.topTrees (s : State) (t : Nat) : List Nat :=
  s.img.act.groups.flatMap fun g =>
    (g.plans.flatMap fun p => if s.rootHere t p 0 then [p.resultTree, p.ctlTree] else []) ++
    (match s.pan? g.pan with
     | some p => g.sources.filterMap fun x => match (s.members g)[x.1]? with
       | some r => if p.rank r = some (s.node, t) then some x.2 else none
       | none => none
     | none => [])

/-- The egress trees of a re-send tile for a message of header `h` (R234, R397): the lower trees rooted at the tile, other than
the tree it came by. The message's own origin re-sends nothing. -/
def State.egressTrees (s : State) (t : Nat) (h : THdr) : List Nat :=
  if h.stile.toNat = t ∧ h.snode.toNat = s.node then []
  else
    (List.range 256).filter fun k =>
      let e := s.treeEntry t k
      trValid e && trRoot e && trEject e && trCollect e && trNtgt e == 1 && !(h.dmode == 2 && treeOf h.w6 == k) && !(s.topTrees t).contains k

/-- A member's answer to a message down a tree; a re-send tile answers when its egress send is done (R397, R399). -/
def State.respondDown (s : State) (t : Nat) (h : THdr) (code : Nat) : State :=
  if (s.egressTrees t h).isEmpty then s.respond t h code else s

/-- The owning member's node and tile of a reduce-scatter's segment (R244, R249). -/
def State.ownerOf (s : State) (g : Group) (r : CollRoot) (seg : Nat) : Option (Nat × Nat) :=
  let spb := max 1 (r.nseg / max 1 g.nmem)
  match s.pan? g.pan, (s.members g)[seg / spb]? with
  | some p, some k => p.rank k
  | _, _ => none

/-- `FMT` and `OP` of a segment's result: the result format and the control word's operation with `BLK` (R177, DEDUCED, log entry
813). -/
def Group.downFmt (g : Group) (seg : Nat) : BitVec 4 × BitVec 4 :=
  let a := Acw.ofWord (g.acwOf seg)
  (BitVec.ofNat 4 a.rfmt, BitVec.ofNat 4 a.op4)

/-- A COMBINED segment's result goes to its targets (R249): RED_DOWN on the result tree, or to the owning member of a
reduce-scatter in the form of R133's copies, with `RESEND` = 1. -/
def State.distribute (s : State) (t : Nat) (g : Group) (r : CollRoot) (seg : Nat) (what : Down) : State :=
  let stripe := g.stripeOf seg
  match (s.planAt t g).rootOf stripe with
  | none => s
  | some n =>
    match s.headOf t { coll := r.coll, seg := seg, pnode := n.pnode } with
    | none => s
    | some k =>
      let x := s.slot t k
      if r.cop = 1 ∧ seg < segTally then
        match s.ownerOf g r seg with
        | some (node, tile) =>
          let h := s.collHdr t tRedDown 3 r.pan r.coll seg r.sig (mkTag x.saf false 0)
          s.addRed t { (default : Msg) with
            hdr := { h with
              fmt := (g.downFmt seg).1, op := (g.downFmt seg).2, dnode := BitVec.ofNat 12 node, dtile := BitVec.ofNat 9 tile }
            owner := .down r.coll what, len := x.result.length, data := x.result, again := true }
        | none => s
      else s.downTree t r tRedDown (s.planAt t g).resultTree seg x.saf (g.downFmt seg) what x.result

/-- The HELD slot of a segment whose distribution is done is freed (R213, R214, R249). -/
def State.freeHeld (s : State) (t coll seg : Nat) : State :=
  match (List.range (nSlots s.build)).find? fun i => let x := s.slot t i; x.state == 4 && x.key.coll == coll && x.key.seg == seg with
  | some k => (s.addDone t (s.slot t k).key).freeSlot t k
  | none => s

/-- Segments below `n` on from L that every target has acknowledged (R249). -/
def CollRoot.ackedTo (r : CollRoot) : Nat → Nat → Nat
  | 0, l => l
  | f + 1, l => if Tab.get 0 r.segs l = 3 then r.ackedTo f (l + 1) else l

/-- The highest commit index due. -/
def CollRoot.dueL (r : CollRoot) : Nat := r.ackedTo 256 r.l

/-- L advances (R249); committed segments leave the list. -/
def CollRoot.advance (r : CollRoot) (l : Nat) : CollRoot :=
  if l > r.l then { r with l := l, segs := r.segs.filter fun e => decide (l ≤ e.1) } else r

/-- Whether the final COMMIT is due (R250). -/
def CollRoot.finalDue (r : CollRoot) : Bool :=
  r.state == 1 && (if r.cop = 0 ∨ r.cop = 1 then r.l == r.nseg else if r.cop = 4 then r.launch == 2 else r.tally == 2)

/-- The final COMMIT, or the ABORT that a failed message makes of it (R259, R264). -/
def State.rootFinal (s : State) (t : Nat) (r : CollRoot) : State :=
  let data := r.cop == 2 || r.cop == 3 || r.cop == 5
  if data && decide (r.tallyElems.2 > 0) then s.rootAbort t r 3 r.l
  else
    let st := if data && decide (r.tallyElems.1 > 0) then 4 else if r.replays > 0 then 1 else 0
    (s.modRoot t r.coll fun x => { x with state := 3, due := some (s.ft + msFc) }).downCtl t r .final (ctlRec 3 (st * 2 ^ 17 + 2 ^ 16) r.l r.saf)

/-- A COMMIT progress record to the deputy (R249, R259). -/
def State.sendProgress (s : State) (t : Nat) (r : CollRoot) (l : Nat) : State :=
  match r.deputy with
  | some d =>
    (s.modRoot t r.coll fun x => { x with progress := some l, progressAt := s.ft + usFc }).ctlSend t r.pan r.coll r.sig d true (ctlRec 3 0 l 0)
  | none => s

/-- What a root does with what it has (R249, R250): enters RUN on the launch result, distributes, advances L where there is no
deputy, and comes to FINAL. -/
def State.rootStep (s : State) (t coll : Nat) : State :=
  match (s.stop t).co.roots.find? fun r => r.coll == coll with
  | none => s
  | some r =>
    match s.img.act.groups.find? fun g => g.id == r.group with
    | none => s
    | some g =>
      if r.state ≤ 1 ∧ r.launch = 1 then
        if r.cop > 5 then s.rootAbort t r 3 r.l
        else
          let s1 := s.modRoot t coll fun x => { x with state := 1, launch := 3 }
          (if r.state = 0 then s1.sendProgress t r 0 else s1).distribute t g r segLaunch .launch
      else if r.state = 1 then
        let ready := if r.launch = 2 then (r.segs.filter fun e => e.2 == 1 && decide (e.1 < r.l + 256)).map (·.1) else []
        let s1 := ready.foldl (fun s k => (s.distribute t g r k (.seg k)).modRoot t coll fun x => { x with segs := x.segs.set k 2 }) s
        let s2 := if r.deputy.isNone then s1.modRoot t coll fun x => x.advance x.dueL else s1
        match (s2.stop t).co.roots.find? fun r => r.coll == coll with
        | some r2 => if r2.finalDue then s2.rootFinal t r2 else s2
        | none => s2
      else s

/-- A CU's packet with what the root then does. -/
def State.cuThen (s : State) (t coll : Nat) : State := s.rootStep t coll

/-- The combine units of a tile's row may combine in this fabric cycle (R553). -/
def State.cuMay (s : State) (t : Nat) : Bool := decide (s.nowFc.toNat % 16 < Tab.get 16 s.pwr.cuK (tileY t))

/-- The CU takes the packet whose turn it is (R199): the router's and the own SI's in alternation where both wait. -/
def State.cuServe (s : State) (t : Nat) : State :=
  let cu := (s.stop t).cu
  let own (p : Pkt) (rest : List Pkt) : State :=
    ((s.modCu t fun c => { c with waitO := rest, lastOwn := true }).cuPacket t p none).cuThen t p.hdr.coll.toNat
  match cu.waitR, cu.waitO with
  | (p, kl) :: rest, o =>
    (match o, cu.lastOwn with
     | q :: r, false => own q r
     | _, _ => ((s.modCu t fun c => { c with waitR := rest, lastOwn := false }).cuPacket t p kl).cuThen t p.hdr.coll.toNat)
  | [], q :: r => own q r
  | [], [] => s

/-- Packets are taken in turn until `n` of the router's, or of the own SI's, are left; `fuel` bounds them. -/
def State.cuUntil (s : State) (t : Nat) (own : Bool) (n : Nat) : Nat → State
  | 0 => s
  | f + 1 =>
    let cu := (s.stop t).cu
    if (if own then cu.waitO.length else cu.waitR.length) ≤ n then s else (s.cuServe t).cuUntil t own n f

/-- A packet of a contribution at the CU, from the router or from the own SI, where it is first of those that SI has passed on (R199):
the CU takes what waits before it, and it. In a fabric cycle in which the row's CUs may not combine, it waits (R553). -/
def State.cuOffer (s : State) (t : Nat) (own : Bool) (p : Pkt) (kl : Option Nat) : State :=
  let cu := (s.stop t).cu
  if own && cu.waitO.head? != some p then s
  else
    let s1 := if own || cu.waitR.contains (p, kl) then s else s.modCu t fun c => { c with waitR := c.waitR ++ [(p, kl)] }
    if !s.cuMay t then s1
    else if own then s1.cuUntil t true (cu.waitO.length - 1) (cu.waitR.length + cu.waitO.length + 1)
    else s1.cuUntil t false 0 (cu.waitR.length + cu.waitO.length + 2)

/-- RED_UP_ARRIVE (R199, R211): from the own SI where `own`. -/
def execRedUpArrive (t : Nat) (p : Pkt) (own : Bool) (s : State) : Host.Outcome State Fault Refusal :=
  atTile t s fun s => if p.hdr.type = tRedUp then s.cuOffer t own p none else s

/-- CU_PACKET_COMBINE (R199, R212): `killed` gives the payload flits of a packet that ends with KILL, whose elements stay combined. -/
def execCuPacketCombine (t : Nat) (p : Pkt) (own : Bool) (killed : Option Nat) (s : State) : Host.Outcome State Fault Refusal :=
  atTile t s fun s => if p.hdr.type = tRedUp then s.cuOffer t own p killed else s

/-! ## The small path (R277) -/

/-- A RED_SMALL piece as one packet of its contribution (R277). -/
def smallPkt (m : CMsg) : Pkt :=
  let w := leAt m.data 0 16
  let n := m.data.length - 16
  { hdr := { (default : THdr) with
      stile := m.hdr.stile, snode := m.hdr.snode, pan := m.hdr.pan, dtile := m.hdr.dtile, dnode := m.hdr.dnode, type := tRedUp, vc := 2,
      resend := m.hdr.resend, mseq := m.hdr.mseq, srank := m.hdr.arg.extractLsb' 0 20, sig := BitVec.ofNat 32 (bits w 127 96)
      coll := BitVec.ofNat 16 (bits w 95 80), seg := BitVec.ofNat 20 (bits w 79 60), child := BitVec.ofNat 8 (bits w 59 52)
      fmt := BitVec.ofNat 4 (bits w 51 48), op := BitVec.ofNat 4 (bits w 47 44), pidx := BitVec.ofNat 13 (bits w 22 15)
      pcnt := BitVec.ofNat 13 (bits w 14 7), last := BitVec.ofBool (bits w 22 15 + 1 = bits w 14 7), plen := BitVec.ofNat 12 n
      ctag := mkTag (BitVec.ofNat 8 (bits w 30 23)) (bit w 31) (bits w 43 32) }
    data := m.data.drop 16 }

/-- A piece `i` of a contribution as its RED_SMALL message (R277). -/
def Msg.piece (m : Msg) (i : Nat) : CMsg :=
  let h := m.hdr
  let n := min 32 (m.len - 32 * i)
  let w : BitVec 128 := h.sig ++ h.coll ++ h.seg ++ h.child ++ h.fmt ++ h.op ++ h.ctag.extractLsb' 0 12 ++ h.ctag.extractLsb' 23 1 ++
    h.ctag.extractLsb' 24 8 ++ BitVec.ofNat 8 i ++ BitVec.ofNat 8 m.pcnt ++ (0 : BitVec 7)
  { hdr := { (default : CHdr) with
      mseq := h.mseq, pan := h.pan, stile := h.stile, snode := h.snode, dtile := h.dtile, dnode := h.dnode, plen := BitVec.ofNat 6 (16 + n)
      resend := BitVec.ofBool m.again, mkind := 6, arg := BitVec.ofNat 32 h.srank.toNat }
    data := bytesOf 16 w.toNat ++ slice m.data (32 * i) n }

/-- The pieces of contributions on the small path whose data is in hand go to the C-plane (R265, R277). -/
def State.feedSmall (s : State) (t : Nat) : State :=
  (s.stop t).si.msgs.foldl (fun s m =>
    if m.small && m.issued && m.backoff.isNone && !m.todo.isEmpty && decide (min m.fetch m.len ≤ m.data.length) then
      (m.todo.foldl (fun s i => s.cSend t (m.piece i)) s).modMsg t m.uid fun m => { m with todo := [] }
    else s) s

/-- RED_SMALL_ARRIVE (R277). -/
def execRedSmallArrive (t : Nat) (m : CMsg) (s : State) : Host.Outcome State Fault Refusal :=
  atTile t s fun s => if isKind m 6 then (s.cuTake t true (smallPkt m) none).cuThen t (smallPkt m).hdr.coll.toNat else s

/-! ## Expiry -/

/-- DONE_ENTRY_EXPIRE (R214). -/
def execDoneEntryExpire (t coll seg pnode : Nat) (s : State) : Host.Outcome State Fault Refusal :=
  atTile t s fun s => s.modCu t fun c => { c with
    done := c.done.filter fun d => !(d.1 == { coll := coll, seg := seg, pnode := pnode } && decide (d.2 ≤ s.ft)) }

/-- BYPASS_ENTRY_EXPIRE (R216). -/
def execBypassEntryExpire (t coll seg pnode : Nat) (s : State) : Host.Outcome State Fault Refusal :=
  atTile t s fun s => s.modCu t fun c => { c with
    pending := c.pending.filter fun e => !(e.key == { coll := coll, seg := seg, pnode := pnode } && e.byp && decide (e.expires ≤ s.ft)) }

/-- ENDED_ENTRY_EXPIRE (R255). -/
def execEndedEntryExpire (t coll sig : Nat) (s : State) : Host.Outcome State Fault Refusal :=
  atTile t s fun s => s.modCu t fun c => { c with
    ended := c.ended.filter fun e => !(e.coll == coll && e.sig.toNat == sig && decide (e.expires ≤ s.ft)) }

/-! ## Failures of lanes and banks -/

/-- The partial of a slot that the SI holds is dropped. -/
def State.dropPartial (s : State) (t k : Nat) : State :=
  s.modSi t fun si => { si with msgs := si.msgs.filter fun m => m.owner != .partialOf k }

/-- What a root distributes of a segment. -/
def segDown (seg : Nat) : Down := if seg = segLaunch then .launch else .seg seg

/-- The result of a HELD slot is lost (R219): the message that distributes it is dropped, and the segment is OPEN at the root again. -/
def State.dropHeld (s : State) (t : Nat) (key : SegKey) : State :=
  (s.modSi t fun si => { si with msgs := si.msgs.filter fun m => m.owner != .down key.coll (segDown key.seg) }).modRoot t key.coll fun r =>
    if key.seg = segLaunch then { r with launch := 0 } else if key.seg = segTally then { r with tally := 0 } else { r with segs := r.segs.del key.seg }

/-- A segment is abandoned at this CU (R219): its slots are freed, and nothing read from them is forwarded. -/
def State.abandon (s : State) (t : Nat) (key : SegKey) : State :=
  (List.range (nSlots s.build)).foldl (fun s i =>
    let x := s.slot t i
    if x.state != 0 && x.state != 5 && x.key == key then ((if x.state = 4 then s.dropHeld t key else s).dropPartial t i).freeSlot t i else s) s

/-- A REPLAY cause record for a segment goes to its root and deputy (R257). -/
def State.replayCause (s : State) (t : Nat) (key : SegKey) (sig : Word) (cause pnode : Nat) : State :=
  match s.groupOf key.coll with
  | some g => s.ctlBoth t g key.coll (g.stripeOf key.seg) sig (causeRec cause pnode 0)
  | none => s

/-- The keys and signatures of the open segments of a CU, each once. -/
def State.openSegs (s : State) (t : Nat) : List (SegKey × Word) :=
  ((List.range (nSlots s.build)).filterMap fun i =>
    let x := s.slot t i
    if x.state == 1 || x.state == 3 || x.state == 4 then some (x.key, x.sig) else none).eraseDups

/-- The live root records of a fenced CU's tile are reported (R257, cause 4), each with its root's plan node at this tile. -/
def State.rootsLost (s : State) (t : Nat) : State :=
  ((s.stop t).co.roots.filter fun r => decide (r.state < 4)).foldl (fun s r =>
    match s.groupOf r.coll with
    | some g =>
      match (s.planAt t g).nodes.find? fun n => n.root && n.node == s.node && n.tile == t with
      | some n => s.ctlBoth t g r.coll n.stripe r.sig (causeRec 4 n.pnode 0)
      | none => s
    | none => s) s

/-- The CU stops combining (R221): its segments are abandoned under R219, and every group root here is lost (R257, cause 4). -/
def State.cuStop (s : State) (t : Nat) : State :=
  let l := s.openSegs t
  let s1 := (s.modCu t fun c => { c with fenced := true }).raiseAt t uCu 0x0805 0 0
  (l.foldl (fun s e => (s.abandon t e.1).replayCause t e.1 e.2 3 e.1.pnode) s1).rootsLost t

/-- The lanes of a build's CU, beside the spare, which bears the next number (R200). -/
def cuLanes : Build → Nat
  | .hfE => 32
  | .hfS => 64

/-- Whether a lane takes part in combining: not once the spare has its place, and the spare only then (R202). -/
def State.laneUsed (s : State) (t lane : Nat) : Bool :=
  match (s.stop t).cu.laneSpare with
  | none => decide (lane < cuLanes s.build)
  | some g => decide (lane ≤ cuLanes s.build) && lane != g

/-- CU_LANE_ERROR (R202): a second error of a lane within 1 ms retires it. A lane that is not in use gives no result. -/
def execCuLaneError (t lane : Nat) (s : State) : Host.Outcome State Fault Refusal :=
  atTile t s fun s =>
    let cu := (s.stop t).cu
    let twice := match Tab.get? cu.laneErr lane with | some f => decide (s.ft ≤ f + msFc) | none => false
    let s1 := (s.modCu t fun c => { c with laneerr := inc8 c.laneerr, laneErr := if twice then c.laneErr.del lane else c.laneErr.set lane s.ft }).raiseAt
      t uCu 0x0401 lane 0
    if !s.laneUsed t lane then s
    else if !twice || cu.fenced then s1
    else if cu.laneSpare.isNone then s1.modCu t fun c => { c with laneSpare := some lane }
    else s1.cuStop t

/-- A bank begins to retire (R220). -/
def Cu.retire (c : Cu) (bank : Nat) : Cu := if c.retiring.contains bank then c else { c with retiring := c.retiring ++ [bank] }

/-- STORE_CORRECTED (R219). -/
def execStoreCorrected (t slot : Nat) (s : State) : Host.Outcome State Fault Refusal :=
  atTile t s fun s =>
    let bank := slot / 4
    let n := Tab.get 0 (s.stop t).cu.corrBy bank + 1
    let s1 := (s.modCu t fun c => { c with corr := inc8 c.corr, corrBy := c.corrBy.set bank n }).raiseAt t uCu 0x0402 slot 0
    if n ≥ (s.cuCfg t).2.2 then s1.modCu t fun c => c.retire bank else s1

/-- STORE_UNCORRECTABLE (R219, R220). -/
def execStoreUncorrectable (t slot : Nat) (s : State) : Host.Outcome State Fault Refusal :=
  atTile t s fun s =>
    let x := s.slot t slot
    let s1 := (s.modCu t fun c => { c with uncor := inc8 c.uncor }).raiseAt t uCu 0x0403 slot x.key.coll
    let s2 := if x.state = 0 ∨ x.state = 5 then s1 else (s1.abandon t x.key).replayCause t x.key x.sig 3 x.key.pnode
    s2.modCu t fun c => c.retire (slot / 4)

/-- The spare group of a bank (R203). -/
def spareGroup (b : Build) (bank : Nat) : Nat := match b with | .hfE => 0 | .hfS => bank / 8

/-- Whether a bank's group has its spare free (R220, R565). -/
def State.spareFree (s : State) (t bank : Nat) : Bool :=
  let g := spareGroup s.build bank
  let cu := (s.stop t).cu
  !(cu.badSpares.contains g) && !(cu.spared.any fun b => spareGroup s.build b == g)

/-- A retiring bank is replaced by its group's spare, or its slots become RETIRED (R220). -/
def State.takeover (s : State) (t bank : Nat) : State :=
  if s.spareFree t bank then
    s.modCu t fun c => { c with retiring := c.retiring.filter (· != bank), spared := c.spared ++ [bank], corrBy := c.corrBy.set bank 0 }
  else
    (((List.range 4).foldl (fun s i => s.modSlot t (4 * bank + i) fun _ => { (default : Slot) with state := 5 }) s).modCu t fun c =>
      { c with retiring := c.retiring.filter (· != bank), nospare := satAdd c.nospare 1 }).raiseAt t uCu 0x0804 bank 0

/-- BANK_SPARE_TAKEOVER (R220): when the last slot of a retiring bank is FREE. -/
def execBankSpareTakeover (t bank : Nat) (s : State) : Host.Outcome State Fault Refusal :=
  atTile t s fun s =>
    if (s.stop t).cu.retiring.contains bank && (List.range 4).all fun i => (s.slot t (4 * bank + i)).state == 0 then s.takeover t bank else s

end Sys2Proof.Machine
end

