-- ==== Sys2Proof/Machine/Collect.lean ====
section
/-! DEFINITION. Collectives at the members, the group root and the deputy: descriptors, launch, data and tally contributions,
results, commit, abort and replay (R236 to R264). -/

namespace Sys2Proof.Machine

/-! ## Descriptors (R236 to R239) -/

end Sys2Proof.Machine

namespace Sys2Proof

/-- Fields of a collective descriptor (R236). -/
def Desc.cop (d : Desc) : Nat := (d.w0.extractLsb' 57 3).toNat
def Desc.group (d : Desc) : Nat := (d.w0.extractLsb' 47 10).toNat
def Desc.cfmt (d : Desc) : Nat := (d.w0.extractLsb' 43 4).toNat
def Desc.acw (d : Desc) : BitVec 16 := d.w0.extractLsb' 0 16
def Desc.seed (d : Desc) : Word := d.w1.extractLsb' 32 32
def Desc.cctag (d : Desc) : Word := d.w1.extractLsb' 0 32
def Desc.cdst (d : Desc) : Nat := (d.w3.extractLsb' 0 40).toNat
def Desc.count (d : Desc) : Nat := (d.w4.extractLsb' 32 32).toNat
def Desc.cap (d : Desc) : Nat := (d.w4.extractLsb' 0 32).toNat
def Desc.srcrank (d : Desc) : Nat := (d.w5.extractLsb' 0 20).toNat
def Desc.cntsrc (d : Desc) : Nat := (d.w6.extractLsb' 0 40).toNat
def Desc.cntdst (d : Desc) : Nat := (d.w7.extractLsb' 0 40).toNat

/-- The reserved bits are 0, and so is what this kind leaves unused (R236, R237). -/
def Desc.collZero (d : Desc) : Bool :=
  d.w0.extractLsb' 16 27 == 0 && d.w2.extractLsb' 40 24 == 0 && d.w3.extractLsb' 40 24 == 0 && d.w5.extractLsb' 20 44 == 0 &&
  d.w6.extractLsb' 40 24 == 0 && d.w7.extractLsb' 40 24 == 0 &&
  (d.cop == 5 || (d.cap == 0 && d.cntsrc == 0 && d.cntdst == 0)) && (d.cop == 3 || d.srcrank == 0) &&
  (d.cop != 4 || (d.src == 0 && d.cdst == 0 && d.count == 0))

end Sys2Proof

namespace Sys2Proof.Machine

/-- One word of the signature (R239). -/
def sigStep (h w : Word) : Word :=
  let a := rotl32 (h ^^^ w) 11 + 0x9E3779B9
  a ^^^ (a >>> 15)

/-- The signature of a collective (R239). -/
def collSig (d : Desc) (cseq : Word) : Word :=
  [BitVec.ofNat 32 (d.cop * 2 ^ 29 + d.group * 2 ^ 16 + d.acw.toNat), BitVec.ofNat 32 d.count, cseq, d.seed,
   BitVec.ofNat 32 (if d.cop = 5 then d.cap else if d.cop = 3 then d.srcrank else 0)].foldl sigStep 0x48524631

/-- Segments of `n` elements, full ones of `e` (R244). -/
def segCount (n e : Nat) : Nat := if e = 0 then 0 else ceilDiv n e

/-- Bytes of a buffer of `n` elements cut into segments of `e` (R244). -/
def bufBytes (f : Fmt) (blk : Bool) (n e : Nat) : Nat :=
  let k := segCount n e
  if k = 0 then 0 else (k - 1) * f.bytes blk e + f.bytes blk (n - (k - 1) * e)

/-- The data segments of a collective (R244). -/
def nsegOf (cop count e nmem : Nat) : Nat :=
  if cop = 0 then segCount count e else if cop = 1 then nmem * segCount count e else 0

/-- The member index of a rank, if it is a member. -/
def State.memberIdx (s : State) (g : Group) (rank : Nat) : Option Nat :=
  let l := s.members g
  if l.contains rank then some (l.idxOf rank) else none

/-- The ranges that a collective writes at this tile, as a receiver, lie within STOP_RXLIM (R237, R244, R245); `src` where it is a
broadcast's source, which receives nothing. -/
def State.collFits (s : State) (t : Nat) (d : Desc) (g : Group) (src : Bool) : Bool :=
  let a := Acw.ofWord g.acw
  let r := fmtOf s.img.act.formats a.rfmt
  let e := a.full s.img.act.formats
  let lim := (s.stop t).si.rxlim
  let n := r.bytes false d.count
  match d.cop with
  | 0 | 1 => decide (d.cdst + bufBytes r a.blk d.count e ≤ lim)
  | 2 => decide (d.cdst + g.nmem * n ≤ lim)
  | 3 => src || decide (d.cdst + n ≤ lim)
  | 5 => decide (d.cdst + g.nmem * r.bytes false d.cap ≤ lim ∧ d.cntdst + 4 * g.nmem ≤ lim)
  | _ => true

/-- A collective descriptor's refusal, or 0 (R237). -/
def State.collCode (s : State) (t : Nat) (d : Desc) : Nat :=
  if (s.stop t).ro.clientFenced then nFenced
  else
    match s.tilePan t, s.img.act.groups.find? fun g => g.id == d.group with
    | some p, some g =>
      let a := Acw.ofWord g.acw
      let l := s.img.act.formats
      let data := d.cop == 2 || d.cop == 3 || d.cop == 5
      let ok := g.pan == p.id && (s.memberIdx g (p.rankOf s.node t)).isSome && d.acw == g.acw && d.seed == g.seed && decide (d.cop ≤ 5) && d.collZero &&
        (d.cop == 4 || decide (1 ≤ d.count)) && (d.cop != 5 || decide (1 ≤ d.cap)) && acwOk l g.acw d.cfmt d.count &&
        (!data || (!a.blk && d.cfmt == a.rfmt)) && decide (nsegOf d.cop d.count (a.full l) g.nmem ≤ 1048574) && s.collFits t d g (d.srcrank == p.rankOf s.node t) &&
        (d.cop != 3 || (match s.memberIdx g d.srcrank with | some m => g.sources.any fun x => x.1 == m | none => false))
      if ok then 0 else nBounds
    | _, _ => nBounds

/-- The collective's record at the member's SI (R236 to R239, R244, R265). -/
def State.collNew (s : State) (t : Nat) (d : Desc) (g : Group) (p : PanRec) : CollM :=
  let a := Acw.ofWord g.acw
  let l := s.img.act.formats
  let q := Tab.get 0 (s.stop t).co.cseqs g.id
  { (default : CollM) with
    coll := g.id * 64 + q.toNat % 64, group := g.id, sig := collSig d q, cop := d.cop, fmt := d.cfmt, acw := d.acw, ctag := d.cctag, src := d.src,
    dst := d.cdst, count := d.count, cap := d.cap, cntdst := d.cntdst, srcm := (s.memberIdx g d.srcrank).getD 0,
    member := (s.memberIdx g (p.rankOf s.node t)).getD 0, rank := p.rankOf s.node t, cntsrc := d.cntsrc,
    small := decide (ceilDiv (d.count * (fmtOf l d.cfmt).width) 8 < g.small), nseg := nsegOf d.cop d.count (a.full l) g.nmem,
    start := s.latch t, deadline := s.ft + 2 * g.gtl * usFc }

/-! ## Contributions of a member -/

/-- A member's record is changed by `f`. -/
def State.modM (s : State) (t coll : Nat) (f : CollM → CollM) : State :=
  s.modCo t fun c => { c with live := c.live.map fun m => if m.coll == coll then f m else m }

/-- The live collective of an id at an SI. -/
def State.liveOf (s : State) (t coll : Nat) : Option CollM := (s.stop t).co.live.find? fun m => m.coll == coll

/-- A member's contribution to a segment leaves for its leaf node (R206, R231); one that is sent again keeps its MSEQ. -/
def State.contribute (s : State) (t : Nat) (m : CollM) (g : Group) (seg fmt : Nat) (len fetch src : Nat) (data : List Byte) (again : Bool) : State :=
  let p := s.planAt t g
  match p.leafOf m.member (g.stripeOf seg) with
  | none => s
  | some (n, i) =>
    let c := s.segCtx g m.coll seg
    let h := s.collHdr t tRedUp 2 g.pan m.coll seg m.sig (mkTag 0 false n.pnode)
    let x : Msg := { (default : Msg) with
      hdr := { h with
        dnode := BitVec.ofNat 12 n.node, dtile := BitVec.ofNat 9 n.tile, child := BitVec.ofNat 8 i, fmt := BitVec.ofNat 4 fmt
        op := BitVec.ofNat 4 c.acw.op4, srank := BitVec.ofNat 20 m.rank }
      owner := .contrib m.coll seg, len := len, fetch := fetch, src := src, data := data, small := m.small, again := again }
    match (if again then Tab.get? (((s.liveOf t m.coll).map (·.mseqs)).getD []) seg else none) with
    | some q => s.addRedAs t q x
    | none => (s.modM t m.coll fun m => { m with mseqs := m.mseqs.set seg (s.stop t).si.rseq }).addRed t x

/-- The launch contribution (R240). -/
def State.sendLaunch (s : State) (t : Nat) (m : CollM) (g : Group) (again : Bool) : State :=
  s.contribute t m g segLaunch 8 8 0 0 (bytesOf 4 m.nseg ++ bytesOf 4 m.cop) again

/-- The tally contribution (R241). -/
def State.sendTally (s : State) (t : Nat) (m : CollM) (g : Group) (again : Bool) : State :=
  s.contribute t m g segTally 8 8 0 0 (bytesOf 4 (min m.dropped 2147483647) ++ bytesOf 4 m.failed) again

/-- Where a data segment's elements lie in the source: byte offset and bytes (R244). -/
def State.segSrc (s : State) (m : CollM) (g : Group) (k : Nat) : Nat × Nat :=
  let a := Acw.ofWord g.acw
  let l := s.img.act.formats
  let f := fmtOf l m.fmt
  let e := a.full l
  let spb := segCount m.count e
  let j := if m.cop = 1 then k / max 1 spb else 0
  let i := if m.cop = 1 then k % max 1 spb else k
  (j * bufBytes f a.blk m.count e + i * f.bytes a.blk e, f.bytes a.blk (min e (m.count - i * e)))

/-- A data segment's contribution (R242). -/
def State.sendSeg (s : State) (t : Nat) (m : CollM) (g : Group) (k : Nat) : State :=
  let x := s.segSrc m g k
  s.contribute t m g k m.fmt x.2 x.2 (m.src + x.1) [] (decide (k < m.high))

/-- A message of a data kind: its member, its address there, its source, its length and how much of it is read; `bytes` where
the data is at hand; member none for a broadcast. -/
structure Piece where
  to_ : Option Nat
  addr : Nat
  src : Nat
  len : Nat
  fetch : Nat
  bytes : List Byte
  deriving DecidableEq, Repr

/-- A transfer cut into messages of at most 8,388,608 bytes (R81). -/
def cutPiece (p : Piece) : List Piece :=
  (List.range (ceilDiv p.len 8388608)).map fun i =>
    let o := i * 8388608
    { p with addr := p.addr + o, src := p.src + o, len := min 8388608 (p.len - o), fetch := min 8388608 (p.fetch - o) }

/-- The messages that a member of a data kind sends, in order (R242, R245, R246). -/
def State.pieces (s : State) (m : CollM) (g : Group) : List Piece :=
  let f := fmtOf s.img.act.formats m.fmt
  let n := f.bytes false m.count
  let slot := f.bytes false m.cap
  match m.cop with
  | 2 => (List.range g.nmem).flatMap fun d => cutPiece { to_ := some d, addr := m.dst + m.member * n, src := m.src, len := n, fetch := n, bytes := [] }
  | 3 => if m.member = m.srcm then cutPiece { to_ := none, addr := m.dst, src := m.src, len := n, fetch := n, bytes := [] } else []
  | 5 => (List.range g.nmem).flatMap fun d =>
      let ns := m.counts.getD []
      let nd := nth 0 ns d
      let o := f.bytes false (ns.take d).sum
      cutPiece { to_ := some d, addr := m.dst + m.member * slot, src := m.src + o, len := slot, fetch := f.bytes false (min nd m.cap), bytes := [] } ++
      [{ to_ := some d, addr := m.cntdst + 4 * m.member, src := 0, len := 4, fetch := 0, bytes := bytesOf 4 nd }]
  | _ => []

/-- A message of a data kind joins the SI's messages (R242): a PUT to a member, an MCAST on the source tree, or for an
all-gather's own part a copy through the TP port. -/
def State.sendPiece (s : State) (t : Nat) (m : CollM) (g : Group) (p : PanRec) (x : Piece) : State :=
  let h := { s.collHdr t tPut 0 g.pan 0 0 0 m.ctag with
    route := BitVec.ofNat 2 p.route, srank := BitVec.ofNat 20 m.rank, addr := BitVec.ofNat 48 x.addr }
  let base : Msg := { (default : Msg) with hdr := h, owner := .member m.coll, len := x.len, fetch := x.fetch, src := x.src, data := x.bytes }
  match x.to_ with
  | none =>
    let tree := ((g.sources.find? fun y => y.1 == m.member).map (·.2)).getD 0
    s.addMsg t { base with
      hdr := { h with type := tMcast, vc := 3, fmt := BitVec.ofNat 4 m.fmt, op := BitVec.ofNat 4 (Acw.ofWord g.acw).op4, route := 0, dmode := 2, dnode := BitVec.ofNat 12 s.node, w6 := BitVec.ofNat 64 tree }
      mc := some (Mcast.start (trNodes (s.treeEntry t tree))) }
  | some d =>
    match (s.members g)[d]? with
    | none => s
    | some r =>
      match p.rank r with
      | none => s
      | some (node, tile) =>
        if m.cop = 2 ∧ d = m.member then s.addMsg t { base with hdr := { h with type := 0 }, issued := true }
        else s.addMsg t { base with hdr := { h with dnode := BitVec.ofNat 12 node, dtile := BitVec.ofNat 9 tile, drank := BitVec.ofNat 20 r } }

/-- The send counts of an all-to-all are read from CNTSRC through the TP port (R245): a message that never leaves, its data the table. -/
def State.readCounts (s : State) (t : Nat) (m : CollM) (g : Group) : State :=
  s.addMsg t { (default : Msg) with
    hdr := { (default : THdr) with ctag := m.ctag }, owner := .counts m.coll, len := 4 * g.nmem, fetch := 4 * g.nmem, src := m.cntsrc, issued := true }

/-- The counts that have been read, with what the member drops (R245). -/
def CollM.setCounts (m : CollM) (bs : List Byte) (n : Nat) : CollM :=
  let ns := (List.range n).map fun i => leAt bs (4 * i) 4
  { m with counts := some ns, dropped := (ns.map fun k => k - m.cap).sum }

/-- Whether a message belongs to a member's collective. -/
def Msg.ofColl (x : Msg) (coll : Nat) : Bool :=
  match x.owner with
  | .contrib c _ => c == coll
  | .member c => c == coll
  | .counts c => c == coll
  | _ => false

/-- A member goes on (R242, R251): its next contribution or message where none of its own is still to be sent, and WAIT when
everything is answered. -/
def State.collStep (s : State) (t coll : Nat) : State :=
  match s.liveOf t coll with
  | none => s
  | some m =>
    match s.img.act.groups.find? (fun g => g.id == m.group), s.pan? ((s.tilePan t).map (·.id) |>.getD 256) with
    | some g, some p =>
      let own := (s.stop t).si.msgs.filter fun x => x.ofColl coll
      let busy := own.any fun x => !x.issued || !x.todo.isEmpty
      let ps := s.pieces m g
      if m.stopped then (if own.isEmpty then s.modM t coll fun m => { m with waiting := true } else s)
      else if m.cop ≤ 1 && decide (m.next < m.nseg) then
        if busy then s
        else (s.sendSeg t m g m.next).modM t coll fun m => { m with next := m.next + 1, high := max m.high (m.next + 1) }
      else if (decide (m.cop ≥ 2) && m.cop != 4 && !m.launched) || (m.cop == 5 && m.counts.isNone) then s
      else if m.nextData < ps.length then
        if busy then s
        else
          match ps[m.nextData]? with
          | some x => (s.sendPiece t m g p x).modM t coll fun m => { m with nextData := m.nextData + 1 }
          | none => s
      else if own.isEmpty && !m.waiting then
        let s1 := s.modM t coll fun m => { m with waiting := true }
        if decide (m.cop ≥ 2) && m.cop != 4 && !m.tallySent then (s1.sendTally t m g false).modM t coll fun m => { m with tallySent := true } else s1
      else s
    | _, _ => s

/-- Every live collective of the SI goes on, with its TP reads and its pieces on the small path. -/
def State.collPump (s : State) (t : Nat) : State :=
  let s1 := (s.stop t).co.live.foldl (fun s m => s.collStep t m.coll) s
  ((s1.issue t).feedSmall t)

/-- SI_INJECT (R602). -/
def execSiInject (t : Nat) (s : State) : Host.Outcome State Fault Refusal :=
  atTile t s fun s => (s.collPump t).injectCycle t

/-! ## Launch -/

/-- An accepted descriptor becomes a live collective and its launch contribution leaves (R238, R240); an all-to-all reads its send
counts (R245). -/
def State.collStart (s : State) (t : Nat) (d : Desc) : State :=
  match s.tilePan t, s.img.act.groups.find? fun g => g.id == d.group with
  | some p, some g =>
    let m := s.collNew t d g p
    let s1 := (s.modCo t fun c => { c with live := c.live ++ [m], cseqs := c.cseqs.set g.id (Tab.get 0 c.cseqs g.id + 1) }).sendLaunch t m g false
    (if m.cop = 5 then s1.readCounts t m g else s1).collPump t
  | _, _ => s

/-- Whether a descriptor must wait (R238): its COLL is live, or sixteen are. -/
def State.collMustWait (s : State) (t : Nat) (d : Desc) : Bool :=
  let c := (s.stop t).co
  let q := Tab.get 0 c.cseqs d.group
  decide (c.live.length ≥ 16) || (c.live.any fun m => m.coll == d.group * 64 + q.toNat % 64)

/-- A collective descriptor that the SI takes (R236 to R238): refused, started, or made to wait, and with it the CMD port. -/
def State.collTake (s : State) (t : Nat) (d : Desc) : State :=
  match s.collCode t d with
  | 0 => if s.collMustWait t d then s.modCo t fun c => { c with waiting := c.waiting ++ [d] } else s.collStart t d
  | c => s.cmpXfer t 3 c 0 d.cctag (s.latch t)

/-- A collective descriptor as it leaves the CMD port's FIFO (R236): the trace mirror has it (R513), and a reserved `COP` is refused. -/
def State.dscColl (s : State) (t : Nat) (d : Desc) : State :=
  (s.mirror (mirTile t) (unitId uSi (s.phys t)) 1 (descBytes d)).collTake t d

/-- A collective descriptor of kind `cop` at the CMD port; one of another kind is another command's. -/
def collForm (t cop : Nat) (d : Desc) (s : State) : Host.Outcome State Fault Refusal :=
  if d.kind = 3 ∧ (d.cop = cop ∨ cop = 0 ∧ 6 ≤ d.cop) then cmdAct t d s fun s => s.dscColl t d else .next s

/-- COLL_ALL_REDUCE (R242). A reserved `COP` is refused here, being no other command's. -/
def execCollAllReduce (t : Nat) (d : Desc) (s : State) : Host.Outcome State Fault Refusal := collForm t 0 d s

/-- COLL_REDUCE_SCATTER (R244). -/
def execCollReduceScatter (t : Nat) (d : Desc) (s : State) : Host.Outcome State Fault Refusal := collForm t 1 d s

/-- COLL_ALL_GATHER (R242). -/
def execCollAllGather (t : Nat) (d : Desc) (s : State) : Host.Outcome State Fault Refusal := collForm t 2 d s

/-- COLL_BROADCAST (R246). -/
def execCollBroadcast (t : Nat) (d : Desc) (s : State) : Host.Outcome State Fault Refusal := collForm t 3 d s

/-- COLL_BARRIER (R242). -/
def execCollBarrier (t : Nat) (d : Desc) (s : State) : Host.Outcome State Fault Refusal := collForm t 4 d s

/-- COLL_ALL_TO_ALL (R245). -/
def execCollAllToAll (t : Nat) (d : Desc) (s : State) : Host.Outcome State Fault Refusal := collForm t 5 d s

/-- The waiting descriptor is accepted where it may be (R238); a tile whose pan drains starts none (R413). -/
def State.collRelease (s : State) (t : Nat) : State :=
  match (s.stop t).co.waiting with
  | d :: rest =>
    if s.collMustWait t d || s.draining t then s
    else
      let s1 := s.modCo t fun c => { c with waiting := rest }
      match s1.collCode t d with
      | 0 => s1.collStart t d
      | c => s1.cmpXfer t 3 c 0 d.cctag (s1.latch t)
  | [] => s

/-- COLL_DESCRIPTOR_RELEASE (R238). -/
def execCollDescriptorRelease (t : Nat) (s : State) : Host.Outcome State Fault Refusal := atTile t s fun s => s.collRelease t

/-! ## Completion of a member (R263) -/

/-- A member's collective ends with its completion record. -/
def State.memberEnd (s : State) (t : Nat) (m : CollM) (status commit rank : Nat) (saf : BitVec 8) : State :=
  let data : BitVec 128 := m.ctag ++ BitVec.ofNat 32 (min m.dropped (2 ^ 32 - 1)) ++ (0 : BitVec 12) ++ BitVec.ofNat 20 commit ++ BitVec.ofNat 20 rank ++ saf ++
    BitVec.ofNat 4 status
  let s1 := (s.modSi t fun si => { si with msgs := si.msgs.filter fun x => !x.ofColl m.coll }).modCo t fun c => { c with
    live := c.live.filter fun x => x.coll != m.coll, lastst := BitVec.ofNat 4 status }
  let s2 := s1.cmpCmd t 3 status m.ctag m.start data
  if status ≤ 1 then s2 else s2.qcEvent t

/-- The live collective of a record's header, if its signature is the member's. -/
def State.memberOf (s : State) (t : Nat) (h : THdr) : Option CollM :=
  (s.stop t).co.live.find? fun m => m.coll == h.coll.toNat && m.sig == h.sig

/-! ## Results (R249) -/

/-- Where a segment's result goes at a member (R242, R244): nothing for the launch segment, or for another member's block. -/
def State.resultAt (s : State) (m : CollM) (g : Group) (seg : Nat) : Option Nat :=
  let a := Acw.ofWord g.acw
  let l := s.img.act.formats
  let r := fmtOf l a.rfmt
  let e := a.full l
  let spb := max 1 (segCount m.count e)
  if seg ≥ segTally then none
  else if m.cop = 0 then some (m.dst + seg * r.bytes a.blk e)
  else if m.cop = 1 ∧ seg / spb = m.member then some (m.dst + seg % spb * r.bytes a.blk e)
  else none

/-- The packets of a result are written to DST. -/
def State.writeResult (s : State) (t : Nat) (h : THdr) (ps : List Pkt) : State :=
  match s.memberOf t h, s.groupOf h.coll.toNat with
  | some m, some g =>
    match s.resultAt m g h.seg.toNat with
    | some a => ps.foldl (fun s p => (s.countC1 t p).emit (.tpWrite t (a + p.hdr.addr.toNat) (slice p.data 0 p.hdr.plen.toNat))) s
    | none => s
  | _, _ => s

/-- What collective traffic at an SI goes through first (R380, R407, R415): duplicates, late and foreign packets end here. -/
def State.collForm (s : State) (t : Nat) (p : Pkt) (f : State → State) : State :=
  let r := s.e2eOk t p.hdr
  if !r.2 then r.1
  else if r.1.isLate p.hdr then r.1.dropLate t p.hdr
  else
    match r.1.groupOf p.hdr.coll.toNat with
    | some g => if g.pan = p.hdr.pan.toNat then f r.1 else r.1.foreign t uSi p.hdr true
    | none => (r.1.modSi t fun si => { si with bounds := inc8 si.bounds }).respond t p.hdr nBounds

/-- RED_DOWN_ARRIVE (R249): a member writes the result to DST and answers; the launch result lets a data kind begin. A fenced
client's copy is discarded (R112). -/
def execRedDownArrive (t : Nat) (p : Pkt) (s : State) : Host.Outcome State Fault Refusal :=
  atTile t s fun s =>
    if p.hdr.type = tRedDown then
      s.collForm t p fun s =>
        if (s.stop t).ro.clientFenced then s
        else if !countOk p.hdr then s.boundsFail t p.hdr
        else
          let r := s.assemble t p
          let s1 := r.1.writeResult t p.hdr r.2.1
          match r.2.2 with
          | some _ =>
            let s2 := s1.respondDown t p.hdr 0
            if p.hdr.seg.toNat = segLaunch then (s2.modM t p.hdr.coll.toNat fun m => if m.sig == p.hdr.sig then { m with launched := true } else m).collPump t
            else s2
          | none => s1
    else s

/-! ## Control records -/

/-- The control record of a packet, where it is one of kind `k` on a VC (R209). -/
def isCtl (p : Pkt) (k : Nat) (vc : BitVec 2) : Bool := p.hdr.type == tCtl && p.hdr.vc == vc && (ctlOfBytes p.data).kind.toNat == k

/-- The answer to a control record (R259): one towards a root or deputy, on VC2, is ACKed; one down a tree is answered as a multicast. -/
def State.ctlAck (s : State) (t : Nat) (h : THdr) : State := if h.vc = 2 then s.respond t h 0 else s.respondDown t h 0

/-- A control record at a tile: checked, answered ACK, and acted on once (R88, R209, R259). -/
def State.ctlForm (s : State) (t : Nat) (p : Pkt) (f : State → State) : State :=
  s.collForm t p fun s =>
    if !countOk p.hdr then s.boundsFail t p.hdr
    else
      match (s.stop t).si.keyState (keyOf p.hdr) s.ft, p.hdr.resend == 1 with
      | some true, r => if r then s.ctlAck t p.hdr else s
      | some false, false => s
      | _, _ => f ((s.modSi t fun si => si.closeKey (keyOf p.hdr) true s.ft).ctlAck t p.hdr)

/-- A collective enters the ended list and its slots at the tile's CU are freed (R255). -/
def State.cuEnd (s : State) (t coll : Nat) (sig : Word) : State :=
  let s1 := (List.range (nSlots s.build)).foldl (fun s i =>
    let x := s.slot t i
    if x.state != 0 && x.state != 5 && x.key.coll == coll then (s.dropPartial t i).freeSlot t i else s) s
  s1.modCu t fun c => { c with
    ended := ({ coll := coll, sig := sig, expires := s.ft + msFc } :: c.ended).take 16, stopped := c.stopped.filter fun x => x != (coll, sig) }

/-- The rank that a MISMATCH record names (R254): a partial is resolved to the lowest member rank of that child's subtree, its plan node
being the one of that number on the tile that sent the record, in whatever stripe. -/
def State.mismatchRank (s : State) (t : Nat) (r : CollRoot) (h : THdr) (c : Ctl) : Nat :=
  if c.arg.getLsbD 20 then
    match s.groupOf r.coll with
    | none => 0
    | some g =>
      let p := s.planAt t g
      match p.nodes.find? fun n => n.pnode == (c.arg.extractLsb' 8 12).toNat && n.node == h.snode.toNat && n.tile == h.stile.toNat with
      | some n => s.rankOfChild g p n.stripe (nth default n.children (c.arg.extractLsb' 0 8).toNat)
      | none => 0
  else c.rank.toNat

/-- A MISMATCH record finds the root's record of its COLL, or opens one where nothing has reached the root yet (R254, DEDUCED, log entry
60). -/
def State.mismatchRoot (s : State) (t : Nat) (h : THdr) : State × Option CollRoot :=
  match s.rootAt t h.coll.toNat with
  | some r => (s, some r)
  | none =>
    match s.groupOf h.coll.toNat with
    | none => (s, none)
    | some g => match s.openRoot t g (s.planAt t g) h with
      | some s1 => (s1, s1.rootAt t h.coll.toNat)
      | none => (s, none)

/-- COLL_MISMATCH_RECORD (R254). -/
def execCollMismatchRecord (t : Nat) (p : Pkt) (s : State) : Host.Outcome State Fault Refusal :=
  atTile t s fun s =>
    if isCtl p 2 2 then
      s.ctlForm t p fun s =>
        if s.hasEnded t p.hdr then s
        else
          match s.mismatchRoot t p.hdr with
          | (s1, some r) => if r.state = 4 then s1 else s1.rootAbort t r 2 (s1.mismatchRank t r p.hdr (ctlOfBytes p.data))
          | (s1, none) => s1
    else s

/-- The deputy's record of a collective is changed by `f`, and made where there is none. -/
def State.modDep (s : State) (t : Nat) (h : THdr) (f : CollDep → CollDep) : State :=
  s.modCo t fun c =>
    if c.deps.any fun d => d.coll == h.coll.toNat && d.sig == h.sig then
      { c with deps := c.deps.map fun d => if d.coll == h.coll.toNat && d.sig == h.sig then f d else d }
    else { c with deps := c.deps ++ [f { coll := h.coll.toNat, sig := h.sig, pan := h.pan.toNat, l := 0, cause := none }] }

/-- COLL_COMMIT_PROGRESS (R259). -/
def execCollCommitProgress (t : Nat) (p : Pkt) (s : State) : Host.Outcome State Fault Refusal :=
  atTile t s fun s =>
    if isCtl p 3 2 then
      s.ctlForm t p fun s => if s.hasEnded t p.hdr then s else s.modDep t p.hdr fun d => { d with l := (ctlOfBytes p.data).rank.toNat }
    else s

/-- What ends at a tile with a final COMMIT or an ABORT (R255): the CU's slots and the deputy's record; a re-send tile has taken
the record before. -/
def State.collOver (s : State) (t : Nat) (h : THdr) : State :=
  (s.cuEnd t h.coll.toNat h.sig).modCo t fun c => { c with deps := c.deps.filter fun d => !(d.coll == h.coll.toNat && d.sig == h.sig) }

/-- A final COMMIT or an ABORT at a tile: `abort` counts (R255, R263). An ABORT ends the member's collective of its COLL, a differing
member's too, whose signature is another (R254, DEDUCED, log entry 60). -/
def State.collEnded (s : State) (t : Nat) (p : Pkt) (abort : Bool) : State :=
  if s.hasEnded t p.hdr then s
  else
    let c := ctlOfBytes p.data
    let st := (c.arg.extractLsb' 17 4).toNat
    let s1 := s.collOver t p.hdr
    match (if abort then s1.liveOf t p.hdr.coll.toNat else s1.memberOf t p.hdr) with
    | some m =>
      if (s.stop t).ro.clientFenced then s1.modCo t fun c => { c with live := c.live.filter fun x => x.coll != m.coll }
      else if abort then
        (s1.modCo t fun c => { c with aborts := inc8 c.aborts }).memberEnd t m st (if st = 2 then 0 else c.rank.toNat) (if st = 2 then c.rank.toNat else 0) 0
      else s1.memberEnd t m st c.rank.toNat 0 c.saf
    | none => s1

/-- COLL_COMMIT_FINAL (R255). -/
def execCollCommitFinal (t : Nat) (p : Pkt) (s : State) : Host.Outcome State Fault Refusal :=
  atTile t s fun s => if isCtl p 3 3 then s.ctlForm t p fun s => s.collEnded t p false else s

/-- COLL_ABORT (R255). -/
def execCollAbort (t : Nat) (p : Pkt) (s : State) : Host.Outcome State Fault Refusal :=
  atTile t s fun s => if isCtl p 4 3 then s.ctlForm t p fun s => s.collEnded t p true else s

/-! ## Replay -/

/-- The flags of a REPLAY order (R259): plan, replay number, LAUNCH, TALLY and DEP. -/
def orderSaf (plan no : Nat) (launch tally dep : Bool) : BitVec 8 :=
  BitVec.ofNat 2 plan ++ BitVec.ofNat 2 no ++ BitVec.ofBool launch ++ BitVec.ofBool tally ++ BitVec.ofBool dep ++ (0 : BitVec 1)

/-- Whether a message distributes a segment's result of a collective (R249). -/
def Msg.downSeg (m : Msg) (coll : Nat) : Bool :=
  match m.owner with
  | .down c .launch => c == coll
  | .down c (.seg _) => c == coll
  | _ => false

/-- The root replays a collective on a plan (R258). A segment that stays COMBINED, and whose result not every target has, is
distributed again where the plan changes (`again`), on the new plan's tree (DEDUCED, log entry 812). A final COMMIT on its way is
withdrawn. -/
def State.rootReplay (s : State) (t : Nat) (g : Group) (r : CollRoot) (again : Bool) (plan cause pnode : Nat) : State :=
  let keeps := match (nth default g.plans plan).rootOf 0 with | some n => n.node == s.node && n.tile == t | none => false
  let no := r.replays + 1
  let kept := if again then r.segs.map fun e => (e.1, if e.2 = 2 then 1 else e.2) else r.segs
  let r1 := { r with
    state := 2, replays := no, acted := [(cause, pnode)], segs := if keeps then kept else []
    launch := if r.launch = 2 then 2 else if keeps then (if again && r.launch == 3 then 1 else r.launch) else 0
    deputy := (nth default g.plans plan).deputy, progress := none, due := none }
  let launch := r1.launch != 2
  let tally := (r.cop == 2 || r.cop == 3 || r.cop == 5) && r.launch == 2 && r.tally != 2
  let s1 := (s.modCu t fun c => { c with plans := c.plans.set g.id plan }).modRoot t r.coll fun _ => r1
  let s2 := s1.modSi t fun si => { si with msgs := si.msgs.filter fun m => m.owner != .down r.coll .final && !(again && m.downSeg r.coll) }
  s2.downTree t r1 tCtl (nth default g.plans plan).ctlTree 0 0 (0, 0) .order
    (ctlRec 5 (cause * 2 ^ 17 + pnode) r.l (orderSaf plan no launch tally r.dep))

/-- The root acts on a cause (R258), also in FINAL, but no more once an ABORT is on its way (R255). The switch of plan applies to every
live collective of the group. -/
def State.rootCause (s : State) (t : Nat) (g : Group) (r : CollRoot) (cause pnode : Nat) : State :=
  if r.state ≥ 4 ∨ r.acted.contains (cause, pnode) = true then s
  else if cause = 5 then s.rootAbort t r 5 r.l
  else if r.replays ≥ 2 then s.rootAbort t r 3 r.l
  else
    let cur := Tab.get 0 (s.stop t).cu.plans g.id
    if cause = 3 then s.rootReplay t g r false cur cause pnode
    else
      match (nth default g.plans cur).nodes.find? fun n => n.pnode == pnode && n.fallback != 0 with
      | none => s.rootAbort t r 5 r.l
      | some n =>
        let again := n.fallback != cur
        ((s.stop t).co.roots.filter fun x => x.group == g.id && x.coll != r.coll && decide (x.state < 4)).foldl
          (fun s x => if x.replays ≥ 2 then s.rootAbort t x 3 x.l else s.rootReplay t g x again n.fallback cause pnode)
          (s.rootReplay t g r again n.fallback cause pnode)

/-- COLL_REPLAY_CAUSE (R258, R262): the root acts on it; the deputy waits 50 µs for an order. -/
def execCollReplayCause (t : Nat) (p : Pkt) (s : State) : Host.Outcome State Fault Refusal :=
  atTile t s fun s =>
    if isCtl p 5 2 then
      s.ctlForm t p fun s =>
        let c := ctlOfBytes p.data
        let cause := (c.arg.extractLsb' 17 4).toNat
        let pnode := (c.arg.extractLsb' 0 12).toNat
        if s.hasEnded t p.hdr then s
        else
          match s.rootOf t p.hdr.coll.toNat p.hdr.sig, s.groupOf p.hdr.coll.toNat with
          | some r, some g => s.rootCause t g r cause pnode
          | none, some g =>
            if (s.planAt t g).deputy = some (s.node, t) then
              s.modDep t p.hdr fun d => if d.cause.isNone then { d with cause := some (s.ft + 50 * usFc, cause, pnode) } else d
            else s
          | _, none => s
    else s

/-- Whether a REPLAY order is newer than the last one applied at the tile (R262). -/
def State.orderNewer (s : State) (t : Nat) (h : THdr) (no : Nat) (dep : Bool) : Bool :=
  match (s.stop t).cu.orders.find? fun o => o.coll == h.coll.toNat && o.sig == h.sig with
  | some o => decide (o.no < no) || (o.no == no && dep && !o.dep)
  | none => true

/-- Whether a segment is replayed by an order (R260, R261). -/
def replayed (l : Nat) (launch tally : Bool) (seg : Nat) : Bool :=
  if seg = segLaunch then launch else if seg = segTally then tally else decide (l ≤ seg)

/-- The partial of a SENDING slot goes to the node's parent under the plan now in force, again (R260). -/
def State.resendPartial (s : State) (t k : Nat) (g : Group) (p : Plan) (n : PlanNode) : State :=
  match (s.stop t).si.msgs.find? fun m => m.owner == .partialOf k, p.nodeOf n.parent n.stripe with
  | some m, some q =>
    ((s.modMsg t m.uid fun x => { x with
        notReady := 0
        hdr := { x.hdr with
          dnode := BitVec.ofNat 12 q.node, dtile := BitVec.ofNat 9 q.tile, child := BitVec.ofNat 8 n.childIdx
          ctag := mkTag (s.slot t k).saf false n.parent } }).resendMsg t m.uid).feedSmall t
  | _, _ => s.sendPartial t k g p n

/-- A CU applies a REPLAY order (R260). -/
def State.cuOrder (s : State) (t : Nat) (g : Group) (coll plan l : Nat) (launch tally : Bool) : State :=
  let s1 := s.modCu t fun c => { c with
    plans := c.plans.set g.id plan, done := c.done.filter fun d => !(d.1.coll == coll && replayed l launch tally d.1.seg) }
  let p := s1.planAt t g
  (List.range (nSlots s.build)).foldl (fun s i =>
    let x := s.slot t i
    if x.state = 0 ∨ x.state = 5 ∨ x.key.coll ≠ coll then s
    else
      match p.nodeOf x.key.pnode (g.stripeOf x.key.seg) with
      | some n =>
        if !x.proxy && !(n.node == s.node && n.tile == t) then (s.dropPartial t i).freeSlot t i
        else if x.state = 3 then s.resendPartial t i g p n
        else s
      | none => (s.dropPartial t i).freeSlot t i) s1

/-- A member applies a REPLAY order (R261): it sends its contributions again, and reads its source and its counts again (R247). -/
def State.memberOrder (s : State) (t : Nat) (g : Group) (m : CollM) (l : Nat) (launch tally : Bool) : State :=
  let hit (x : Msg) : Bool := match x.owner with | .contrib c k => c == m.coll && replayed l launch tally k | _ => false
  let s0 := (s.modSi t fun si => { si with msgs := si.msgs.filter fun x => !hit x && x.owner != .counts m.coll }).modM t m.coll fun m => { m with
    next := min m.next l, waiting := false, known := l, counts := none }
  let s1 := if m.cop = 5 && !m.stopped then s0.readCounts t m g else s0
  let s2 := if launch && !m.stopped then s1.sendLaunch t m g true else s1
  let s3 := if tally && m.tallySent && !m.stopped then s2.sendTally t m g true else s2
  s3.collPump t

/-- A root that hears an order of its deputy for its own collective frees its record (R262), whatever the order's number. -/
def State.rootYield (s : State) (t : Nat) (h : THdr) : State :=
  s.modCo t fun k => { k with roots := k.roots.filter fun r => !(r.coll == h.coll.toNat && r.sig == h.sig && !r.dep) }

/-- COLL_REPLAY_ORDER (R260 to R262). -/
def execCollReplayOrder (t : Nat) (p : Pkt) (s : State) : Host.Outcome State Fault Refusal :=
  atTile t s fun s =>
    if isCtl p 5 3 then
      s.ctlForm t p fun s =>
        let c := ctlOfBytes p.data
        let plan := (c.saf.extractLsb' 6 2).toNat
        let no := (c.saf.extractLsb' 4 2).toNat
        let launch := c.saf.getLsbD 3
        let tally := c.saf.getLsbD 2
        let dep := c.saf.getLsbD 1
        match s.groupOf p.hdr.coll.toNat with
        | none => s
        | some g =>
          let s := if dep && !s.hasEnded t p.hdr then s.rootYield t p.hdr else s
          if s.hasEnded t p.hdr || !s.orderNewer t p.hdr no dep then s
          else
            let s1 := s.modCu t fun k => { k with orders :=
              { coll := p.hdr.coll.toNat, sig := p.hdr.sig, no := no, dep := dep } :: (k.orders.filter fun o => o.coll != p.hdr.coll.toNat) }
            let s2 := s1.modCo t fun k => { k with
              replays := inc8 k.replays
              deps := k.deps.map fun d => if d.coll == p.hdr.coll.toNat then { d with cause := none } else d }
            let s3 := s2.cuOrder t g p.hdr.coll.toNat plan c.rank.toNat launch tally
            match s3.memberOf t p.hdr with
            | some m => s3.memberOrder t g m c.rank.toNat launch tally
            | none => s3
    else s

/-- DEPUTY_TAKEOVER (R262). -/
def execDeputyTakeover (t coll : Nat) (s : State) : Host.Outcome State Fault Refusal :=
  atTile t s fun s =>
    match (s.stop t).co.deps.find? (fun d => d.coll == coll), s.groupOf coll with
    | some d, some g =>
      match d.cause with
      | some (due, cause, pnode) =>
        let cur := Tab.get 0 (s.stop t).cu.plans g.id
        match (nth default g.plans cur).nodes.find? fun n => n.pnode == pnode && n.fallback != 0 with
        | some n =>
          if due ≤ s.ft ∧ (s.stop t).co.roots.length < 16 then
            let r : CollRoot := { (default : CollRoot) with
              coll := coll, sig := d.sig, group := g.id, pan := d.pan, gtl := s.ft + g.gtl * usFc, l := d.l, dep := true, progressAt := s.ft }
            let s1 := s.modCo t fun c => { c with
              roots := c.roots ++ [r], deps := c.deps.filter fun x => x.coll != coll, takeovers := inc8 c.takeovers }
            s1.rootReplay t g r (n.fallback != cur) n.fallback cause pnode
          else s
        | none => s
      | none => s
    | _, _ => s

/-! ## Timers -/

/-- COMMIT_PROGRESS_TIMER (R249): at most one progress record per µs, naming the highest L then due. -/
def execCommitProgressTimer (t coll : Nat) (s : State) : Host.Outcome State Fault Refusal :=
  atTile t s fun s =>
    match (s.stop t).co.roots.find? fun r => r.coll == coll with
    | some r => if r.state = 1 ∧ r.progress = none ∧ r.progressAt ≤ s.ft ∧ r.l < r.dueL then s.sendProgress t r r.dueL else s
    | none => s

/-- GTL_TIMEOUT (R252). -/
def execGtlTimeout (t coll : Nat) (s : State) : Host.Outcome State Fault Refusal :=
  atTile t s fun s =>
    match (s.stop t).co.roots.find? fun r => r.coll == coll with
    | some r => if r.state < 3 ∧ r.gtl ≤ s.ft then s.rootAbort t r 3 r.l else s
    | none => s

/-- MEMBER_TIMEOUT (R251): a member in WAIT; one of a data kind that still awaits the launch result has nothing unanswered either
(DEDUCED, log entry 814). -/
def execMemberTimeout (t coll : Nat) (s : State) : Host.Outcome State Fault Refusal :=
  atTile t s fun s =>
    match s.liveOf t coll with
    | some m => if (m.waiting || (s.stop t).si.msgs.all fun x => !x.ofColl coll) = true ∧ m.deadline ≤ s.ft then (s.raiseAt t uSi 0x0404 0 coll).memberEnd t m 3 0 0 0 else s
    | none => s

/-- A root's record is freed. -/
def State.rootGone (s : State) (t coll : Nat) : State :=
  (s.modCo t fun c => { c with roots := c.roots.filter fun r => r.coll != coll }).modSi t fun si => { si with
    msgs := si.msgs.filter fun m => match m.owner with | .down c _ => c != coll | _ => true }

/-- ROOT_RECORD_END (R250). -/
def execRootRecordEnd (t coll : Nat) (s : State) : Host.Outcome State Fault Refusal :=
  atTile t s fun s =>
    match (s.stop t).co.roots.find? fun r => r.coll == coll with
    | some r => (match r.due with | some d => if d ≤ s.ft then s.rootGone t coll else s | none => s)
    | none => s

/-- STOP_COLL_ABORT_WRITE (R256, R270). -/
def execStopCollAbortWrite (t : Nat) (m : CMsg) (s : State) : Host.Outcome State Fault Refusal :=
  atTile t s fun s => stopWrite t 0x510 m s fun s =>
    match (s.stop t).co.roots.find? fun r => r.coll == (regData m).toNat % 65536 with
    | none => (s, rError)
    | some r => (if r.state < 3 then s.rootAbort t r 3 r.l else s, rOk)

/-! ## What other units cause -/

/-- A fenced or reset client's live collectives are reported to their roots and deputies (R257, cause 5). -/
def State.collClientLost (s : State) (t : Nat) : State :=
  (s.stop t).co.live.foldl (fun s m =>
    match s.img.act.groups.find? fun g => g.id == m.group with
    | some g => s.ctlBoth t g m.coll 0 m.sig (causeRec 5 0 m.rank)
    | none => s) s

/-- Every collective at a tile ends by a fault action (R462, action 3). -/
def State.collAbortTile (s : State) (t : Nat) : State :=
  let s1 := (s.stop t).co.roots.foldl (fun s r => if r.state < 3 then s.rootAbort t r 3 r.l else s) s
  (s.stop t).co.live.foldl (fun s m =>
    if (s.stop t).co.roots.any fun r => r.coll == m.coll then s else (s.memberEnd t m 3 0 0 0).cuEnd t m.coll m.sig) s1

/-- The plan nodes, each once, to which a member's contributions of some stripe leave over link `n` (R231, R257). -/
def State.leavesOver (s : State) (t : Nat) (g : Group) (member n : Nat) : List Nat :=
  ((List.range g.nstr).filterMap fun k =>
    match (s.planAt t g).leafOf member k with
    | some (x, _) =>
      let e := Tab.get (0 : Word) (s.stop t).ro.egress x.node
      let via := if e.getLsbD 29 then (e.extractLsb' 8 8).toNat else (e.extractLsb' 0 8).toNat
      if x.node ≠ s.node ∧ e.getLsbD 31 = true ∧ via = n then some x.pnode else none
    | none => none).eraseDups

/-- A lost link's plan edges are reported (R257, cause 1): by each CU that holds a slot, and by each member SI with a live
collective, whose edge to the parent crosses the link. -/
def State.collLinkLost (s : State) (n : Nat) : State :=
  s.tiles.foldl (fun s t =>
    let s1 := (s.openSegs t).foldl (fun s e =>
      match s.groupOf e.1.coll with
      | some g =>
        match (s.planAt t g).nodeOf e.1.pnode (g.stripeOf e.1.seg) with
        | some x => if !x.root && x.edge != 0xFF && x.edge == n then s.replayCause t e.1 e.2 1 x.parent else s
        | none => s
      | none => s) s
    (s.stop t).co.live.foldl (fun s m =>
      match s.groupOf m.coll with
      | some g =>
        (s.leavesOver t g m.member n).foldl (fun s x => s.ctlBoth t g m.coll 0 m.sig (causeRec 1 x 0)) s
      | none => s) s1) s

/-- A chip is lost (R257, cause 5; R381): the live collectives with a member on it are reported. -/
def State.collNodeLost (s : State) (node : Nat) : State :=
  s.tiles.foldl (fun s t =>
    (s.stop t).co.live.foldl (fun s m =>
      match s.groupOf m.coll with
      | some g =>
        match s.pan? g.pan with
        | some p =>
          match (s.members g).find? fun r => (p.rank r).map (·.1) == some node with
          | some r => s.ctlBoth t g m.coll 0 m.sig (causeRec 5 0 r)
          | none => s
        | none => s
      | none => s) s) s

end Sys2Proof.Machine
end

