-- ==== Sys2Proof/Machine/Mport.lean ====
section
/-! DEFINITION. The M-plane: requests of an M-port, their way to the slices and back, slice attachments with their atomic units,
local and remote memory descriptors and the memory-service tile (R307 to R325, R583, R589). -/

namespace Sys2Proof.Machine

/-! ## Parts -/

/-- The M-port of the tile is changed by `f`. -/
def State.modMp (s : State) (t : Nat) (f : MPort → MPort) : State := s.modStop t fun st => { st with mp := f st.mp }

/-- The attachment of slice `sl`. -/
def State.attach (s : State) (sl : Nat) : Attach := Tab.get default s.slices sl

/-- The attachment of slice `sl` is changed by `f`. -/
def State.modAttach (s : State) (sl : Nat) (f : Attach → Attach) : State := { s with slices := s.slices.set sl (f (s.attach sl)) }

/-- The interleave (R311): slice and row of a granule. -/
def granuleMap (g : Nat) : Nat × Nat :=
  let h := g ^^^ (g >>> 7) ^^^ (g >>> 14)
  (h % 96, h / 96)

/-- The sub-channel between a tile and a slice (R309). -/
def subCh (t sl : Nat) : Nat := (sl + tileX t + tileY t) % 8

/-- Installed bytes (R312). -/
def State.installed (s : State) : Nat := 96 * s.img.act.memS * 256

/-- An access lies wholly inside one window of the pan with the right it needs (R324): 0 R, 1 W, 2 A. -/
def PanRec.allows (p : PanRec) (addr n right : Nat) : Bool :=
  p.wins.any fun w => decide (w.base ≤ addr ∧ addr + n ≤ w.base + w.size) && (if right = 0 then w.r else if right = 1 then w.w else w.a)

/-- A fabric address in the memory window of this chip, below the installed memory (R75, R76, R310). -/
def State.ownMem (s : State) (addr n : Nat) : Bool :=
  decide (addr / 2 ^ 44 = 0 ∧ addr / 2 ^ 40 % 16 = s.chipPos ∧ addr % 2 ^ 40 + n ≤ s.installed)

/-- A transfer cut at granule boundaries: offset and bytes of each piece (R323, R583). -/
def granulesF : Nat → Nat → Nat → Nat → List (Nat × Nat)
  | 0, _, _, _ => []
  | f + 1, addr, ofs, n =>
    if n = 0 then []
    else
      let k := min n (256 - (addr + ofs) % 256)
      (ofs, k) :: granulesF f addr (ofs + k) (n - k)

/-- The pieces of `n` bytes at `addr`. -/
def granules (addr n : Nat) : List (Nat × Nat) := granulesF (n / 256 + 2) addr 0 n

/-! ## Issue -/

/-- The share balance now (R314). -/
def MPort.balance (m : MPort) (ft : Nat) : Nat := min 4096 (m.bal + 50 * (ft - m.balAt))

/-- The plane message of an issued request. -/
def MReq.msg (r : MReq) (t : Nat) (g : Bool) : MMsg :=
  { ret := false, kind := r.kind, tile := t, slice := r.slice, tag := BitVec.ofNat 8 r.tag, row := r.row, lo := r.lo, len := r.len,
    guaranteed := g, status := 0, data := r.data }

/-- Whether an M-router input buffer is free (R307): no message waits in it or is on its way to it. -/
def Stop.mFree (st : Stop) (port sub : Nat) (ret : Bool) : Bool :=
  !(st.mrx.any fun x => x.port == port && x.sub == sub && x.ret == ret) &&
  !(st.mheld.any fun e => e.1 == port && e.2.1 == sub && e.2.2.ret == ret)

/-- A message sets out for the input buffer `port` of the M-router at `t`, which it takes. -/
def State.mTake (s : State) (t port sub : Nat) (m : MMsg) : State :=
  s.modStop t fun st => { st with mrx := st.mrx ++ [{ port := port, sub := sub, ret := m.ret, got := 0, bad := false }] }

/-- A message of the M-port or of a slice attachment sets out for its own router's input `port`. -/
def State.mEnter (s : State) (t port sub : Nat) (m : MMsg) : State := (s.mTake t port sub m).emit (.mMsg t port sub m)

/-- Bytes that the return of a READ or an ATOMIC brings (R309). -/
def retRoom (k : MKind) (len : Nat) : Nat := if k == .write then 0 else len

/-- Return room that an M-port's outstanding requests have reserved, of its 4 KiB (R31, R309). -/
def MPort.reserved (m : MPort) : Nat := ((m.reqs.filter fun r => r.lost.isNone).map fun r => retRoom r.kind r.len).sum

/-- The request at the front of the line may be issued: the router has room for it, the return has room in the M-port, and the row is
not held (R16, R309). -/
def State.mpMay (s : State) (t : Nat) (r : MReq) : Bool :=
  !s.rowHeld t && (s.stop t).mFree 4 (subCh t r.slice) false &&
  decide ((s.stop t).mp.reserved + retRoom r.kind r.len ≤ 4096)

/-- The request at the front of the line is issued, where a tag is free (R310, R314, R325). -/
def State.mpIssue (s : State) (t : Nat) : State :=
  let m := (s.stop t).mp
  match m.line, firstBelow (fun k => !m.reqs.any fun r => r.tag == k) 256 with
  | .req r :: rest, some tag =>
    if !s.mpMay t r then s else
    let b := m.balance s.ft
    let g := decide (r.len ≤ b)
    let r1 := { r with tag := tag, deadline := s.ft + 20 * usFc }
    (s.modMp t fun m => { m with
        line := rest, reqs := m.reqs ++ [r1], bal := if g then b - r.len else b, balAt := s.ft }).mEnter t 4 (subCh t r.slice) (r1.msg t g)
  | _, _ => s

/-- Every request that may be issued is, at most one on each sub-channel; a FENCE in front holds the rest (R309, R320). -/
def State.mpPump (s : State) (t : Nat) : State := (List.range 8).foldl (fun s _ => s.mpIssue t) s

/-- Kind codes of MPQ_KIND (R581). -/
def kindCode : MKind → Nat
  | .read => 0
  | .write => 1
  | _ => 2

/-- A request enters the M-port's line: the watchpoints of plane M see it (R510). -/
def State.mpEnter (s : State) (t : Nat) (orig : MOrig) (kind : MKind) (addr len : Nat) (data : List Byte) : State :=
  let g := granuleMap (addr % 2 ^ 40 / 256)
  let tag := match orig with | .mp k => k.toNat | _ => 0
  let r : MReq := { (default : MReq) with orig := orig, kind := kind, slice := g.1, row := g.2, lo := addr % 256, len := len, data := data }
  (s.watch (unitId uM (s.phys t)) 0 addr len (kindCode kind * 256 + tag)).modMp t fun m => { m with line := m.line ++ [.req r] }

/-! ## The client's requests (R310, R324) -/

/-- Shape and address of a request (R310): what is refused without regard to the windows. -/
def State.mpShape (s : State) (kind : MKind) (r : MpReq) : Bool :=
  let a := r.addr.toNat
  s.ownMem a r.len &&
  (match kind with
   | .read | .write => decide (1 ≤ r.len ∧ r.len ≤ 256 ∧ a % 256 + r.len ≤ 256)
   | _ => decide ((r.len = 4 ∨ r.len = 8) ∧ a % r.len = 0))

/-- The right that a request needs (R324). -/
def kindRight : MKind → Nat
  | .read => 0
  | .write => 1
  | _ => 2

/-- The bytes that a request carries: a WRITE's from its bus place, an ATOMIC's two operands (R581). -/
def mpBytes (kind : MKind) (r : MpReq) : List Byte :=
  match kind with
  | .read => []
  | .write => slice r.data (r.addr.toNat % 256) r.len
  | _ => slice r.data 0 16

/-- An access that the windows refuse is counted at the tile that refuses it (R324, R330). -/
def State.winRefused (s : State) (t : Nat) : State := s.modMp t fun m => { m with winviol := inc8 m.winviol }

/-- An answer leaves on the MP return channel; one whose crossing has timed out is discarded (R35). -/
def State.mpReply (s : State) (t : Nat) (tag : BitVec 8) (st : Nat) (data : List Byte) : State :=
  if s.shut (.mp t) then s else s.emit (.mpr t tag st data)

/-- A request of the client at its M-port: refused with BOUNDS, or entered. -/
def State.mpForm (s : State) (t : Nat) (kind : MKind) (r : MpReq) : State :=
  if !s.mpShape kind r then s.mpReply t r.tag 2 []
  else if !((s.tilePan t).map fun p => p.allows r.addr.toNat r.len (kindRight kind)).getD false then
    (s.winRefused t).mpReply t r.tag 2 []
  else (s.mpEnter t (.mp r.tag) kind r.addr.toNat r.len (mpBytes kind r)).mpPump t

/-- The M-port takes the next request from its crossing: nothing that came before waits there (R31, R310). -/
def State.mpReady (s : State) (t : Nat) : Bool := (s.stop t).mpq.isEmpty && (s.stop t).mp.line.isEmpty

/-- A request `i` of the client on its MP port, which the M-port performs by `f` (R31): the 32 places of the crossing hold what it does not
take yet, and a full crossing stalls the client. -/
def mpAct (t : Nat) (i : Instr) (s : State) (f : State → State) : Host.Outcome State Fault Refusal :=
  if s.build = .hfS then .fault (.noMPlane t)
  else portAct t (.mp t) (fun st => st.mpq) (fun st q => { st with mpq := q }) 32 (s.mpReady t) i s f

/-- MP_READ (R310). -/
def execMpRead (t : Nat) (r : MpReq) (s : State) : Host.Outcome State Fault Refusal := mpAct t (.mpRead t r) s fun s => s.mpForm t .read r

/-- MP_WRITE (R310). -/
def execMpWrite (t : Nat) (r : MpReq) (s : State) : Host.Outcome State Fault Refusal := mpAct t (.mpWrite t r) s fun s => s.mpForm t .write r

/-- ATOMIC_ADD (R321). -/
def execAtomicAdd (t : Nat) (r : MpReq) (s : State) : Host.Outcome State Fault Refusal := mpAct t (.atomicAdd t r) s fun s => s.mpForm t .add r

/-- ATOMIC_CAS (R321). -/
def execAtomicCas (t : Nat) (r : MpReq) (s : State) : Host.Outcome State Fault Refusal := mpAct t (.atomicCas t r) s fun s => s.mpForm t .cas r

/-- ATOMIC_XCHG (R321). -/
def execAtomicXchg (t : Nat) (r : MpReq) (s : State) : Host.Outcome State Fault Refusal := mpAct t (.atomicXchg t r) s fun s => s.mpForm t .xchg r

/-- MP_FENCE (R310, R320): a FENCE has 0 bytes, and another length breaks its row. -/
def execMpFence (t : Nat) (tag : BitVec 8) (len : BitVec 9) (s : State) : Host.Outcome State Fault Refusal :=
  mpAct t (.mpFence t tag len) s fun s =>
    if len ≠ 0 then s.mpReply t tag 2 [] else s.modMp t fun m => { m with line := m.line ++ [.fence tag] }

/-- A command of the M-port at tile `t` (R21). -/
def atMp (t : Nat) (s : State) (f : State → State) : Host.Outcome State Fault Refusal :=
  if s.build = .hfS then .fault (.noMPlane t) else atTile t s f

/-- FENCE_COMPLETE (R320): every earlier request has been answered. -/
def execFenceComplete (t : Nat) (s : State) : Host.Outcome State Fault Refusal :=
  atMp t s fun s =>
    match (s.stop t).mp.line with
    | .fence tag :: rest =>
      if (s.stop t).mp.reqs.all fun r => r.lost.isSome then
        ((s.modMp t fun m => { m with line := rest }).mpReply t tag 0 []).mpPump t
      else s
    | _ => s

/-! ## Completion of a request -/

/-- A descriptor's message ends with its completion, and what waits may be issued (R83, R89). -/
def State.endDesc (s : State) (t : Nat) (m : Msg) (code : Nat) : State := ((s.cmpDesc t m code).dropMsg t m.uid).issue t

/-- Requests of an M-port that still belong to `o`. -/
def MPort.has (m : MPort) (o : MOrig → Bool) : Bool :=
  (m.reqs.any fun r => r.lost.isNone && o r.orig) || (m.line.any fun w => match w with | .req r => o r.orig | .fence _ => false)

/-- A granule of a local descriptor has been answered (R583): data of a READ is written, and the last answer completes it. -/
def State.descPart (s : State) (t uid ofs : Nat) (read ok : Bool) (data : List Byte) : State :=
  let s1 := match s.msg? t uid with
    | some m => if read && ok then s.emit (.tpWrite t (m.aux + ofs) data) else s
    | none => s
  let s2 := if ok then s1 else s1.modMsgs t (fun m => m.uid == uid) fun m => { m with lastCode := some nError }
  if (s2.stop t).mp.has fun o => match o with | .desc u _ => u == uid | _ => false then s2
  else match s2.msg? t uid with
    | some m => s2.endDesc t m (m.lastCode.getD 0)
    | none => s2

/-- The MRESP message of a served MREAD (R80, R81, R82, R102, R323). -/
def State.mrespPkts (s : State) (t : Nat) (v : Serve) : List Pkt :=
  let n := (v.hdr.w6.extractLsb' 40 24).toNat
  let ra := v.hdr.w6.extractLsb' 0 40
  let bytes := (granules v.hdr.addr.toNat n).flatMap fun g => ((v.got.find? fun e => e.1 == g.1).map (·.2)).getD []
  let k := max 1 (ceilDiv n 2048)
  (List.range k).map fun i =>
    let l := min 2048 (n - 2048 * i)
    { hdr := { s.ansHdr t v.hdr true 0 with
        type := tMresp, last := BitVec.ofBool (i + 1 = k), pcnt := BitVec.ofNat 13 k, pidx := BitVec.ofNat 13 i, plen := BitVec.ofNat 12 l
        addr := ra.setWidth 48 + BitVec.ofNat 48 (2048 * i) }
      data := slice bytes (2048 * i) l }

/-- A served message ends once all its requests are answered (R323). -/
def State.serveEnd (s : State) (t : Nat) (v : Serve) : State :=
  if !v.whole || v.left > 0 then s
  else
    let s1 := s.modMp t fun m => { m with serves := m.serves.filter fun x => x.id != v.id }
    if v.read then (if v.bad then s1 else (s1.mrespPkts t v).foldl (fun s p => s.inject t p) s1)
    else if v.bad then (s1.failKey t v.hdr).nack t v.hdr nIncomplete
    else s1.ack t v.hdr

/-- A request of a served message has been answered. -/
def State.servePart (s : State) (t id ofs : Nat) (ok : Bool) (data : List Byte) : State :=
  match (s.stop t).mp.serves.find? fun v => v.id == id with
  | none => s
  | some v =>
    let v1 := { v with left := v.left - 1, bad := v.bad || !ok, got := if v.read && ok then v.got ++ [(ofs, data)] else v.got }
    (s.modMp t fun m => { m with serves := m.serves.map fun x => if x.id == id then v1 else x }).serveEnd t v1

/-- A request is answered: OK with its data, or ERROR (R310, R325). A scan read's data goes on to its check unit, where its
arrival is a command of its own. -/
def State.mpDone (s : State) (t : Nat) (r : MReq) (ok : Bool) (data : List Byte) : State :=
  let s1 := s.modMp t fun m => { m with err := if ok then m.err else inc8 m.err }
  match r.orig with
  | .mp tag =>
    let d := if !ok then [] else match r.kind with
      | .read => List.replicate r.lo 0 ++ data
      | .write => []
      | _ => data
    s1.mpReply t tag (if ok then 0 else 1) d
  | .desc uid ofs => s1.descPart t uid ofs (r.kind == .read) ok data
  | .serve id ofs => s1.servePart t id ofs ok data
  | .rake n a b => if ok then s1 else s1.modRake fun k => { k with ownLost := some (lostSpan n a b k.ownLost), lost := satAdd k.lost n }
  | .scan u k => s1.emit (.scanRet u k ok data)

/-- A return reaches the M-port of its tile (R309, R325): the answer of a lost request is discarded. -/
def State.mpReturn (s : State) (t : Nat) (m : MMsg) : State :=
  match (s.stop t).mp.reqs.find? fun r => r.tag == m.tag.toNat && r.lost.isNone with
  | none => s
  | some r =>
    ((s.modMp t fun q => { q with reqs := q.reqs.filter fun x => x.tag != r.tag }).mpDone t r (m.status == 0) m.data).mpPump t

/-- MEM_REQUEST_TIMEOUT (R325). -/
def execMemRequestTimeout (t tag : Nat) (s : State) : Host.Outcome State Fault Refusal :=
  atMp t s fun s =>
    match (s.stop t).mp.reqs.find? fun r => r.tag == tag && r.lost.isNone && decide (r.deadline ≤ s.ft) with
    | none => s
    | some r =>
      let s1 := s.modMp t fun q => { q with reqs := q.reqs.map fun x => if x.tag == tag then { x with lost := some (s.ft + usFc) } else x }
      let s2 := { s1 with ctrl := { s1.ctrl with memLost := inc8 s1.ctrl.memLost } }
      (s2.raiseAt t uM 0x0603 0 r.slice).mpDone t r false []

/-- MEM_TAG_RELEASE (R325). -/
def execMemTagRelease (t tag : Nat) (s : State) : Host.Outcome State Fault Refusal :=
  atMp t s fun s =>
    (s.modMp t fun q => { q with reqs := q.reqs.filter fun x => !(x.tag == tag && (match x.lost with | some d => decide (d ≤ s.ft) | none => false)) }).mpPump t

/-! ## The plane -/

/-- Column first (R308). -/
def yxPort (t d out : Nat) : Nat :=
  if tileY d > tileY t then 2 else if tileY d < tileY t then 0
  else if tileX d > tileX t then 1 else if tileX d < tileX t then 3 else out

/-- Where a plane message goes at a stop: an output, 4 where it has arrived; held; or discarded. -/
inductive MWay where
  | out (p : Nat)
  | held
  | gone
  /-- A route table miss (R110). -/
  | miss
  deriving DecidableEq, Repr

/-- The way of a message whose output is `p`: held where a row is, or a port is dead and waits for a fence route set (R16, R115). -/
def State.mVia (s : State) (t p : Nat) : MWay :=
  if s.heldInto t p then .held
  else if p < 4 && s.deadOut t p then (if s.waitsAtDead t p then .held else .gone)
  else .out p

/-- The way of a plane message at stop `t` (R16, R106, R110, R115, R308): the entry of a fence route set in force decides for the message's
destination, and every other entry is the T-plane's alone. -/
def State.mOut (s : State) (t : Nat) (m : MMsg) : MWay :=
  let d := if m.ret then m.tile else sliceTile m.slice
  let plain := if m.ret then yxPort t d 4 else xyPort t d 4
  match Tab.get? (s.stop t).ro.setRoute d with
  | none => s.mVia t plain
  | some e =>
    let p := (e.extractLsb' 0 3).toNat
    if !(e.getLsbD 15 && e.getLsbD 14) then s.mVia t plain
    else if p < 4 ∨ (p = 4 ∧ t = d) then s.mVia t p
    else if p = 7 then .gone else .miss

/-- The output of a router to which a message of way `p` goes: a request that has arrived goes to its slice's attachment (R20, R307). -/
def mPortOf (m : MMsg) (p : Nat) : Nat := if p = 4 ∧ m.ret = false then 5 + m.slice % 2 else p

/-- A sub-channel of an M-router output. -/
def Stop.mout (st : Stop) (port sub : Nat) : MOut :=
  (st.mouts.find? fun o => o.port == port && o.sub == sub).getD { (default : MOut) with port := port, sub := sub, lastReq := 6, lastRet := 6 }

/-- A sub-channel of an M-router output becomes `o`. -/
def Stop.setMout (st : Stop) (o : MOut) : Stop :=
  { st with mouts := st.mouts.filter (fun x => !(x.port == o.port && x.sub == o.sub)) ++ [o] }

/-- Flits of a plane message (R310): a read return has no header flit. -/
def mFlits (m : MMsg) : Nat :=
  if m.ret && m.kind == .read then max 1 (ceilDiv m.data.length 64) else 1 + ceilDiv m.data.length 64

/-- Return room that an attachment's requests hold, of its 4 KiB (R31, R309). -/
def Attach.reserved (a : Attach) : Nat := ((a.queue ++ a.pend.map (·.msg)).map fun m => retRoom m.kind m.len).sum

/-- Room downstream of output `o` for the whole of a message (R309, R315): the neighbour's input buffer, the M-port's 256 bytes of
read return in a fabric cycle, or the attachment's return room. -/
def State.mRoom (s : State) (t o sub : Nat) (m : MMsg) : Bool :=
  if o < 4 then (match neighbour s.build t o with | some u => (s.stop u).mFree (facing o) sub m.ret | none => false)
  else if o = 4 then
    let p := (s.stop t).mp
    m.kind != .read || decide ((if p.retAt = s.ft then p.retBytes else 0) + m.data.length ≤ 256)
  else decide ((s.attach m.slice).reserved + retRoom m.kind m.len ≤ 4096)

/-- The answers of an attachment that may leave, each the oldest of its source (R319). -/
def firstAnswer (ok : SlPend → Bool) : List SlPend → List Nat → Option SlPend
  | [], _ => none
  | p :: ps, seen =>
    if p.ans.isSome && !seen.contains p.msg.tile && ok p then some p else firstAnswer ok ps (p.msg.tile :: seen)

/-- The router input of an answer from slice `sl`. -/
def slicePort (sl : Nat) : Nat := 5 + sl % 2

/-- An answer of a slice's attachment sets out for its M-port, where the router has room and the row is not held (R16, R309, R319). -/
def State.sliceSend (s : State) (sl : Nat) : State :=
  let t := sliceTile sl
  if s.rowHeld t || (s.stop t).ro.routerFenced then s
  else
    match firstAnswer (fun p => (s.stop t).mFree (slicePort sl) (subCh p.msg.tile sl) true) (s.attach sl).pend [] with
    | none => s
    | some p =>
      let a := p.ans.getD (false, [])
      (s.modAttach sl fun x => { x with pend := x.pend.erase p }).mEnter t (slicePort sl) (subCh p.msg.tile sl)
        { p.msg with ret := true, status := b2n (!a.1), data := a.2 }

/-- Every answer that may leave the attachment does, at most one on each sub-channel. -/
def State.sliceDrain (s : State) (sl : Nat) : State := (List.range 8).foldl (fun s _ => s.sliceSend sl) s

/-- A request reaches its slice's attachment (R313): refused with ERROR while the slice port's crossing is shut (R325). -/
def State.sliceTake (s : State) (m : MMsg) : State :=
  if s.shut (.slice m.slice) then
    (s.modAttach m.slice fun a => { a with pend := a.pend ++ [{ tag := 32, msg := m, old := none, ans := some (false, []) }] }).sliceDrain m.slice
  else s.modAttach m.slice fun a => { a with queue := a.queue ++ [m] }

/-- The message of input `i` takes output `o` (R309). -/
def State.mGrant (s : State) (t o sub i : Nat) (m : MMsg) : State :=
  let s1 := s.modStop t fun st =>
    let x := st.mout o sub
    { st with mheld := st.mheld.filter fun e => !(e.1 == i && e.2.1 == sub && e.2.2.ret == m.ret) }.setMout
      { x with busy := s.ft + mFlits m, lastReq := if m.ret then x.lastReq else i, lastRet := if m.ret then i else x.lastRet }
  if o < 4 then
    match neighbour s.build t o with
    | some u => (s1.emit (.mMsg t o sub m)).mTake u (facing o) sub m
    | none => s1
  else if o = 4 then
    (s1.modMp t fun p =>
      if m.kind == .read then { p with retAt := s.ft, retBytes := (if p.retAt = s.ft then p.retBytes else 0) + m.data.length } else p).mpReturn t m
  else s1.sliceTake m

/-- Whether the message of an input may take output `o` now. -/
def State.mMay (s : State) (t o sub : Nat) (e : Nat × Nat × MMsg) : Bool :=
  e.2.1 == sub && (match s.mOut t e.2.2 with | .out p => mPortOf e.2.2 p == o && s.mRoom t o sub e.2.2 | _ => false)

/-- The input that comes first after `last` in the round of the seven inputs. -/
def rrFirst (last : Nat) (l : List (Nat × Nat × MMsg)) : Option (Nat × Nat × MMsg) :=
  l.foldl (fun best e => match best with
    | none => some e
    | some b => if (e.1 + 6 - last) % 7 < (b.1 + 6 - last) % 7 then some e else some b) none

/-- What a sub-channel of an output grants next (R309): the return VC before the request VC, guaranteed messages first, and the inputs in turn. -/
def State.mPick (s : State) (t o sub : Nat) : Option (Nat × Nat × MMsg) :=
  let l := (s.stop t).mheld.filter (s.mMay t o sub)
  let ret := l.any fun e => e.2.2.ret
  let v := l.filter fun e => e.2.2.ret == ret
  let g := v.filter fun e => e.2.2.guaranteed
  let x := (s.stop t).mout o sub
  rrFirst (if ret then x.lastRet else x.lastReq) (if g.isEmpty then v else g)

/-- One sub-channel of an output grants a message, unless it is sending one. -/
def State.mArbOne (s : State) (t o sub : Nat) : State :=
  if s.ft < ((s.stop t).mout o sub).busy then s
  else match s.mPick t o sub with
    | some e => s.mGrant t o sub e.1 e.2.2
    | none => s

/-- Every output of the M-router at `t` grants what it can. -/
def State.mArb (s : State) (t : Nat) : State :=
  if (s.stop t).ro.routerFenced then s
  else
    let subs := ((s.stop t).mheld.map fun e => e.2.1).eraseDups
    subs.foldl (fun s c => (List.range 7).foldl (fun s o => s.mArbOne t o c) s) s

/-- A whole message is in an input buffer of the stop at `t`: discarded, or it competes for its output. -/
def State.mRoute (s : State) (t port sub : Nat) (m : MMsg) : State :=
  match s.mOut t m with
  | .gone => s
  | .miss => s.raiseAt t uM 0x0307 0 0
  | _ => (s.modStop t fun st => { st with mheld := st.mheld ++ [(port, sub, m)] }).mArb t

/-- The messages that waited at a stop decide again. -/
def State.mRelease (s : State) (t : Nat) : State :=
  let l := (s.stop t).mheld
  if l.isEmpty then s
  else l.foldl (fun s e => s.mRoute t e.1 e.2.1 e.2.2) (s.modStop t fun st => { st with mheld := [] })

/-- The M-plane's part of a fabric cycle: routers with messages in their buffers, attachments with answers and M-ports with requests go
on as they can. -/
def State.mCycle (s : State) : State :=
  let s1 := (s.stops.filter fun e => !e.2.mheld.isEmpty).foldl (fun s e => s.mArb e.1) s
  let s2 := (s1.slices.filter fun e => e.2.pend.any fun p => p.ans.isSome).foldl (fun s e => s.sliceDrain e.1) s1
  (s2.stops.filter fun e => !e.2.mp.line.isEmpty).foldl (fun s e => s.mpPump e.1) s2

/-- Whether the M-router at `t` has input `port` (R20, R307). -/
def mPortOk (b : Build) (t port : Nat) : Bool :=
  if port < 4 then (neighbour b t port).isSome else decide (port = 4 ∨ (port < 7 ∧ slicesOf b t ≠ []))

/-- A command at input `port` of the M-router at `t`. -/
def atMPort (t port : Nat) (s : State) (f : State → State) : Host.Outcome State Fault Refusal :=
  if s.build = .hfS then .fault (.noMPlane t)
  else if tileOk s.build t && !mPortOk s.build t port then .fault (.noSuchPort t port)
  else atTile t s f

/-- M_FLIT_ARRIVE (R307, R325): flit `idx` of a message at a stop's input. -/
def execMFlitArrive (t port sub : Nat) (m : MMsg) (idx : Nat) (e : Ecc) (s : State) : Host.Outcome State Fault Refusal :=
  atMPort t port s fun s =>
    let is (x : MRx) : Bool := x.port == port && x.sub == sub && x.ret == m.ret
    let full := (s.stop t).mheld.any fun x => x.1 == port && x.2.1 == sub && x.2.2.ret == m.ret
    let rx := if idx = 0 then { port := port, sub := sub, ret := m.ret, got := 0, bad := false }
      else ((s.stop t).mrx.find? is).getD { port := port, sub := sub, ret := m.ret, got := mFlits m, bad := true }
    if rx.got ≠ idx ∨ full = true then s
    else
      let s1 := match e with
        | .ok => s
        | .corrected => { s.raiseAt t uM 0x0601 0 0 with ctrl := { s.ctrl with memCorr := inc8 s.ctrl.memCorr } }
        | .bad => if rx.bad then s else { s.raiseAt t uM 0x0602 0 0 with ctrl := { s.ctrl with memDropped := inc8 s.ctrl.memDropped } }
      let r1 := { rx with got := idx + 1, bad := rx.bad || e == .bad }
      let s2 := s1.modStop t fun st => { st with mrx := st.mrx.filter (fun x => !is x) ++ (if r1.got ≥ mFlits m then [] else [r1]) }
      if r1.got ≥ mFlits m ∧ !r1.bad then s2.mRoute t port sub m else s2

/-! ## Slice ports -/

/-- A request of this kind is an atomic (R321). -/
def isAtomic (k : MKind) : Bool := k == .add || k == .cas || k == .xchg

/-- The first message of each source, in order of arrival, but for an atomic that an atomic to the same word reached before (R313, R321). -/
def headsOf : List MMsg → List MMsg → List MMsg
  | [], _ => []
  | m :: ms, before =>
    let first := !before.any fun x => x.tile == m.tile
    let behind := isAtomic m.kind && before.any fun x => isAtomic x.kind && x.row == m.row && decide (x.lo < m.lo + m.len ∧ m.lo < x.lo + x.len)
    (if first && !behind then [m] else []) ++ headsOf ms (before ++ [m])

/-- The request that an attachment presents next (R313): of a source that holds a guaranteed request first, round robin within a rank. -/
def Attach.next (a : Attach) : Option MMsg :=
  let heads := headsOf a.queue []
  let g := heads.filter fun h => a.queue.any fun m => m.tile == h.tile && m.guaranteed
  (if g.isEmpty then heads else g).foldl (fun best c => match best with
    | none => some c
    | some b => if (c.tile + 511 - a.ptr) % 512 < (b.tile + 511 - a.ptr) % 512 then some c else some b) none

/-- SLICE_REQUEST_PRESENT (R313, R589): at most 32 are outstanding; an atomic shows as a READ first, and nothing is presented
between it and its WRITE. -/
def execSliceRequestPresent (sl : Nat) (s : State) : Host.Outcome State Fault Refusal :=
  atSlice sl s fun s =>
    let a := s.attach sl
    if a.busy || s.shut (.slice sl) then s
    else
      match a.next, firstBelow (fun k => !a.pend.any fun p => p.tag == k) 32 with
      | some m, some tag =>
        (s.modAttach sl fun a => { a with
            queue := a.queue.erase m, ptr := m.tile, busy := isAtomic m.kind, pend := a.pend ++ [{ tag := tag, msg := m, old := none, ans := none }] }).emit
          (.slq sl (m.kind == .write) (m.row * 256 + m.lo) m.len tag (if m.kind == .write then List.replicate m.lo 0 ++ m.data else []))
      | _, _ => s

/-- The new word of an atomic (R321). -/
def atomicNew (m : MMsg) (old : List Byte) : List Byte :=
  let n := m.len
  match m.kind with
  | .add => bytesOf n ((natOf old + leAt m.data 0 n) % 2 ^ (8 * n))
  | .cas => if natOf old = leAt m.data 0 n then slice m.data 8 n else old
  | .xchg => slice m.data 0 n
  | _ => old

/-- The request of tag `tag` at slice `sl` has its answer, which leaves in its source's order (R319). -/
def State.sliceDone (s : State) (sl tag : Nat) (ok : Bool) (data : List Byte) : State :=
  (s.modAttach sl fun a => { a with pend := a.pend.map fun x => if x.tag == tag then { x with tag := 32, ans := some (ok, data) } else x }).sliceDrain sl

/-- SLICE_RETURN (R321, R325, R589). -/
def execSliceReturn (sl : Nat) (tag : BitVec 8) (st : Nat) (data : List Byte) (s : State) : Host.Outcome State Fault Refusal :=
  atSlice sl s fun s =>
    match (s.attach sl).pend.find? fun p => p.tag == tag.toNat && decide (p.tag < 32) with
    | none => s
    | some p =>
      let m := p.msg
      if st ≠ 0 then
        let s1 := s.modAttach sl fun a => { a with errcnt := inc8 a.errcnt, busy := if isAtomic m.kind && p.old.isNone then false else a.busy }
        let s2 := { s1 with ctrl := { s1.ctrl with memSlice := inc8 s1.ctrl.memSlice } }
        (s2.raise (unitId uSlice sl) 0x0604 0 sl (m.row * 256 + m.lo)).sliceDone sl p.tag false []
      else if m.kind == .read then s.sliceDone sl p.tag true (slice data m.lo m.len)
      else if m.kind == .write then s.sliceDone sl p.tag true []
      else
        match p.old with
        | some old => s.sliceDone sl p.tag true old
        | none =>
          let old := slice data m.lo m.len
          (s.modAttach sl fun a => { a with
              busy := false, pend := a.pend.map fun x => if x.tag == p.tag then { x with old := some old } else x }).emit
            (.slq sl true (m.row * 256 + m.lo) m.len p.tag (List.replicate m.lo 0 ++ atomicNew m old))

/-- SLICE_EVENT (R31, R36, R329, R589): the event crosses the FIFO of four, or is dropped with the overrun flags of the slice and of its
tile's stop. -/
def execSliceEvent (sl : Nat) (code : Byte) (full : Bool) (s : State) : Host.Outcome State Fault Refusal :=
  atSlice sl s fun s =>
    if full then (s.modAttach sl fun a => { a with ovr := true }).modStop (sliceTile sl) fun st => { st with xst := st.xst ||| 8 }
    else s.modAttach sl fun a =>
      let l := a.events ++ [code]
      { a with events := l.drop (l.length - 4) }

/-! ## Descriptors (R583) -/

/-- The granules of a local descriptor enter the M-port. -/
def State.descMem (s : State) (t uid addr n : Nat) (kind : MKind) (data : List Byte) : State :=
  ((granules addr n).foldl (fun s g =>
    s.mpEnter t (.desc uid g.1) kind (addr + g.1) g.2 (if kind = .write then slice data g.1 g.2 else [])) s).mpPump t

/-- A local MWRITE whose source data is all in hand is written (R583). -/
def State.localWrite (s : State) (t : Nat) (m : Msg) : State := s.descMem t m.uid m.hdr.addr.toNat m.len .write m.data

/-- Where a memory descriptor goes (R76, R322, R324, R393): `none` for a refusal, `inl` the own chip, `inr` a peer's tile. -/
def State.memTarget (s : State) (p : PanRec) (d : Desc) (right : Nat) : Option (Unit ⊕ (Nat × Nat)) :=
  let a := d.daddr.toNat
  if a / 2 ^ 44 ≠ 0 ∨ s.build = .hfS ∨ !p.allows a d.len right then none
  else if a / 2 ^ 40 % 16 = s.chipPos then (if s.ownMem a d.len then some (.inl ()) else none)
  else (s.nodeAt (a / 2 ^ 40 % 16)).map fun r => .inr (r.node, r.mtile)

/-- A memory descriptor of kind `k` that only the pan's windows refuse is counted (R324, R330). -/
def State.winDesc (s : State) (t k : Nat) (d : Desc) (right : Nat) : State :=
  let a := d.daddr.toNat
  if d.kind = k ∧ s.descCode t d = 0 ∧ a / 2 ^ 44 = 0 ∧ s.build = .hfE ∧
      ((s.tilePan t).map fun p => p.allows a d.len right) = some false then s.winRefused t
  else s

/-- An MWRITE descriptor (R322, R583). -/
def State.dscMwrite (s : State) (t : Nat) (d : Desc) : State :=
  (s.winDesc t 2 d 1).takeDesc t d fun s p =>
    match s.memTarget p d 1 with
    | none => .inl nBounds
    | some (.inl _) => .inr { s.descMsg t d (s.descHdr t d p 0 0) d.len d.len none with issued := true, circ := none }
    | some (.inr (n, u)) =>
      .inr (s.descMsg t d { s.descHdr t d p tMwrite 0 with dnode := BitVec.ofNat 12 n, dtile := BitVec.ofNat 9 u } d.len d.len none)

/-- DSC_MWRITE (R322, R583). -/
def execDscMwrite (t : Nat) (d : Desc) (s : State) : Host.Outcome State Fault Refusal := descForm t 2 d s fun s => s.dscMwrite t d

/-- A local MREAD is a message of the SI whose granules the M-port reads (R583). -/
def State.localRead (s : State) (t : Nat) (d : Desc) : State :=
  match s.descCode t d, s.tilePan t with
  | 0, some p =>
    match s.memTarget p d 0 with
    | some (.inl _) =>
      let uid := (s.stop t).si.nextUid - 1
      if (s.stop t).si.msgs.any fun m => m.uid == uid && m.dkind == 4 && m.hdr.type == 0 then s.descMem t uid d.daddr.toNat d.len .read [] else s
    | _ => s
  | _, _ => s

/-- An MREAD descriptor (R322, R583). -/
def State.dscMread (s : State) (t : Nat) (d : Desc) : State :=
  let s1 := (s.winDesc t 4 d 0).takeDesc t d fun s p =>
    match s.memTarget p d 0 with
    | none => .inl nBounds
    | some (.inl _) => .inr { s.descMsg t d (s.descHdr t d p 0 0) 0 0 none with issued := true }
    | some (.inr (n, u)) =>
      .inr (s.descMsg t d { s.descHdr t d p tMread 0 with
        dnode := BitVec.ofNat 12 n, dtile := BitVec.ofNat 9 u, w6 := BitVec.ofNat 24 d.len ++ BitVec.ofNat 40 d.aux } 0 0 none)
  if d.kind = 4 then s1.localRead t d else s1

/-- DSC_MREAD (R322, R583). -/
def execDscMread (t : Nat) (d : Desc) (s : State) : Host.Outcome State Fault Refusal := descForm t 4 d s fun s => s.dscMread t d

/-! ## The memory-service tile (R323) -/

/-- The windows that the pan named in PAN has on this chip admit a peer's access (R324). -/
def State.peerWindow (s : State) (h : THdr) (n right : Nat) : Bool :=
  ((s.pan? h.pan.toNat).map fun p => p.allows h.addr.toNat n right).getD false

/-- Whether the tile may perform a peer's access: the windows of the pan named in PAN, and the installed memory (R324, R407). -/
def State.serveOk (s : State) (h : THdr) (n right : Nat) : Bool :=
  s.build == .hfE && s.ownMem h.addr.toNat n && s.peerWindow h n right

/-- A peer's access that the tile refuses with BOUNDS; one that the windows alone refuse is counted (R84, R324, R330). -/
def State.serveRefuse (s : State) (t : Nat) (h : THdr) (n right : Nat) : State :=
  (if s.build == .hfE && s.ownMem h.addr.toNat n && !s.peerWindow h n right then s.winRefused t else s).boundsFail t h

/-- What an MWRITE or MREAD at a tile goes through first (R112, R380, R415). -/
def State.serveForm (s : State) (t : Nat) (p : Pkt) (f : State → State) : State :=
  let r := s.e2eOk t p.hdr
  if !r.2 then r.1
  else if r.1.isLate p.hdr then r.1.dropLate t p.hdr
  else if (s.stop t).ro.clientFenced then r.1.fencedAnswer t p.hdr
  else f r.1

/-- The service record of a key, opened where there is none. -/
def State.serveOf (s : State) (t : Nat) (h : THdr) (read : Bool) : Serve :=
  ((s.stop t).mp.serves.find? fun v => keyOf v.hdr == keyOf h).getD
    { (default : Serve) with id := (s.stop t).mp.nextServe, hdr := h, read := read }

/-- A service record is stored. -/
def State.setServe (s : State) (t : Nat) (v : Serve) : State :=
  s.modMp t fun m => { m with serves := (m.serves.filter fun x => x.id != v.id) ++ [v], nextServe := max m.nextServe (v.id + 1) }

/-- MWRITE_ARRIVE (R323). -/
def execMwriteArrive (t : Nat) (p : Pkt) (s : State) : Host.Outcome State Fault Refusal :=
  atTile t s fun s =>
    if p.hdr.type = tMwrite then
      (s.circTake t p).serveForm t p fun s =>
        if !countOk p.hdr || !s.serveOk p.hdr p.hdr.plen.toNat 1 then s.serveRefuse t p.hdr p.hdr.plen.toNat 1
        else
          let v := s.serveOf t p.hdr false
          if v.whole then s
          else
            let r := s.assemble t p
            let ps := r.2.1.map fun q => (q, granules q.hdr.addr.toNat q.hdr.plen.toNat)
            let v1 := { v with left := v.left + (ps.map fun q => q.2.length).sum, whole := r.2.2.isSome, bad := v.bad && !(p.hdr.pidx == 0 && p.hdr.resend == 1) }
            if ps.isEmpty then r.1
            else
              (ps.foldl (fun s q => q.2.foldl (fun s g =>
                s.mpEnter t (.serve v1.id g.1) .write (q.1.hdr.addr.toNat + g.1) g.2 (slice q.1.data g.1 g.2)) s) (r.1.setServe t v1)).mpPump t
    else s

/-- MREAD_ARRIVE (R323): a repeat of one being read is discarded. -/
def execMreadArrive (t : Nat) (p : Pkt) (s : State) : Host.Outcome State Fault Refusal :=
  atTile t s fun s =>
    if p.hdr.type = tMread then
      s.serveForm t p fun s =>
        let n := (p.hdr.w6.extractLsb' 40 24).toNat
        if !countOk p.hdr || !decide (1 ≤ n ∧ n ≤ 8388608) || !s.serveOk p.hdr n 0 then s.serveRefuse t p.hdr n 0
        else if (s.stop t).mp.serves.any fun v => keyOf v.hdr == keyOf p.hdr then s
        else
          let gs := granules p.hdr.addr.toNat n
          let v := { s.serveOf t p.hdr true with whole := true, left := gs.length }
          (gs.foldl (fun s g => s.mpEnter t (.serve v.id g.1) .read (p.hdr.addr.toNat + g.1) g.2 []) (s.setServe t v)).mpPump t
    else s

end Sys2Proof.Machine
end

