-- ==== Sys2Proof/Machine/Answers.lean ====
section
/-! DEFINITION. What answers do at their sender: the end of messages, resends and backoff, the rounds of a multicast, BYPASS,
RED_ANS and the data of TP reads (R83, R89 to R91, R130 to R134, R208, R215, R217, R249, R250, R253, R257, R259, R277, R601). -/

namespace Sys2Proof.Machine

/-! ## The end of a message -/

/-- Whether an owner's messages draw from the reduction counter (R206). -/
def MsgOwner.red (o : MsgOwner) : Bool :=
  match o with
  | .contrib _ _ | .partialOf _ | .control _ _ | .down _ _ | .relay _ => true
  | _ => false

/-- A member's message of a data kind ends; one that failed under R91, or whose source could not be read, counts in its tally (R241,
R601). -/
def State.endMember (s : State) (t : Nat) (m : Msg) (coll : Nat) (failed : Bool) : State :=
  ((if failed then s.modM t coll fun x => { x with failed := x.failed + 1 } else s).dropMsg t m.uid).collPump t

/-- What a root does once every target has answered a message down a tree (R249, R250): `ok` where all took it. -/
def State.endDown (s : State) (t : Nat) (m : Msg) (coll : Nat) (what : Down) (ok : Bool) : State :=
  let s1 := s.dropMsg t m.uid
  match what with
  | .launch => if ok then ((s1.freeHeld t coll segLaunch).modRoot t coll fun r => { r with launch := 2 }).rootStep t coll else s1
  | .seg k => if ok then ((s1.freeHeld t coll k).modRoot t coll fun r => { r with segs := r.segs.set k 3 }).rootStep t coll else s1
  | .final | .abort => s1.rootGone t coll
  | .order => (s1.modRoot t coll fun r => if r.state = 2 then { r with state := 1 } else r).rootStep t coll

/-- Whether a multicast has failed under R91: a collector never answered, or a copy's resends were used up. -/
def Msg.mcR91 (m : Msg) : Bool := match m.mc with | some c => c.silent.isSome || c.failed.any fun f => f.2.2.2 | none => false

/-- A multicast's account is whole (R134, R399). -/
def State.mcDone (s : State) (t : Nat) (m : Msg) (code : Nat) : State :=
  match m.owner with
  | .desc => s.endDesc t m code
  | .member coll => s.endMember t m coll m.mcR91
  | .down coll what => s.endDown t m coll what (code == 0)
  | .relay _ => s.modCo t fun c => { c with relays := c.relays.map fun r => if r.uid == m.uid then
      { r with code := some code, retry := ((m.mc.map (·.failed)).getD []).filterMap fun f =>
          if f.2.2.1 = nNotReady ∨ f.2.2.1 = nIncomplete then some (f.1, f.2.1) else none } else r }
  | _ => s.dropMsg t m.uid

/-- A unicast copy of a multicast ends; the last one ends the multicast (R133, R134). -/
def State.endCopy (s : State) (t : Nat) (m : Msg) (parent code : Nat) (r91 : Bool) : State :=
  let s1 := (s.dropMsg t m.uid).modMsgs t (fun x => x.uid == parent) fun x => { x with mc := x.mc.map fun c =>
    if code = 0 then c else { c with failed := c.failed ++ [(m.hdr.dnode.toNat, m.hdr.dtile.toNat, code, r91)] } }
  if (s1.stop t).si.msgs.any fun x => x.owner == .copyOf parent then s1
  else
    match s1.msg? t parent with
    | some x => s1.mcDone t x ((x.mc.map Mcast.code).getD 0)
    | none => s1

/-- A control record ends (R249, R259): the deputy's answer to a progress record lets L advance; without one, the collective
goes on with no deputy. -/
def State.endControl (s : State) (t : Nat) (m : Msg) (coll : Nat) (toDeputy ok : Bool) : State :=
  let s1 := s.dropMsg t m.uid
  if toDeputy && (ctlOfBytes m.data).kind == 3 then
    (s1.modRoot t coll fun r =>
      if ok then { (r.advance (r.progress.getD r.l)) with progress := none } else { r with deputy := none, progress := none }).rootStep t coll
  else s1

/-- A partial's parent has it whole (R213, R214): its slot is freed. -/
def State.endPartial (s : State) (t : Nat) (m : Msg) (k : Nat) : State :=
  ((s.addDone t (s.slot t k).key).freeSlot t k).dropMsg t m.uid

/-- A contribution that has failed is reported to its collective (R208, R257, cause 2). -/
def State.contribLost (s : State) (t : Nat) (m : Msg) : State :=
  match s.groupOf m.hdr.coll.toNat with
  | some g => s.ctlBoth t g m.hdr.coll.toNat (g.stripeOf m.hdr.seg.toNat) m.hdr.sig (causeRec 2 (tagPnode m.hdr) 0)
  | none => s

/-- Message `m` has been taken (R89, R208). -/
def State.msgOk (s : State) (t : Nat) (m : Msg) : State :=
  match m.owner with
  | .desc => s.endDesc t m 0
  | .copyOf p => s.endCopy t m p 0 false
  | .member coll => s.endMember t m coll false
  | .relay _ => s
  | .contrib _ _ => (s.dropMsg t m.uid).collPump t
  | .partialOf k => s.endPartial t m k
  | .control coll d => s.endControl t m coll d true
  | .down coll what => s.endDown t m coll what true
  | .counts _ => s

/-- A member that is told MISMATCH sends nothing more for its collective (R253). -/
def State.memberStop (s : State) (t coll : Nat) : State :=
  ((s.modM t coll fun x => { x with stopped := true }).modSi t fun si => { si with msgs := si.msgs.filter fun x => !x.ofColl coll }).collPump t

/-- A CU whose partial is answered MISMATCH sends nothing more for that collective (R253). -/
def State.partialStop (s : State) (t : Nat) (m : Msg) : State :=
  let c := m.hdr.coll
  (s.modCu t fun cu => { cu with stopped := (c.toNat, m.hdr.sig) :: cu.stopped }).modSi t fun si => { si with
    msgs := si.msgs.filter fun x => match x.owner with | .partialOf _ => !(x.hdr.coll == c && x.hdr.sig == m.hdr.sig) | _ => true }

/-- Message `m` has failed with `code`; `r91` where its resends are used up (R89, R91, R208, R253). -/
def State.msgFail (s : State) (t : Nat) (m : Msg) (code : Nat) (r91 : Bool) : State :=
  match m.owner with
  | .desc => s.endDesc t m code
  | .copyOf p => s.endCopy t m p code r91
  | .member coll => s.endMember t m coll r91
  | .relay _ => s.mcDone t m code
  | .contrib coll _ =>
    if code = nMismatch ∧ !r91 then s.memberStop t coll
    else ((if r91 then s.contribLost t m else s).dropMsg t m.uid).collPump t
  | .partialOf _ => if code = nMismatch ∧ !r91 then s.partialStop t m else (if r91 then s.contribLost t m else s).dropMsg t m.uid
  | .control coll d => s.endControl t m coll d false
  | .down coll what => s.endDown t m coll what false
  | .counts _ => s.dropMsg t m.uid

/-- The tiles that a bitmap of `b` bytes marks (R132). -/
def mapTiles (b bm : Nat) : List Nat :=
  let w := max 1 (8 * b / 16)
  ((List.range (8 * b)).filter (bit bm)).map fun i => tileId (i % w) (i / w)

/-- A unicast copy of a multicast for one target (R133). -/
def Msg.copyTo (m : Msg) (node tile : Nat) : Msg :=
  { m with
    owner := .copyOf m.uid, mc := none, issued := true, again := true, todo := List.range m.pcnt, asked := m.fetch, deadline := none
    tries := 0, resends := 0, exempt := false, flown := false, notReady := 0, backoff := none, lastCode := none, circ := none
    hdr := { m.hdr with dmode := 0, route := 0, dnode := BitVec.ofNat 12 node, dtile := BitVec.ofNat 9 tile } }

/-- The origin resends to the targets of a list, or is done where there are none (R133, R134). -/
def State.mcSend (s : State) (t : Nat) (m : Msg) (c : Mcast) (l : List (Nat × Nat)) : State :=
  let s1 := s.modMsg t m.uid fun x => { x with mc := some { c with collecting := false }, deadline := none, todo := [] }
  if l.isEmpty then s1.mcDone t m c.code
  else l.foldl (fun s d => s.addMsg t (m.copyTo d.1 d.2)) s1

/-- The targets in the retry bitmaps of an account have their copies (R133). -/
def State.mcCopies (s : State) (t : Nat) (m : Msg) (c : Mcast) : State :=
  s.mcSend t m c (c.maps.flatMap fun x => (mapTiles x.2.1 x.2.2.1).map fun u => (x.1, u))

/-- A message fails under R91 with the code of its last answer, or INCOMPLETE; by timeout or INCOMPLETE it is a fault. For a multicast
that is the outcome of the dies whose collector never answered: the retry targets of the others have their copies all the same (R133,
R134). -/
def State.msgUndeliv (s : State) (t : Nat) (m : Msg) (fault : Bool) : State :=
  let s1 := s.modSi t fun si => { si with undeliv := inc8 si.undeliv }
  let s2 := if fault then s1.raiseAt t uSi 0x0304 0 m.hdr.mseq.toNat else s1
  let code := m.lastCode.getD nIncomplete
  match m.mc with
  | some c => if c.collecting then s2.mcCopies t m { c with silent := some code } else s2.msgFail t m code true
  | none => s2.msgFail t m code true

/-! ## Resends -/

/-- A message is sent whole again under R90 or for INCOMPLETE, or fails after three such resends (R91). -/
def State.msgAgain (s : State) (t : Nat) (m : Msg) : State :=
  if m.tries ≥ 3 then s.msgUndeliv t m true
  else ((s.modMsg t m.uid fun m => { m with tries := m.tries + 1, notReady := 0 }).resendMsg t m.uid).feedSmall t

/-- A backoff after the k-th refusal in a row (R89, R215). -/
def State.msgBackoff (s : State) (t : Nat) (m : Msg) : State :=
  s.modMsg t m.uid fun x => { x with
    notReady := m.notReady + 1, deadline := none, todo := [], backoff := some (s.ft + backoffFc (m.notReady + 1)) }

/-- A whole-message NOTREADY (R89, R91): the eighth in a row ends the message. -/
def State.msgNotReady (s : State) (t : Nat) (m : Msg) : State :=
  if m.notReady + 1 ≥ 8 then s.msgUndeliv t m false else s.msgBackoff t m

/-- The one packet that its receiver had no room for is sent alone (R89); a piece on the small path too (R277). -/
def State.resendOne (s : State) (t : Nat) (m : Msg) (i : Nat) : State :=
  if i < m.pcnt then
    if m.small then s.cSend t ({ m with again := true }.piece i)
    else s.modSi t fun si => { si with inj := si.inj ++
      [{ pkt := { m with again := true }.pkt i, readyAt := s.ft, governed := false, place := m.place, uid := some m.uid }] }
  else s

/-- A NACK code with `WHOLE` and `NPIDX` at the sender of `m` (R89, R91, R208, R215, R253). -/
def State.msgNack (s : State) (t : Nat) (m : Msg) (code : Nat) (whole : Bool) (i : Nat) : State :=
  let m1 := { m with lastCode := some code }
  let s1 := s.modMsg t m.uid fun x => { x with lastCode := some code }
  let claim := match m.owner with | .contrib _ _ | .partialOf _ => true | _ => false
  if code = nNotReady ∧ !whole then s1.resendOne t m1 i
  else if claim && code == nBusy then s1.msgBackoff t m1
  else if code = nNotReady then s1.msgNotReady t m1
  else if code = nIncomplete then s1.msgAgain t m1
  else s1.msgFail t m1 code false

/-! ## Answers on the T-plane -/

/-- Whether `m` is the unicast message that an answer of header `h` names (R89, R95, R133, R208, R380): its key, and for a
copy or a message of the reduction counter its target. -/
def Msg.isAnswered (m : Msg) (h : THdr) : Bool :=
  m.issued && m.hdr.dmode == 0 && m.hdr.mseq.toNat == ansMseq h.w6 && m.hdr.ctag == h.ctag && m.hdr.pan == h.pan &&
  (match m.owner with
   | .desc | .member _ => true
   | _ => m.hdr.dnode == h.snode && m.hdr.dtile == h.stile)

/-- The bitmaps of a collector's answer (R132): `B`, the retry and the fail bitmap. -/
def ansMaps (p : Pkt) : Option (Nat × Nat × Nat) :=
  if ansBitmap p.hdr.w6 then
    let b := p.hdr.plen.toNat / 2
    some (b, natOf (p.data.take b), natOf ((p.data.drop b).take b))
  else none

/-- A multicast that awaits a collector's answer with the keys of header `h`. -/
def State.collecting (s : State) (t : Nat) (h : THdr) : Bool :=
  (s.stop t).si.msgs.any fun m => m.hdr.dmode != 0 && m.collects (ansMseq h.w6) h.ctag h.pan

/-- The count fields of an answer (R73, R84, R132): one packet, with no payload but the two bitmaps of a collector's NACK. -/
def ansCountOk (p : Pkt) : Bool :=
  let h := p.hdr
  h.pcnt == 1 && h.pidx == 0 && h.last == 1 &&
  (if h.type = tNack ∧ ansBitmap h.w6 = true then h.plen == 96 || h.plen == 64 else h.plen == 0)

/-- What every answer goes through first (R380, R415). One whose counts are bad is dropped and counted (R84, R97); being an answer, it is
not answered itself (R73). -/
def State.ansForm (s : State) (t : Nat) (p : Pkt) (ty : BitVec 4) (f : State → State) : State :=
  if p.hdr.type = ty then
    let r := s.e2eOk t p.hdr
    if !r.2 then r.1
    else if r.1.isLate p.hdr then r.1.dropLate t p.hdr
    else if !ansCountOk p then r.1.modSi t fun si => { si with bounds := inc8 si.bounds }
    else f r.1
  else s

/-- Whether a fenced client's answer is discarded (R112): of its own messages, those of descriptors and of data kinds. -/
def State.ansFenced (s : State) (t : Nat) (m : Msg) : Bool :=
  (s.stop t).ro.clientFenced && (match m.owner with | .desc | .member _ => true | _ => false)

/-- Whether an answer is a target's of this die, for a record that the tile's collector holds (R130, R131). -/
def State.forRecord (s : State) (t : Nat) (h : THdr) : Bool :=
  h.snode.toNat == s.node && (s.stop t).si.records.any fun r => r.isOf (answered h) && r.targets.contains h.stile.toNat

/-- An answer reaches its sender: a target's record, a multicast's account, or the message it names. -/
def State.answerIn (s : State) (t : Nat) (p : Pkt) (f : State → Msg → State) : State :=
  if s.forRecord t p.hdr then s.targetAnswer t (answered p.hdr) p.hdr.stile.toNat (ansOf p.hdr)
  else if s.collecting t p.hdr then s.mcTake t (ansMseq p.hdr.w6) p.hdr.ctag p.hdr.pan p.hdr.snode.toNat (ansOf p.hdr) (ansMaps p)
  else
    match (s.stop t).si.msgs.find? fun m => m.isAnswered p.hdr with
    | some m => if s.ansFenced t m then s else f s m
    | none => s.targetAnswer t (answered p.hdr) p.hdr.stile.toNat (ansOf p.hdr)

/-- ACK_ARRIVE (R89). -/
def execAckArrive (t : Nat) (p : Pkt) (s : State) : Host.Outcome State Fault Refusal :=
  atTile t s fun s => s.ansForm t p tAck fun s => s.answerIn t p fun s m => s.msgOk t m

/-- A NACK is counted (R98, R511). -/
def State.countNack (s : State) (t code : Nat) : State :=
  (s.modPb t fun b => { b with c3 := b.c3 + 1 }).modSi t fun si => { si with notready := if code = nNotReady then inc8 si.notready else si.notready }

/-- NACK_ARRIVE (R89). -/
def execNackArrive (t : Nat) (p : Pkt) (s : State) : Host.Outcome State Fault Refusal :=
  atTile t s fun s => s.ansForm t p tNack fun s =>
    (s.countNack t (ansCode p.hdr.w6)).answerIn t p fun s m => s.msgNack t m (ansCode p.hdr.w6) (ansWhole p.hdr.w6) (ansPidx p.hdr.w6)

/-! ## Timers -/

/-- The message of an SI whose backoff has ended. -/
def State.backedOff (s : State) (t mseq : Nat) (p : Msg → Bool) : Option Msg :=
  (s.stop t).si.msgs.find? fun m => m.hdr.mseq.toNat == mseq && p m && (match m.backoff with | some b => decide (b ≤ s.ft) | none => false)

/-- Whether a message is a claim of a combine slot. -/
def Msg.claim (m : Msg) : Bool := match m.owner with | .contrib _ _ | .partialOf _ => true | _ => false

/-- RESEND_BACKOFF_EXPIRE (R89): a T-plane message, or a C-plane request. -/
def execResendBackoffExpire (t mseq : Nat) (s : State) : Host.Outcome State Fault Refusal :=
  atTile t s fun s =>
    match s.backedOff t mseq fun m => !m.claim with
    | some m => s.resendMsg t m.uid
    | none =>
      match (s.stop t).cr.reqs.find? fun r => r.issued && r.msg.hdr.mseq.toNat == mseq && (match r.backoff with | some b => decide (b ≤ s.ft) | none => false) with
      | some r => s.cResend t r r.tries
      | none => s

/-- CONTRIBUTION_BACKOFF_EXPIRE (R215). -/
def execContributionBackoffExpire (t mseq : Nat) (s : State) : Host.Outcome State Fault Refusal :=
  atTile t s fun s =>
    match s.backedOff t mseq Msg.claim with
    | some m => (s.resendMsg t m.uid).feedSmall t
    | none => s

/-- A timer has come to its end. -/
def dueBy (d : Option Nat) (ft : Nat) : Bool := match d with | some x => decide (x ≤ ft) | none => false

/-- The answer timer of a message has expired (R90, R151): a circuit that carried it is treated as ceased first; a multicast
that some collector had no record for goes on to its round's end (R133). -/
def State.msgTimeout (s : State) (t : Nat) (m : Msg) : State :=
  let waits := match m.mc with | some c => c.collecting && !c.noRecord.isEmpty | none => false
  if waits then s
  else (match m.circ with | some c => s.ceaseCirc t c | none => s).msgAgain t m

/-- ANSWER_TIMEOUT (R90): `plane` 0 the messages of the SI's own counter, 1 the C-plane's requests, 2 those of the reduction
counter. -/
def execAnswerTimeout (t plane mseq : Nat) (s : State) : Host.Outcome State Fault Refusal :=
  atTile t s fun s =>
    if plane = 1 then
      match (s.stop t).cr.reqs.find? fun r => r.issued && r.msg.hdr.mseq.toNat == mseq && dueBy r.deadline s.ft with
      | some r => s.cTimeout t r
      | none => s
    else
      match (s.stop t).si.msgs.find? fun m => m.issued && m.owner.red == (plane == 2) && m.hdr.mseq.toNat == mseq && dueBy m.deadline s.ft with
      | some m => s.msgTimeout t m
      | none => s

/-! ## The rounds of a multicast -/

/-- The round of a multicast ends (R133). -/
def State.mcRound (s : State) (t : Nat) (m : Msg) (c : Mcast) : State :=
  if decide (c.got.length + c.noRecord.length ≥ c.need) || (dueBy m.deadline s.ft && !c.noRecord.isEmpty) then
    if c.noRecord.isEmpty then s.mcCopies t m c
    else
      let m1 := { m with lastCode := some nNotReady, mc := some { c with noRecord := [] } }
      (s.modMsg t m.uid fun x => { x with lastCode := m1.lastCode, mc := m1.mc }).msgNotReady t m1
  else s

/-- MCAST_ROUND_END (R133). -/
def execMcastRoundEnd (t mseq : Nat) (s : State) : Host.Outcome State Fault Refusal :=
  atTile t s fun s =>
    match (s.stop t).si.msgs.find? fun m => m.issued && m.hdr.mseq.toNat == mseq && (match m.mc with | some c => c.collecting | none => false) with
    | some m => (match m.mc with | some c => s.mcRound t m c | none => s)
    | none => s

/-! ## BYPASS and RED_ANS -/

/-- COLL_BYPASS (R217): the contribution goes to the group root's tile with ROOTC set. -/
def execCollBypass (t : Nat) (p : Pkt) (s : State) : Host.Outcome State Fault Refusal :=
  atTile t s fun s =>
    if isCtl p 1 3 then
      let r := s.e2eOk t p.hdr
      if !r.2 then r.1
      else if r.1.isLate p.hdr then r.1.dropLate t p.hdr
      else
        let h := p.hdr
        match (r.1.stop t).si.msgs.find? fun m => m.issued && m.claim && m.hdr.coll == h.coll && m.hdr.seg == h.seg && m.hdr.child == h.child &&
            m.hdr.sig == h.sig && m.hdr.pan == h.pan && tagPnode m.hdr == tagPnode h with
        | some m =>
          let a := (ctlOfBytes p.data).arg
          let s1 := r.1.modMsg t m.uid fun x => { x with
            notReady := 0
            hdr := { x.hdr with dnode := a.extractLsb' 9 12, dtile := a.extractLsb' 0 9, ctag := x.hdr.ctag ||| 0x800000 } }
          (s1.resendMsg t m.uid).feedSmall t
        | none => r.1
    else s

/-- RED_ANS_RECEIVED (R277). -/
def execRedAnsReceived (t : Nat) (m : CMsg) (s : State) : Host.Outcome State Fault Refusal :=
  atTile t s fun s =>
    if isKind m 7 then
      let a := m.hdr.arg.toNat
      match (s.stop t).si.msgs.find? fun x => x.small && x.issued && x.hdr.mseq == m.hdr.mseq && x.hdr.pan == m.hdr.pan &&
          x.hdr.dnode == m.hdr.snode && x.hdr.dtile == m.hdr.stile with
      | some x =>
        if a % 16 = 0 then s.msgOk t x
        else (s.countNack t (a % 16)).msgNack t x (a % 16) (bit a 4) (a / 32 % 256)
      | none => s
    else s

/-! ## Data of TP reads -/

/-- The send counts of an all-to-all could not be read (R245): the member sends no data message, and counts one failure (R601; DESIGN
CHOICE, log entry 801). -/
def State.countsFailed (s : State) (t : Nat) (m : Msg) (coll : Nat) : State :=
  ((s.dropMsg t m.uid).modM t coll fun x => { x with counts := some [], failed := x.failed + 1, nextData := 2 ^ 32 }).collPump t

/-- A source read has failed (R601): nothing more of its message is sent; of a data kind it counts in the tally. -/
def State.readFailed (s : State) (t : Nat) (m : Msg) : State :=
  match m.owner with
  | .desc => s.endDesc t m nError
  | .member coll => s.endMember t m coll true
  | .counts coll => s.countsFailed t m coll
  | .contrib _ _ => (s.dropMsg t m.uid).collPump t
  | _ => s.dropMsg t m.uid

/-- The message of a finished read takes its bytes; an all-gather's own part, or a local MWRITE, is written when
it is whole (R242, R581, R583). -/
def State.readDone (s : State) (t : Nat) (r : TpRead) : State :=
  let ofs := r.addr % flitW s.build
  let s1 := s.modMsg t r.uid fun m => { m with data := m.data ++ (r.got.drop ofs).take r.len }
  match s1.msg? t r.uid with
  | some m =>
    if m.hdr.type ≠ 0 ∨ m.data.length < m.len then s1
    else if m.owner = .desc then s1.localWrite t m
    else if let .counts coll := m.owner then (s1.modM t coll fun x => x.setCounts m.data (m.len / 4)).dropMsg t m.uid
    else (s1.emit (.tpWrite t (m.hdr.addr.extractLsb' 0 40).toNat m.data)).dropMsg t m.uid
  | none => s1

/-- The reads that are done and first in order give their bytes to their messages; `fuel` bounds them. -/
def State.readsIn (s : State) (t : Nat) : Nat → State
  | 0 => s
  | f + 1 =>
    match (s.stop t).si.reads with
    | r :: rest => if r.done then ((s.modSi t fun si => { si with reads := rest }).readDone t r).readsIn t f else s
    | [] => s

/-- TP_READ_DATA (R581, R601). -/
def execTpReadData (t : Nat) (tag : BitVec 4) (last err : Bool) (data : List Byte) (s : State) : Host.Outcome State Fault Refusal :=
  atTile t s fun s =>
    match (s.stop t).si.reads.find? fun r => r.tag == tag.toNat && !r.done with
    | none => s
    | some r =>
      let w := flitW s.build
      let got := r.got ++ slice data 0 w
      let s0 := if last then s.mirror (mirTile t) (unitId uSi (s.phys t)) 2 (slice got (r.addr % w) r.len) else s
      let s1 := s0.modSi t fun si => { si with reads := si.reads.map fun x => if x.tag == r.tag then { x with got := got, done := last } else x }
      let s2 := if err then (match s1.msg? t r.uid with | some m => s1.readFailed t m | none => s1) else s1
      ((s2.readsIn t 16).issue t).collPump t

end Sys2Proof.Machine
end

