-- ==== Sys2Proof/Machine/Fences.lean ====
section
/-! DEFINITION. Fences: dead ports, the packets and messages they cut, the fence of a client and of a router, and the switch of a
fence route set (R112 to R117, R273, R296, R469). -/

namespace Sys2Proof.Machine

/-! ## Dead ports -/

/-- What a packet's decision leaves of it in a buffer once ports have died or routes have changed (R115): it stays with these
outputs, or is dropped. -/
def State.redecide (s : State) (t port : Nat) (p : BufPkt) : State × Option BufPkt :=
  match s.fate t port p.hdr with
  | .drop code a => (s.dropPkt t p.hdr code a, none)
  | .choose [o] => (s, some { p with cands := [], branches := [freshBranch o] })
  | .choose l => (s, some { p with cands := l, branches := [] })
  | .fork _ => (s, some p)

/-- A packet in a buffer as the output `o` dies (R114, R115, R128): what was going over it is abandoned; a packet that has not
started decides again. -/
def State.cutPkt (s : State) (t port o : Nat) (p : BufPkt) : State × Option BufPkt :=
  let on := p.branches.find? fun b => b.port == o
  let rest := p.branches.filter fun b => b.port != o
  if p.hdr.dmode = 0 then
    match on with
    | some b => if b.sent > 0 then (s, none) else s.redecide t port p
    | none => if p.cands.contains o then s.redecide t port p else (s, some p)
  else
    match on with
    | none => (s, some p)
    | some b =>
      if b.sent ≥ p.total then (s, some p)
      else (s.modSi t fun si => { si with brdrop := inc8 si.brdrop }, if rest.isEmpty then none else some { p with branches := rest })

/-- A packet that input `p` was receiving is completed with one flit with TAIL and KILL (R114), and a C-plane message there with
an abort flit. -/
def State.killInput (s : State) (t p : Nat) : State :=
  let s1 := (List.range 4).foldl (fun s vc =>
    let b := (s.stop t).rt.buf p vc
    if b.isOpen then s.abandonLast t p vc b (killFlit s.build (BitVec.ofNat 2 vc)) false else s) s
  [0, 1].foldl (fun s vc =>
    let b := (s.stop t).c.buf (2 * p + vc)
    if !b.flits.isEmpty && !b.whole then s.cDiscard t (2 * p + vc) false else s) s1

/-- A C-plane message that waits or was crossing decides again (R273). -/
def State.cRedecide (s : State) (t k : Nat) : State :=
  let b := (s.stop t).c.buf k
  match b.flits with
  | [] => s
  | f :: _ =>
    let h := chdrOfBytes f.data
    let gone (s : State) : State := (s.setCBuf t k { (default : CBuf) with disc := !b.whole }).cFreeUp t k
    if b.granted then
      if s.deadOut t b.dest then (gone s).modC t fun c => { c with holder := c.holder.set b.dest none } else s
    else
      match s.cOut t (k / 2) h with
      | .inl 0 => gone (s.cFenced t h)
      | .inl _ => gone (s.raiseAt t uC 0x0307 0 h.mseq.toNat)
      | .inr o => s.setCBuf t k { b with dest := o }

/-- Every C-plane message in the stop's buffers decides again. -/
def State.cSweep (s : State) (t : Nat) : State := (List.range 26).foldl (fun s k => if k / 2 = 4 then s else s.cRedecide t k) s

/-- Port `p` of the stop at `t` is dead (R114, R151): it holds no credit, and what was crossing it either way is ended. -/
def State.deadPort (s : State) (t p : Nat) : State :=
  let s1 := (s.killInput t p).modRt t fun r =>
    { r.modOut p fun o => { o with dead := true, holder := none, used := [] } with
      ceasedPorts := if r.ceasedPorts.contains p then r.ceasedPorts else r.ceasedPorts ++ [p], skid := r.skid.set p [] }
  let s2 := (s1.sweep t fun port s q => s.cutPkt t port p q).modStop t fun st =>
    { st with mrx := if p < 4 then st.mrx.filter fun x => x.port != p else st.mrx }
  (s2.modC t fun c => { c with busy := c.busy.filter fun b => b / 2 != p }).cSweep t

/-- A port is alive again with full credit (R377). -/
def State.livePort (s : State) (t p : Nat) : State :=
  s.modRt t fun r => r.modOut p fun o => { o with dead := false, used := [] }

/-- Packets and messages of a stop that have not started decide again, once routes have changed. -/
def State.reroute (s : State) (t : Nat) : State :=
  ((s.sweep t fun port s p =>
    if p.hdr.dmode != 0 || p.started || (p.branches.any fun b => b.won) then (s, some p)
    else if (p.branches.map (·.port) ++ p.cands).all fun o => s.deadOut t o then s.redecide t port p
    else (s, some p)).cSweep t).mRelease t

/-! ## Fences -/

/-- The client of tile `t` is fenced (R112, R257, R296). -/
def State.fenceClient (s : State) (t : Nat) : State :=
  if (s.stop t).ro.clientFenced then s
  else ((s.modRo t fun r => { r with clientFenced := true }).tileLost t).collClientLost t

/-- CLIENT_FENCE (R112). -/
def execClientFence (t : Nat) (s : State) : Host.Outcome State Fault Refusal := atTile t s fun s => s.fenceClient t

/-- The first router fence since the image switched in takes the fence route set of its tile `t`, where there is one: it goes into the
shadow tables of the stops it lists, and its switch-over is named (R116, R117). -/
def State.armFenceSet (s : State) (t : Nat) : State :=
  if s.flt.fenceUsed then s
  else
    let s0 : State := { s with flt := { s.flt with fenceUsed := true } }
    match s.img.act.fence.find? fun e => e.1 == t with
    | none => s0
    | some (_, items) =>
      let s1 := items.foldl (fun s (i : Nat × Nat × Nat × Word) => s.modRo i.2.1 fun r =>
        if i.1 = 0 then { r with shadowRoute := r.shadowRoute.set i.2.2.1 (i.2.2.2.setWidth 16) }
        else { r with shadowTree := r.shadowTree.set i.2.2.1 i.2.2.2 }) s0
      { s1 with flt := { s1.flt with fenceSet := some (t, s.now + 16), setTiles := s1.flt.setTiles ++ [t] } }

/-- A row's spare is in use by a fuse or field entry (R13, R15, R470). -/
def Row.used (r : Row) : Bool := r.fuse.isSome || r.field.isSome

/-- The router of tile `t` is fenced, and the whole tile with it (R114 to R117, R296, R469, R484); a row that has no spare left for it, or
another fenced tile, has a hole (R472). -/
def State.fenceRouter (s : State) (t : Nat) : State :=
  if (s.stop t).ro.routerFenced then s
  else
    let px := s.physX (tileX t) (tileY t)
    let y := tileY t
    let s1 := ((s.modRo t fun r => { r with routerFenced := true }).modStop t fun st => { st with mrx := [], mheld := [] }).armFenceSet t
    let s2 := { s1 with flt := { s1.flt with fenced := s1.flt.fenced.set y (Tab.get 0 s1.flt.fenced y ||| BitVec.ofNat 25 (2 ^ px)) } }
    let r := s2.row y
    let s3 := if r.used || Tab.get 0 s1.flt.fenced y != 0 then
        (s2.setRow y { r with hole := some (r.hole.getD px) }).raiseAt t uT 0x0803 0 0 else s2
    let s4 := (List.range 4).foldl (fun s p => match neighbour s.build t p with | some u => s.deadPort u (facing p) | none => s) s3
    s4.tileLost t

/-- ROUTER_FENCE (R114). -/
def execRouterFence (t : Nat) (s : State) : Host.Outcome State Fault Refusal := atTile t s fun s => s.fenceRouter t

/-- The shadow entries of a stop come into force (R116, R137). -/
def Routes.takeShadow (r : Routes) : Routes :=
  if r.shadowRoute.isEmpty && r.shadowTree.isEmpty then r
  else
    { r with
      route := r.shadowRoute.foldl (fun x e => x.set e.1 e.2) r.route
      tree := r.shadowTree.foldl (fun x e => x.set e.1 e.2) r.tree
      setRoute := r.shadowRoute, shadowRoute := [], shadowTree := [], setActive := true }

/-- The fence route set that is pending comes into force, and what waited for it decides again (R116). -/
def State.fenceSetTick (s : State) : State :=
  if s.flt.fenceSet.isSome then
    let s1 := s.tiles.foldl (fun s t => s.modRo t Routes.takeShadow) { s with flt := { s.flt with fenceSet := none } }
    s1.tiles.foldl (fun s t => s.reroute t) s1
  else s

/-- FENCE_SET_SWITCH (R116): at phase 0 of the tick named. -/
def execFenceSetSwitch (s : State) : Host.Outcome State Fault Refusal :=
  fabAct s fun s => if s.flt.fenceSet.any fun x => s.atTick x.2 then s.fenceSetTick else s

end Sys2Proof.Machine
end

