-- ==== Sys2Proof/Machine/LineCode.lean ====
section
/-! DEFINITION. The line codes of a link: the keeper lane's 8b/10b (R338), and of a data lane PAM4 levels, 257-bit blocks, the scrambler,
RS(544,514) codewords, markers, the dealing of the link stream's blocks to logical lanes and their return to one stream, and the test
patterns (R332 to R337, R353). -/

namespace Sys2Proof

/-! ## 8b/10b (R338) -/

/-- The six-bit codes of the values 0 to 31 of a character's low five bits, at negative running disparity (PRESUMED, log entry 1170). -/
def code6 : List (BitVec 6) :=
  [0b100111, 0b011101, 0b101101, 0b110001, 0b110101, 0b101001, 0b011001, 0b111000,
   0b111001, 0b100101, 0b010101, 0b110100, 0b001101, 0b101100, 0b011100, 0b010111,
   0b011011, 0b100011, 0b010011, 0b110010, 0b001011, 0b101010, 0b011010, 0b111010,
   0b110011, 0b100110, 0b010110, 0b110110, 0b001110, 0b101110, 0b011110, 0b101011]

/-- The four-bit codes of the values 0 to 7 of a data character's high three bits, at negative running disparity. -/
def code4 : List (BitVec 4) := [0b1011, 0b1001, 0b0101, 0b1100, 0b1101, 0b1010, 0b0110, 0b1110]

/-- The ones of a code. -/
def ones {w : Nat} (v : BitVec w) : Nat := ((List.range w).filter v.getLsbD).length

/-- The running disparity after a code: an even code leaves it. -/
def rdAfter {w : Nat} (rd : Bool) (v : BitVec w) : Bool := if 2 * ones v = w then rd else !rd

/-- A code at running disparity `rd`: one that is uneven, or the even one that has a complement, is complemented at positive disparity. -/
def atRd {w : Nat} (rd two : Bool) (v : BitVec w) : BitVec w := if rd && (two || 2 * ones v != w) then ~~~v else v

/-- The 8b/10b code of a data byte: the alternative code of 7 keeps five equal bits from following one another. -/
def encByte (rd : Bool) (b : Byte) : BitVec 10 :=
  let x := (b.extractLsb' 0 5).toNat
  let y := (b.extractLsb' 5 3).toNat
  let six := atRd rd (x == 7) (code6.getD x 0)
  let rd6 := rdAfter rd six
  let alt := y == 7 && (if rd6 then x == 11 || x == 13 || x == 14 else x == 17 || x == 18 || x == 20)
  six ++ atRd rd6 (y == 3) (if alt then 0b0111 else code4.getD y 0)

/-- The K-characters of R338 and R339 at negative running disparity; every other character is a data byte's. -/
def encChar (rd : Bool) (c : KChar) : BitVec 10 :=
  match c with
  | .d b => encByte rd b
  | .k28_5 => if rd then 0b1100000101 else 0b0011111010
  | .k27_7 => if rd then 0b0010010111 else 0b1101101000
  | .k29_7 => if rd then 0b0100010111 else 0b1011101000
  | .kOther | .codeError => 0

/-- The codes, at negative running disparity, of the K-characters that the keeper lane does not use. -/
def otherK : List (BitVec 10) :=
  [0b0011110100, 0b0011111001, 0b0011110101, 0b0011110011, 0b0011110010, 0b0011110110, 0b0011111000, 0b1110101000, 0b0111101000]

/-- The character that a code is at running disparity `rd`, a code that none has there being an error. -/
def decChar (rd : Bool) (v : BitVec 10) : KChar :=
  match [KChar.k28_5, .k27_7, .k29_7].find? fun c => encChar rd c == v with
  | some c => c
  | none =>
    match (List.range 256).find? fun b => encByte rd (BitVec.ofNat 8 b) == v with
    | some b => .d (BitVec.ofNat 8 b)
    | none => if otherK.contains (if rd then ~~~v else v) then .kOther else .codeError

/-! ## Blocks (R333, R335) -/

/-- The control type of a block: bits 7:0 of its 256. -/
def Block.ctype (b : Block) : BitVec 8 := b.extractLsb' 1 8

/-- A data block, whose 256 bits are `w`; the header bit is the first one sent. -/
def Block.data (w : BitVec 256) : Block := w ++ (1 : BitVec 1)

/-- A control block, whose 256 bits are `w`. -/
def Block.control (w : BitVec 256) : Block := w ++ (0 : BitVec 1)

/-- The header bit says data. -/
def Block.isData (b : Block) : Bool := b.getLsbD 0

/-- The 256 bits after the header bit. -/
def Block.payload (b : Block) : BitVec 256 := b.extractLsb' 1 256

/-- An idle block. -/
def Block.idle : Block := Block.control 0x1E

/-- A marker: CWCNT, TWO, LLANE and PLANE (R335). -/
def Block.marker (cw : BitVec 32) (two : Bool) (llane plane : BitVec 2) : Block :=
  Block.control ((0 : BitVec 208) ++ cw ++ (0 : BitVec 3) ++ BitVec.ofBool two ++ llane ++ plane ++ (0x4D : BitVec 8))

/-- The fields of a marker, where the block is one. -/
def Block.markerOf (b : Block) : Option (BitVec 32 × Bool × BitVec 2 × BitVec 2) :=
  if !b.isData && b.ctype == 0x4D then
    let w := b.payload
    some (w.extractLsb' 16 32, w.getLsbD 12, w.extractLsb' 10 2, w.extractLsb' 8 2)
  else none

/-! ## The scrambler 1 + x^39 + x^58 (R333) -/

/-- The line's last 58 scrambled bits, the latest in bit 0, after one more. -/
def scrShift (st : BitVec 58) (b : Bool) : BitVec 58 := (st <<< 1) ||| BitVec.ofNat 58 b.toNat

/-- The bit that the scrambler's taps add to the next one. -/
def scrTap (st : BitVec 58) : Bool := Bool.xor (st.getLsbD 38) (st.getLsbD 57)

/-- Bits `i` up to `i + n − 1` of `w` scrambled: each leaves as itself plus the taps, and what leaves enters the state. -/
def scramble (w : BitVec 256) : Nat → Nat → BitVec 58 → BitVec 256 → BitVec 256 × BitVec 58
  | 0, _, st, acc => (acc, st)
  | n + 1, i, st, acc =>
    let o := Bool.xor (w.getLsbD i) (scrTap st)
    scramble w n (i + 1) (scrShift st o) (acc ||| (BitVec.ofNat 256 o.toNat <<< i))

/-- The same bits descrambled: each is itself plus the taps, and what arrived enters the state. -/
def descramble (w : BitVec 256) : Nat → Nat → BitVec 58 → BitVec 256 → BitVec 256 × BitVec 58
  | 0, _, st, acc => (acc, st)
  | n + 1, i, st, acc =>
    let o := Bool.xor (w.getLsbD i) (scrTap st)
    descramble w n (i + 1) (scrShift st (w.getLsbD i)) (acc ||| (BitVec.ofNat 256 o.toNat <<< i))

/-! ## RS(544,514) over GF(2^10) (R334)

The field, generator polynomial, symbol packing and bit order are IEEE 802.3's, which the spec names and does not print: field polynomial
x^10 + x^3 + 1, generator the product of x − α^j for j = 0 to 29, symbols of ten bits with the first sent least significant, the
message's first symbol at the highest power (PRESUMED, log entry 1160). -/

/-- x times a field element. -/
def gfDouble (a : Nat) : Nat := if a < 512 then 2 * a else (2 * a) ^^^ 0x409

/-- x to the power `n` times a field element. -/
def gfShift (a : Nat) : Nat → Nat
  | 0 => a
  | n + 1 => gfDouble (gfShift a n)

/-- The product of two field elements. -/
def gfMul (a b : Nat) : Nat := (List.range 10).foldl (fun s i => if b.testBit i then s ^^^ gfShift a i else s) 0

/-- The generator polynomial's coefficients below its leading 1, the highest first. -/
def rsGenerator : List Nat :=
  ((List.range 30).foldl (fun (p : List Nat) j =>
    List.zipWith (fun a b => a ^^^ gfMul (gfShift 1 j) b) (p ++ [0]) (0 :: p)) [1]).drop 1

/-- The parity symbols of a message: the remainder of the message times x^30. -/
def rsParity (m : List Nat) : List Nat :=
  m.foldl (fun r s => List.zipWith (fun a g => a ^^^ gfMul g (s ^^^ r.headD 0)) (r.drop 1 ++ [0]) rsGenerator) (List.replicate 30 0)

/-- Bits of a number, the least significant first. -/
def bitsOf (n w : Nat) : List Bool := (List.range n).map w.testBit

/-- The bits of a codeword's blocks in the order in which they are sent. -/
def blockBits (bs : List Block) : List Bool := bs.flatMap fun b => bitsOf 257 b.toNat

/-- Bits in tens, as symbols; `n` of them. -/
def symbolsOf : Nat → List Bool → List Nat
  | 0, _ => []
  | n + 1, l => (l.take 10).foldr (fun b v => b.toNat + 2 * v) 0 :: symbolsOf n (l.drop 10)

/-- The 544 symbols of a codeword: the 514 of its twenty blocks, and the parity. -/
def rsEncode (bs : List Block) : List Nat :=
  let m := symbolsOf 514 (blockBits bs)
  m ++ rsParity m

/-! ## Test patterns (R353) -/

/-- The taps of a pattern: PRBS7, PRBS15, PRBS31. -/
def prbsTaps (pat : Nat) : Nat × Nat := match pat with | 0 => (7, 6) | 1 => (15, 14) | _ => (31, 28)

/-- The next bit of a pattern after bits of which the latest `i + 1` gives `old i`; ITU-T O.150 inverts the two longer patterns
(PRESUMED, log entry 1171). -/
def prbsNext (pat : Nat) (old : Nat → Bool) : Bool :=
  let (a, c) := prbsTaps pat
  (old (a - 1) != old (c - 1)) != decide (1 ≤ pat)

/-- A generator's history, where it holds none of the pattern a run of ones, or of zeros for an inverted pattern (DESIGN CHOICE, log entry
1171). -/
def prbsSeed (pat : Nat) (st : BitVec 31) : BitVec 31 :=
  let bits := (List.range (prbsTaps pat).1).map st.getLsbD
  if pat = 0 then (if bits.any id then st else BitVec.allOnes 31) else if bits.all id then 0 else st

/-- `n` bits of a pattern from a generator's history, and the history after them. -/
def prbsBits (pat : Nat) : Nat → BitVec 31 → List Bool × BitVec 31
  | 0, st => ([], st)
  | n + 1, st =>
    let b := prbsNext pat st.getLsbD
    let r := prbsBits pat n ((st <<< 1) ||| BitVec.ofNat 31 b.toNat)
    (b :: r.1, r.2)

/-! ## PAM4 levels (R332) -/

/-- The level of two bits, the first the more significant: 00, 01, 11, 10 are levels 0, 1, 2, 3. -/
def pam4 (first second : Bool) : BitVec 2 :=
  match first, second with
  | false, false => 0
  | false, true => 1
  | true, true => 2
  | true, false => 3

/-- The two bits that a level stands for. -/
def pam4Bits (l : BitVec 2) : Bool × Bool :=
  if l = 0 then (false, false) else if l = 1 then (false, true) else if l = 2 then (true, true) else (true, false)

/-- Bits in pairs, as levels. -/
def levelsOf : List Bool → List (BitVec 2)
  | a :: b :: l => pam4 a b :: levelsOf l
  | _ => []

/-- The symbols on the lane for a codeword. -/
def codewordLevels (bs : List Block) : List (BitVec 2) := levelsOf ((rsEncode bs).flatMap (bitsOf 10))

/-! ## What a lane's decoder gives (R334) -/

/-- Symbols received in error. -/
def Codeword.wrong (c : Codeword) : Nat := c.errs.length

/-- More than fifteen symbol errors cannot be corrected. -/
def Codeword.uncorrectable (c : Codeword) : Bool := decide (15 < c.wrong)

/-- Symbols corrected. -/
def Codeword.corrected (c : Codeword) : Nat := if c.uncorrectable then 0 else c.wrong

/-- The marker that a codeword's first block is (R335). -/
def Codeword.marker (c : Codeword) : Option (BitVec 32 × Bool × BitVec 2 × BitVec 2) :=
  match c.blocks with
  | b :: _ => b.markerOf
  | [] => none

/-- A block with the symbol errors of its codeword in it: error `e` at symbol `k` is at message bits 10k to 10k + 9. -/
def Codeword.raw (c : Codeword) (j : Nat) (b : Block) : Block :=
  c.errs.foldl (fun b e =>
    let at_ := 10 * e.1
    let base := 257 * j
    b ^^^ (if at_ < base then BitVec.ofNat 257 (e.2 >>> (base - at_)) else BitVec.ofNat 257 e.2 <<< (at_ - base))) b

end Sys2Proof

namespace Sys2Proof.Machine

/-! ## Sending (R333 to R336) -/

/-- The 256 bits of 32 bytes of the link stream. -/
def blockWord (bs : List Byte) : BitVec 256 := BitVec.ofNat 256 (natOf (slice bs 0 32))

/-- The blocks of a frame on the link stream: the header's, then its payload's (R363). -/
def frameBlocks (f : Frame) : List (List Byte) :=
  fhdrBytes f.hdr :: (List.range f.hdr.nblk.toNat).map fun i => slice f.data (32 * i) 32

/-- The next block of the link stream, from the frame under way or the next one of the transmit crossing. -/
def Link.pull (l : Link) : Option (List Byte) × Link :=
  match l.txb, l.txf with
  | b :: bs, _ => (some b, { l with txb := bs })
  | [], f :: fs =>
    (match frameBlocks f with
     | b :: bs => (some b, { l with txb := bs, txf := fs })
     | [] => (none, l))
  | [], [] => (none, l)

/-- `n` blocks for a logical lane, scrambled as data, or idle where the link layer has none ready. -/
def Link.deal (l : Link) (st : BitVec 58) : Nat → List Block × Link × BitVec 58
  | 0 => ([], l, st)
  | n + 1 =>
    match l.pull with
    | (some b, l1) =>
      let x := scramble (blockWord b) 256 0 st 0
      let r := l1.deal x.2 n
      (Block.data x.1 :: r.1, r.2)
    | (none, l1) =>
      let r := l1.deal st n
      (Block.idle :: r.1, r.2)

/-- The codeword of count `cw` that physical lane `k` sends as logical lane `ll`, 3 for none: a marker first where the count is a multiple
of 256, then the stream's blocks, or only idle blocks. -/
def Link.codeword (l : Link) (k ll cw : Nat) : List Block × Link :=
  let head := if cw % 256 = 0 then [Block.marker (BitVec.ofNat 32 cw) (l.tx1 != 3) (BitVec.ofNat 2 ll) (BitVec.ofNat 2 k)] else []
  let n := 20 - head.length
  let x := Tab.get Lane.init l.lanes k
  if ll < 2 then
    let r := l.deal x.scr n
    (head ++ r.1, { r.2.1 with lanes := r.2.1.lanes.set k { (Tab.get Lane.init r.2.1.lanes k) with scr := r.2.2 } })
  else (head ++ List.replicate n Block.idle, l)

/-! ## Receiving (R333, R336, R337) -/

/-- The blocks of a codeword as a lane takes them: idle blocks, markers and reserved types are removed, and data is descrambled. -/
def takeBlocks : List Block → BitVec 58 → List (List Byte) × BitVec 58
  | [], st => ([], st)
  | b :: bs, st =>
    if b.isData then
      let x := descramble b.payload 256 0 st 0
      let r := takeBlocks bs x.2
      (bytesOf 32 x.1.toNat :: r.1, r.2)
    else takeBlocks bs st

/-- A lane in lock takes a codeword's blocks, which wait for the other lane's of equal count; of an uncorrectable one none is left, though
its bits pass the descrambler as they came. -/
def Lane.take (l : Lane) (c : Codeword) : Lane :=
  let bs := if c.uncorrectable then (List.range 20).map fun j => c.raw j (nth 0 c.blocks j) else c.blocks
  let r := takeBlocks bs l.dscr
  { l with dscr := r.2, rxcw := l.rxcw ++ [(l.cw, if c.uncorrectable then [] else r.1)] }

/-- The codewords of two lanes in count order, logical lane 0's blocks before logical lane 1's; what is left waits. Lanes may lie two
codewords apart: of a lane with more waiting the oldest have lost their counterparts and go on alone. -/
def alignLanes : Nat → List (BitVec 32 × List (List Byte)) → List (BitVec 32 × List (List Byte)) →
    List (List Byte) × List (BitVec 32 × List (List Byte)) × List (BitVec 32 × List (List Byte))
  | 0, a, b => ([], a, b)
  | f + 1, a, b =>
    match a, b with
    | x :: xs, y :: ys =>
      if x.1 = y.1 then (let r := alignLanes f xs ys; (x.2 ++ y.2 ++ r.1, r.2))
      else if (y.1 - x.1).toNat < 2 ^ 31 then (let r := alignLanes f xs b; (x.2 ++ r.1, r.2))
      else (let r := alignLanes f a ys; (y.2 ++ r.1, r.2))
    | _, _ =>
      let i := a.length - 2
      let j := b.length - 2
      ((a.take i).flatMap (·.2) ++ (b.take j).flatMap (·.2), a.drop i, b.drop j)

/-- Frames at the front of a link stream: each is its header's block and the payload blocks that the header counts (R363). -/
def takeFrames : Nat → List (List Byte) → List Frame × List (List Byte)
  | 0, l => ([], l)
  | f + 1, l =>
    match l with
    | h :: bs =>
      let hd := fhdrOfBytes h
      let n := hd.nblk.toNat
      if n ≤ bs.length then
        let r := takeFrames f (bs.drop n)
        ({ hdr := hd, data := (bs.take n).flatten } :: r.1, r.2)
      else ([], l)
    | [] => ([], [])

/-- The waiting codewords of the receiver's logical lanes join the link stream; with the frames that are whole. -/
def Link.gather (l : Link) : Link × List Frame :=
  let lane (k : Nat) : Lane := Tab.get Lane.init l.lanes k
  let put (x : Tab Lane) (k : Nat) (q : List (BitVec 32 × List (List Byte))) : Tab Lane := x.set k { (Tab.get Lane.init x k) with rxcw := q }
  let r : List (List Byte) × Tab Lane :=
    if l.rx0 ≥ 3 then ([], l.lanes)
    else if l.rx1 ≥ 3 then ((lane l.rx0).rxcw.flatMap (·.2), put l.lanes l.rx0 [])
    else
      let a := alignLanes 8 (lane l.rx0).rxcw (lane l.rx1).rxcw
      (a.1, put (put l.lanes l.rx0 a.2.1) l.rx1 a.2.2)
  let fs := takeFrames 64 (l.rxb ++ r.1)
  ({ l with lanes := r.2, rxb := fs.2 }, fs.1)

end Sys2Proof.Machine
end

