-- ==== Sys2Proof/Machine/Keeper.lean ====
section
/-! DEFINITION. The keeper lane: characters in and out, requests and their answers, resends, and the passage of a link to DOWN
(R338 to R342, R347). -/

namespace Sys2Proof.Machine

/-- A command of link `n` that may also touch the tide logic. -/
def atLinkTide (n : Nat) (s : State) (f : State → State) : Host.Outcome State Fault Refusal :=
  if n < nLinks s.build then tideAct s f else .fault (.noSuchLink n)

/-! ## Messages -/

/-- Payload bytes of a KTYPE; none where it is reserved (R341). -/
def kLen (ty : BitVec 8) : Option Nat :=
  match ty.toNat with
  | 1 => some 16 | 2 => some 4 | 3 => some 4 | 4 => some 4 | 5 => some 24 | 6 => some 4 | 7 => some 8 | 8 => some 8
  | 9 => some 4 | 10 => some 24 | 11 => some 16 | 12 => some 8 | 13 => some 4 | 14 => some 4 | 15 => some 4
  | _ => none

/-- The place of a KTYPE in the transmitter's order (R340). -/
def kPrio (ty : BitVec 8) : Nat :=
  match ty.toNat with
  | 11 => 0 | 12 => 1 | 7 => 2 | 8 => 2 | 15 => 3 | 9 => 4 | 10 => 4
  | _ => 5

/-- The queued message that goes next (R340): the first of the lowest place. -/
def kPick (l : List KMsg) : Option KMsg :=
  l.foldl (fun best k => match best with
    | none => some k
    | some b => if kPrio k.ktype < kPrio b.ktype then some k else some b) none

/-- A request that an answer with sequence `q` ends, if it awaits one (R340). -/
def Keeper.asked (k : Keeper) (ty q : BitVec 8) : Option KMsg := (k.waits.find? fun w => w.1.ktype == ty && w.1.kseq == q).map (·.1)

/-- An answer ends its request (R340). -/
def State.keeperDone (s : State) (n : Nat) (ty q : BitVec 8) : State :=
  s.modKpr n fun k => { k with
    waits := k.waits.filter fun w => !(w.1.ktype == ty && w.1.kseq == q), tx := k.tx.filter fun m => !(m.ktype == ty && m.kseq == q) }

/-- An answer with its request's KSEQ (R340). -/
def kAnswer (k : KMsg) (ty : BitVec 8) (data : List Byte) : KMsg := { ktype := ty, kseq := k.kseq, data := data }

/-- A request is taken (R340): a repeat of the last one acted on is answered again without acting; any other is acted on by `f`,
which gives the answer. -/
def State.keeperTake (s : State) (n : Nat) (k : KMsg) (f : State → State × KMsg) : State :=
  let q := (s.link n).kpr
  if q.lastReq == some (k.ktype, k.kseq) then (match q.lastAns with | some a => s.keeperSend n a | none => s)
  else
    let r := f s
    (r.1.modKpr n fun q => { q with lastReq := some (k.ktype, k.kseq), lastAns := some r.2 }).keeperSend n r.2

/-- A message without an answer (R341): KSEQ 0. -/
def kPlain (ty : BitVec 8) (data : List Byte) : KMsg := { ktype := ty, kseq := 0, data := data }

/-! ## DOWN -/

/-- A lane as DOWN leaves it: electrically idle both ways (R343). -/
def Lane.idle (l : Lane) : Lane :=
  { l with
    rxst := 0, txst := 0, cwlock := false, hunt := 0, huntCw := 0, huntMark := none, huntAt := 0, badCw := 0, badMark := 0, llane := 3, two := false
    winCorr := 0, winUnc := 0, winEnd := none, sends := none, rxcw := [] }

/-- Messages that outlive a passage through DOWN: HARVEST, ATTN and DOWN itself. -/
def kOutlives (k : KMsg) : Bool := k.ktype == 0x0B || k.ktype == 0x0C || k.ktype == 0x0F

/-- Link `n` goes to DOWN with a reason (R343, R347): its data lanes idle, a DOWN message leaves where the keeper is locked, and
from ACTIVE it is the fault "link down". -/
def State.linkDown (s : State) (n reason : Nat) : State :=
  let l := s.link n
  let s1 := s.modLink n fun l => { l with
    state := 6, reason := reason, attempts := min 3 (l.attempts + 1), rx0 := 3, rx1 := 3, tx0 := 3, tx1 := 3
    stageDue := none, expectDue := none, holdoff := some (s.fc + 10 * msFc), txSw := none, swapWait := [], swapDue := none
    farLock := false, lockTold := false, capsSent := false, capsRcvd := false, farLoop := false, looping := false, txf := [], txb := [], rxb := []
    lanes := [0, 1, 2].foldl (fun x k => x.set k (Tab.get Lane.init x k).idle) l.lanes
    kpr := { l.kpr with waits := [], tx := l.kpr.tx.filter kOutlives }
    ll := { l.ll with lossDue := l.ll.lossDue || l.state == 5 } }
  let s2 := { s1 with pwr := { s1.pwr with asleep := s1.pwr.asleep.filter fun e => e.1 != n } }
  let s3 := if l.kpr.locked then s2.keeperSend n (kPlain 0x0F [BitVec.ofNat 8 reason, 0, 0, 0]) else s2
  if l.state = 5 then s3.raise (unitId uPhy n) 0x0704 0 0 reason else s3

/-! ## Receiving -/

/-- A message is discarded: for its CRC with the fault of R339, else for its type, length or characters (R339, R361). -/
def State.keeperBad (s : State) (n : Nat) (crc : Bool) : State :=
  let s1 := s.modKpr n fun q => { q with
    rx := none, crcErr := if crc then inc8 q.crcErr else q.crcErr, badMsg := if crc then q.badMsg else inc8 q.badMsg }
  if crc then s1.raise (unitId uPhy n) 0x0701 0 0 0 else s1

/-- The bytes between the delimiters of a message have all come (R339). -/
def State.keeperEnd (s : State) (n : Nat) (bs : List Byte) : State :=
  let len := bs.length
  let body := bs.take (len - 2)
  let ty := nth 0 bs 0
  if len < 4 then s.keeperBad n false
  else if (crc16 body).toNat ≠ leAt bs (len - 2) 2 then s.keeperBad n true
  else if kLen ty ≠ some (len - 4) then s.keeperBad n false
  else
    let k : KMsg := { ktype := ty, kseq := nth 0 bs 1, data := body.drop 2 }
    (s.modKpr n fun q => { q with
      rx := none, came := if ty = 0x09 ∨ ty = 0x0A then q.came ++ [(k, q.rxAt)] else q.came }).emit (.keeper n k)

/-- A character of a message, or the start of one, on a locked lane (R339). -/
def State.keeperChar (s : State) (n : Nat) (c : KChar) : State :=
  match c, (s.link n).kpr.rx with
  | .k27_7, none => s.modKpr n fun q => { q with rx := some [], rxAt := s.nowFc }
  | .k27_7, some _ => (s.keeperBad n false).modKpr n fun q => { q with rx := some [], rxAt := s.nowFc }
  | .k29_7, some bs => s.keeperEnd n bs
  | .d b, some bs => if bs.length < 28 then s.modKpr n fun q => { q with rx := some (bs ++ [b]) } else s.keeperBad n false
  | _, some _ => s.keeperBad n false
  | _, none => s

/-- Comma lock and its loss (R338): three aligned idle sets lock; 64 characters without K28.5, or four errors in 16, lose it. -/
def Keeper.commaStep (q : Keeper) (fc : Nat) (c : KChar) : Keeper :=
  let q1 := { q with
    since := if c = .k28_5 then 0 else q.since + 1
    errs := ((c == .codeError) :: q.errs).take 16
    sets := if q.pos then (if c = .d 0x50 then q.sets + 1 else 0) else if c = .k28_5 then q.sets else 0
    pos := c == .k28_5 }
  if q.locked then
    if q1.since ≥ 64 ∨ (q1.errs.filter id).length ≥ 4 then
      { q1 with locked := false, sets := 0, errs := [], rx := none, lostAt := some fc, comma := inc8 q1.comma }
    else q1
  else if q1.sets ≥ 3 then { q1 with locked := true, errs := [], lostAt := none }
  else q1

/-- The character that a received code is: on a lane without comma lock the running disparity is taken as the code has it. -/
def Keeper.decode (q : Keeper) (v : BitVec 10) : KChar :=
  let c := decChar q.rxRd v
  if c == .codeError && !q.locked then decChar (!q.rxRd) v else c

/-- The running disparity after a received code: one that is uneven says it (R338). -/
def rdSeen (rd : Bool) (v : BitVec 10) : Bool := if ones v = 5 then rd else decide (5 < ones v)

/-- KEEPER_CHARACTER (R338, R339): an 8b/10b code has come. A DISABLED link's receiver is idle. -/
def execKeeperCharacter (n : Nat) (v : BitVec 10) (s : State) : Host.Outcome State Fault Refusal :=
  atLink n s fun s =>
    if (s.link n).state = 0 then s
    else
      let c := (s.link n).kpr.decode v
      let s1 := s.modKpr n fun q => { (q.commaStep s.fc c) with rxRd := rdSeen q.rxRd v }
      if (s.link n).kpr.locked && (s1.link n).kpr.locked then s1.keeperChar n c else s1

/-- KEEPER_LOSS_TIMEOUT (R347): 100 µs without comma lock. -/
def execKeeperLossTimeout (n : Nat) (s : State) : Host.Outcome State Fault Refusal :=
  atLink n s fun s =>
    match (s.link n).kpr.lostAt with
    | some a => if (s.link n).state = 5 ∧ a + 100 * usFc ≤ s.fc then s.linkDown n 3 else s
    | none => s

/-- KEEPER_DOWN_RECEIVED (R347): an ACTIVE link goes to DOWN. -/
def execKeeperDownReceived (n : Nat) (k : KMsg) (s : State) : Host.Outcome State Fault Refusal :=
  atLink n s fun s => if k.ktype = 0x0F ∧ (s.link n).state = 5 then s.linkDown n 5 else s

/-! ## Sending -/

/-- Whether the keeper transmitter drives its lane (R343): from the first sight of the far termination until DISABLED. -/
def Link.keeperOn (l : Link) : Bool := l.state != 0 && l.kdet.isSome

/-- Whether the keeper sends idle only: in the near-end loops (R352). -/
def Link.idleOnly (l : Link) : Bool := l.state == 8 && (l.loop == 1 || l.loop == 2)

/-- The message as it departs (R342): a TIDE_PONG carries the fc of its own departure as p3. -/
def kDeparting (now : BitVec 64) (k : KMsg) : KMsg :=
  if k.ktype = 0x0A then { k with data := k.data.take 8 ++ bytesOf 8 now.toNat ++ k.data.drop 16 } else k

/-- A character is handed to the PHY in its 8b/10b code (R338). -/
def State.keeperOut (s : State) (n : Nat) (c : KChar) : State :=
  let v := encChar (s.link n).kpr.txRd c
  (s.modKpr n fun q => { q with txRd := rdSeen q.txRd v }).emit (.kchar n c v)

/-- A message's K27.7 is handed over (R340, R342): a request's 10 µs start, and a TIDE_PING's departure is its exchange's c1. -/
def State.keeperDepart (s : State) (n : Nat) (k : KMsg) : State :=
  let k' := kDeparting s.nowFc k
  let s1 := (s.modKpr n fun q => { q with
    tx := q.tx.erase k, sending := (kmsgChars k').drop 1, idled := false
    waits := q.waits.map fun w => if w.1 == k then (w.1, s.fc + 10 * usFc, w.2.2) else w }).keeperOut n .k27_7
  if k.ktype = 0x09 then
    match s.tide.burst.get? n with
    | some b => s1.modTide fun t => { t with burst := t.burst.set n { b with c1 := b.c1.set (nth 0 k.data 0).toNat s.nowFc } }
    | none => s1
  else s1

/-- KEEPER_TRANSMIT (R338, R340): at phase 0 of every tick; after each message at least one idle set. -/
def execKeeperTransmit (n : Nat) (s : State) : Host.Outcome State Fault Refusal :=
  atLinkTide n s fun s =>
    let l := s.link n
    if s.tide.phase ≠ 0 ∨ !l.keeperOn then s
    else
      match l.kpr.sending with
      | c :: cs => (s.modKpr n fun q => { q with sending := cs }).keeperOut n c
      | [] =>
        match kPick l.kpr.tx with
        | some k =>
          if l.kpr.idled && !l.idleOnly then s.keeperDepart n k
          else (s.modKpr n fun q => { q with sending := [.d 0x50], idled := true }).keeperOut n .k28_5
        | none => (s.modKpr n fun q => { q with sending := [.d 0x50], idled := true }).keeperOut n .k28_5

/-- A request that has had its three resends is given up (R340): the exchange of a TIDE_PING ends its burst, a TEST_REQ leaves
no loop. -/
def State.keeperGiveUp (s : State) (n : Nat) (k : KMsg) : State :=
  if k.ktype = 0x09 then s.modTide fun t => { t with burst := t.burst.del n }
  else if k.ktype = 0x0D then s.modLink n fun l => { l with farLoop := false }
  else s

/-- KEEPER_RESEND_TIMEOUT (R340). -/
def execKeeperResendTimeout (n : Nat) (s : State) : Host.Outcome State Fault Refusal :=
  atLinkTide n s fun s =>
    match (s.link n).kpr.waits.find? fun w => w.2.1 != 0 && decide (w.2.1 ≤ s.fc) with
    | none => s
    | some w =>
      if w.2.2 < 3 then
        s.modKpr n fun q => { q with
          waits := replaceFirst (· == w) (w.1, 0, w.2.2 + 1) q.waits, tx := q.tx ++ [w.1], resend := inc8 q.resend }
      else (s.modKpr n fun q => { q with waits := q.waits.erase w }).keeperGiveUp n w.1

end Sys2Proof.Machine
end

