-- ==== Sys2Proof/Machine/Lanes.lean ====
section
/-! DEFINITION. Data lanes: codewords, lock and markers, health windows, live sparing and the lane maps (R332 to R337, R346, R349
to R351, R555). -/

namespace Sys2Proof.Machine

/-! ## Maps -/

/-- Whether the receiver counts a lane's health (R349): it is a logical lane or a spare. -/
def Lane.heard (l : Lane) : Bool := l.rxst == 1 || l.rxst == 2

/-- The logical lane that physical lane `k` is received as. -/
def Link.rxLogical (l : Link) (k : Nat) : Option Nat := if l.rx0 = k then some 0 else if l.rx1 = k then some 1 else none

/-- A direction runs one logical lane (R355). -/
def Link.half (l : Link) : Bool := (l.tx0 != 3 && l.tx1 == 3) || (l.rx0 != 3 && l.rx1 == 3)

/-- The physical lane whose markers state logical lane `k` (R335). -/
def Link.markedAs (l : Link) (k : Nat) : Nat :=
  ((List.range 3).find? fun i => (l.lane i).cwlock && (l.lane i).rxst != 3 && (l.lane i).llane == k).getD 3

/-- The receiver's map is what its lanes' markers state (R331, R336, R350): spares are the locked lanes of LLANE 3. -/
def Link.followMarkers (l : Link) : Link :=
  let a := l.markedAs 0
  let b := if (l.lane a).two then l.markedAs 1 else 3
  let l1 := { l with rx0 := a, rx1 := b }
  (List.range 3).foldl (fun l k => l.modLane k fun x => { x with
    rxst := if x.rxst = 3 then 3 else if k = a ∨ k = b then 1 else if x.cwlock && x.llane == 3 then 2 else 0 }) l1

/-- The transmit direction's codeword count: one codeword in 340/7 fc since count 0 (R334, R335, R346). -/
def State.txCount (s : State) (l : Link) : Nat := (s.fc - l.lockAt) * 7 / 340 % 2 ^ 32

/-- The transmitter's spare lane. -/
def Link.txSpare (l : Link) : Nat := ((List.range 3).find? fun k => (l.lane k).txst == 2).getD 3

/-- The receiver's spare lane that is not failed. -/
def Link.rxSpare (l : Link) : Nat := ((List.range 3).find? fun k => (l.lane k).rxst == 2).getD 3

/-! ## Failing lanes (R349) -/

/-- SWAP_REQ for a failed logical lane (R341, R349). -/
def State.swapAsk (s : State) (n ll action reason cw : Nat) : State :=
  s.keeperAsk n 0x07 ([BitVec.ofNat 8 ll, BitVec.ofNat 8 action, BitVec.ofNat 8 reason, 0] ++ bytesOf 4 cw)

/-- The receiver's request for a failed logical lane: the spare if it has one that is not failed, woken first where it sleeps
(R349, R555); else one lane. -/
def State.swapFor (s : State) (n ll reason cw : Nat) : State :=
  let sp := (s.link n).rxSpare
  if sp = 3 then s.swapAsk n ll 2 reason cw
  else if s.pwr.asleep.contains (n, sp) then
    ({ s with pwr := { s.pwr with asleep := s.pwr.asleep.filter (· != (n, sp)) } }).modLink n fun l => { l with swapDue := some (ll, reason) }
  else s.swapAsk n ll 1 reason cw

/-- A lane is failing (R349): a spare is marked failed and nothing else happens; a logical lane is marked failed and a swap is
asked for. -/
def State.laneFail (s : State) (n k reason : Nat) : State :=
  let l := s.link n
  if !(l.lane k).heard then s
  else
    let s1 := s.modLink n fun l => l.modLane k fun x => { x with rxst := 3 }
    match l.rxLogical k with
    | some ll => s1.swapFor n ll reason (l.lane k).cw.toNat
    | none => s1

/-- The states in which the receiver takes codewords and keeps lane health (R349). -/
def Link.fecOn (l : Link) : Bool := l.state == 3 || l.state == 4 || l.state == 5

/-- Codeword lock is lost (R337): the lane is failing for it, unless it sleeps (R555). -/
def State.lockLost (s : State) (n k : Nat) : State :=
  let was := ((s.link n).lane k).cwlock
  let s1 := s.modLink n fun l => l.modLane k fun x => { x with
    cwlock := false, hunt := 0, huntCw := 0, huntMark := none, badCw := 0, badMark := 0 }
  if was && (s.link n).fecOn && !s.pwr.asleep.contains (n, k) then s1.laneFail n k 1 else s1

/-! ## Codewords -/

/-- Counts of a codeword (R349, R358). -/
def Lane.count (l : Lane) (c : Codeword) : Lane :=
  let n := c.corrected
  let u := b2n c.uncorrectable
  { l with
    los := false, corr := satAdd l.corr n, uncor := add8 l.uncor u
    winCorr := if l.heard then l.winCorr + n else l.winCorr, winUnc := if l.heard then l.winUnc + u else l.winUnc }

/-- A lane in the hunt takes a codeword at its candidate boundary (R337): after three good ones in a row, two markers with
consecutive counts within the next 512 give lock; a codeword past these begins the hunt anew. -/
def Lane.hunting (l : Lane) (c : Codeword) : Lane :=
  if l.hunt < 3 then { l with hunt := if c.uncorrectable then 0 else l.hunt + 1 }
  else if l.huntCw ≥ 512 then { l with hunt := if c.uncorrectable then 0 else 1, huntCw := 0, huntMark := none }
  else
    match (if c.uncorrectable then none else c.marker), l.huntMark with
    | some (n, two, ll, _), some m =>
      if n = m + 256 ∧ l.huntCw = l.huntAt + 256 then
        { l with
          cwlock := true, hunt := 0, huntCw := 0, huntMark := none, badCw := 0, badMark := 0, cw := n, mark := n, llane := ll.toNat, two := two }
      else { l with huntCw := l.huntCw + 1, huntMark := some n, huntAt := l.huntCw }
    | some (n, _, _, _), none => { l with huntCw := l.huntCw + 1, huntMark := some n, huntAt := l.huntCw }
    | none, _ => { l with huntCw := l.huntCw + 1 }

/-- A locked lane takes a codeword (R335, R337): uncorrectable codewords in a row, and markers that are missing or whose count is not the
previous one's plus 256; a good marker sets the count of its codeword. -/
def Lane.locked (l : Lane) (c : Codeword) : Lane :=
  let n := l.cw + 1
  let l1 := { l with cw := n, badCw := if c.uncorrectable then l.badCw + 1 else 0 }
  if n.toNat % 256 = 0 then
    match (if c.uncorrectable then none else c.marker) with
    | some (m, two, ll, _) =>
      if m = l.mark + 256 then { l1 with badMark := 0, cw := m, mark := m, llane := ll.toNat, two := two }
      else { l1 with badMark := l.badMark + 1, mark := m }
    | none => { l1 with badMark := l.badMark + 1, mark := l.mark + 256 }
  else l1

/-- The frames that the received link stream holds whole go to the link layer, for the FRAME_ rows to take (R336, R363). -/
def State.gather (s : State) (n : Nat) : State :=
  let r := (s.link n).gather
  r.2.foldl (fun s f => s.emit (.rxFrame n f)) (s.modLink n fun _ => r.1)

/-- A locked lane that carries a logical lane takes the blocks of its codeword (R333, R336); those of a failed one are discarded (R350). -/
def State.takeCodeword (s : State) (n lane : Nat) (c : Codeword) : State :=
  let l := s.link n
  if (l.lane lane).cwlock && (l.lane lane).rxst == 1 && (l.rxLogical lane).isSome then (s.modLink n fun l => l.modLane lane fun x => x.take c).gather n else s

/-- CODEWORD_RECEIVED (R333 to R337). Before the first map of LOCK is complete the receiver follows the markers at once; a later
change waits for RX_MAP_SWITCH. Where the crossing of the link's event counters is `full`, the counts of the codeword are dropped and
OVR_EV is set (R31, R32). -/
def execCodewordReceived (n lane : Nat) (c : Codeword) (full : Bool) (s : State) : Host.Outcome State Fault Refusal :=
  atLink n s fun s =>
    if lane ≥ 3 ∨ !(s.link n).fecOn then s
    else
      let s0 := s.modLink n fun l => l.modLane lane fun x => if x.cwlock then x.locked c else x.hunting c
      let s1 :=
        if full && decide (0 < c.wrong) then s0.modLl n fun l => { l with ovrEv := true }
        else s0.modLink n fun l => l.modLane lane fun x => x.count c
      let x := (s1.link n).lane lane
      if x.cwlock && (decide (x.badCw ≥ 3) || decide (x.badMark ≥ 2)) then s1.lockLost n lane
      else (if (s.link n).state = 3 ∧ x.cwlock = true then s1.modLink n Link.followMarkers else s1).takeCodeword n lane c

/-- LANE_LOSS_OF_SIGNAL (R337). -/
def execLaneLossOfSignal (n lane : Nat) (s : State) : Host.Outcome State Fault Refusal :=
  atLink n s fun s =>
    if lane ≥ 3 then s else (s.modLink n fun l => l.modLane lane fun x => { x with los := true }).lockLost n lane

/-- LANE_HEALTH_WINDOW (R349): the 1 ms window of a mapped or spare lane ends. -/
def execLaneHealthWindow (n lane : Nat) (s : State) : Host.Outcome State Fault Refusal :=
  atLink n s fun s =>
    let l := s.link n
    let x := l.lane lane
    match x.winEnd with
    | some e =>
      if e ≤ s.fc ∧ l.fecOn = true then
        let s1 := s.modLink n fun l => l.modLane lane fun x => { x with winCorr := 0, winUnc := 0, winEnd := some (e + msFc) }
        if x.winCorr > l.corrLim.toNat then s1.laneFail n lane 2
        else if x.winUnc ≥ l.uncLim.toNat then s1.laneFail n lane 3
        else s1
      else s
    | none => s

/-- SPARE_LANE_WAKE (R555): the woken spare has regained codeword lock, and the swap that waited for it is asked for. -/
def execSpareLaneWake (n lane : Nat) (s : State) : Host.Outcome State Fault Refusal :=
  atLink n s fun s =>
    let l := s.link n
    match l.swapDue with
    | some (ll, reason) =>
      if lane < 3 ∧ (l.lane lane).rxst = 2 then
        (s.modLink n fun l => { (l.modLane lane fun x => { x with cwlock := true, los := false, badCw := 0, badMark := 0 }) with
          swapDue := none }).swapAsk n ll 1 reason (l.lane lane).cw.toNat
      else s
    | none => s

/-! ## Sending codewords -/

/-- The logical lane that physical lane `k` sends, 3 for none. -/
def Link.txLogical (l : Link) (k : Nat) : Nat := if l.tx0 = k then 0 else if l.tx1 = k then 1 else 3

/-- One codeword of count `cw` leaves on physical lane `k`, as PAM4 levels (R332 to R336). -/
def State.sendCodeword (s : State) (n cw k : Nat) : State :=
  let l := s.link n
  if k < 3 ∧ ((l.lane k).txst = 1 ∨ (l.lane k).txst = 2) then
    let r := l.codeword k (l.txLogical k) cw
    (s.modLink n fun _ => r.2).emit (.levels n k (codewordLevels r.1))
  else s

/-- In the fabric cycle in which a codeword begins, every lane that transmits sends the one of that count: logical lane 0's blocks are dealt
before logical lane 1's, and what carries neither follows (R334 to R336). -/
def State.sendCodewords (s : State) (n : Nat) : State :=
  let l := s.link n
  let due (fc : Nat) : Nat := (fc - l.lockAt) * 7 / 340
  if l.fecOn && (due s.fc != due (s.fc - 1) || s.fc == l.lockAt + 1) then
    let order := [l.tx0, l.tx1] ++ (List.range 3).filter fun k => k != l.tx0 && k != l.tx1
    order.foldl (fun s k => s.sendCodeword n (due s.fc % 2 ^ 32) k) s
  else s

/-! ## Test patterns (R353) -/

/-- A pattern checker takes one bit: a full history seeds it and says which bit is expected. -/
def Lane.checkBit (x : Lane) (pat : Nat) (b : Bool) : Lane :=
  let full := decide ((prbsTaps pat).1 ≤ x.hist.length)
  let want := prbsNext pat (fun i => nth false x.hist i)
  let bad := full && want != b
  if x.plock then
    let y := { x with
      hist := (want :: x.hist).take 31, errs := (bad :: x.errs).take 1024, prbsErr := if bad then satAdd x.prbsErr 1 else x.prbsErr }
    if (y.errs.filter id).length > 256 then { y with plock := false, run := 0, hist := [], errs := [] } else y
  else
    let run := if full && !bad then x.run + 1 else 0
    { x with hist := (b :: x.hist).take 31, run := run, plock := decide (run ≥ 64), errs := [] }

/-- The bits come to the checker of lane `k`, if it is enabled. -/
def State.checkBits (s : State) (n k : Nat) (bs : List Bool) : State :=
  if (s.link n).chkEn.getLsbD k then s.modLink n fun l => l.modLane k fun x => bs.foldl (fun x b => x.checkBit l.pat b) x else s

/-- The pattern that the generator of lane `k` sends (R345, R353): PRBS31 in TRAIN, and in TEST the one that LINK_PRBS_CTL or a TEST_REQ
names. -/
def Link.sending (l : Link) (k : Nat) : Option Nat :=
  if l.state = 2 then some 2 else if l.state = 8 then (if l.gen.getLsbD k then some l.pat else (l.lane k).sends) else none

/-- A near-end loop is in force, in which the receiver hears this end's own transmitter and the pins are idle (R352). -/
def Link.nearLoop (l : Link) : Bool := l.state == 8 && (l.loop == 1 || l.loop == 2)

/-- The generator of lane `k` sends the 112 bits of one fc: to the far end, or to the own checker in a near-end loop. -/
def State.sendPattern (s : State) (n k : Nat) : State :=
  let l := s.link n
  match l.sending k with
  | some pat =>
    let r := prbsBits pat 112 (prbsSeed pat (l.lane k).prbs)
    let s1 := s.modLink n fun l => l.modLane k fun x => { x with prbs := r.2 }
    if l.nearLoop then s1.checkBits n k r.1 else s1.emit (.levels n k (levelsOf r.1))
  | none => s

/-- What the lanes of link `n` send in one fc. -/
def State.lanesSend (s : State) (n : Nat) : State := [0, 1, 2].foldl (fun s k => s.sendPattern n k) (s.sendCodewords n)

/-! ## Swaps (R350) -/

/-- SWAP_ACK to a request (R341). -/
def swapAck (k : KMsg) (ll action result lane : Nat) (n : Nat) : KMsg :=
  kAnswer k 0x08 ([BitVec.ofNat 8 ll, BitVec.ofNat 8 action, BitVec.ofNat 8 result, BitVec.ofNat 8 lane] ++ bytesOf 4 n)

/-- N: the first multiple of 256 that is at least 128 beyond the transmit count. -/
def swapN (count : Nat) : Nat := (count + 128 + 255) / 256 * 256

/-- The map after a granted request (R350): the new maps, the released lane, the new lane and the result. -/
def Link.swapMap (l : Link) (ll action : Nat) : Nat × Nat × Nat × Nat × Nat :=
  let old := if ll = 0 then l.tx0 else l.tx1
  let other := if ll = 0 then l.tx1 else l.tx0
  if action = 1 then
    let sp := l.txSpare
    if sp = 3 ∨ old = 3 then (l.tx0, l.tx1, 3, 3, 1)
    else if ll = 0 then (sp, l.tx1, old, sp, 0) else (l.tx0, sp, old, sp, 0)
  else if other = 3 ∨ old = 3 then (l.tx0, l.tx1, 3, 3, 2)
  else (other, 3, old, other, 0)

/-- A swap request is judged against the map in force and answered; a granted one is scheduled for N with its fault (R350). -/
def State.swapJudge (s : State) (n : Nat) (k : KMsg) : State × KMsg :=
  let l := s.link n
  let ll := (nth 0 k.data 0).toNat % 2
  let action := (nth 0 k.data 1).toNat
  let r := l.swapMap ll action
  let res := r.2.2.2.2
  if res = 0 then
    let at_ := swapN (s.txCount l)
    ((s.modLink n fun l => { l with txSw := some { n := BitVec.ofNat 32 at_, map0 := r.1, map1 := r.2.1, freed := r.2.2.1 } }).raise
      (unitId uPhy n) (if action = 1 then 0x0706 else 0x0707) 0 ll 0, swapAck k ll action 0 r.2.2.2.1 at_)
  else (s, swapAck k ll action res 3 0)

/-- A swap request is taken (R350): one at a time; a second waits until its predecessor's N has been sent. -/
def State.swapTake (s : State) (n : Nat) (k : KMsg) : State :=
  let l := s.link n
  if l.swapWait.contains k then s
  else if l.txSw.isSome && l.kpr.lastReq != some (k.ktype, k.kseq) then s.modLink n fun l => { l with swapWait := l.swapWait ++ [k] }
  else s.keeperTake n k fun s => s.swapJudge n k

/-- A SWAP_REQ of an action (R341). -/
def isSwap (k : KMsg) (action : Byte) : Bool := k.ktype == 0x07 && nth 0 k.data 1 == action

/-- SWAP_REQ_SPARE_IN (R350). -/
def execSwapReqSpareIn (n : Nat) (k : KMsg) (s : State) : Host.Outcome State Fault Refusal :=
  atLink n s fun s => if isSwap k 1 && (s.link n).fecOn then s.swapTake n k else s

/-- SWAP_REQ_DROP_LANE (R350). -/
def execSwapReqDropLane (n : Nat) (k : KMsg) (s : State) : Host.Outcome State Fault Refusal :=
  atLink n s fun s => if isSwap k 2 && (s.link n).fecOn then s.swapTake n k else s

/-- SWAP_ACK_RECEIVED (R350): the map itself follows the markers. With no spare at the transmitter the receiver asks for one lane;
where no lane would remain, no physical lane carries a logical lane (R347). -/
def execSwapAckReceived (n : Nat) (k : KMsg) (s : State) : Host.Outcome State Fault Refusal :=
  atLink n s fun s =>
    if k.ktype ≠ 0x08 then s
    else
      match (s.link n).kpr.asked 0x07 k.kseq with
      | none => s
      | some q =>
        let s1 := s.keeperDone n 0x07 k.kseq
        match (nth 0 k.data 2).toNat with
        | 1 => s1.swapAsk n (nth 0 q.data 0).toNat 2 (nth 0 q.data 2).toNat (leAt q.data 4 4)
        | 2 => if (s.link n).fecOn then s1.linkDown n 4 else s1
        | _ => s1

/-- Requests that waited for the switch are judged, until one is granted (R350). -/
def State.swapNext (s : State) (n : Nat) : State :=
  (s.link n).swapWait.foldl (fun s k =>
    if (s.link n).txSw.isSome then s
    else (s.modLink n fun l => { l with swapWait := l.swapWait.erase k }).keeperTake n k fun s => s.swapJudge n k) s

/-- TX_MAP_SWITCH (R350): from codeword N the transmitter sends the new map, and the released lane is idle. -/
def execTxMapSwitch (n : Nat) (s : State) : Host.Outcome State Fault Refusal :=
  atLink n s fun s =>
    let l := s.link n
    match l.txSw with
    | some w =>
      if l.fecOn && decide (w.n.toNat ≤ s.txCount l) then
        let s1 := s.modLink n fun l =>
          let l1 := l.modLane w.freed fun x => { x with txst := 3 }
          let l2 := if w.map0 < 3 then l1.modLane w.map0 fun x => { x with txst := 1 } else l1
          let l3 := if w.map1 < 3 then l2.modLane w.map1 fun x => { x with txst := 1 } else l2
          { l3 with tx0 := w.map0, tx1 := w.map1, txSw := none }
        if w.map0 = 3 ∧ w.map1 = 3 then s1.linkDown n 4 else s1.swapNext n
      else s
    | none => s

/-- RX_MAP_SWITCH (R350): the receiver's map becomes what the markers state; with no lane left the link goes to DOWN (R347). -/
def execRxMapSwitch (n : Nat) (s : State) : Host.Outcome State Fault Refusal :=
  atLink n s fun s =>
    if (s.link n).fecOn then
      let s1 := s.modLink n Link.followMarkers
      if (s1.link n).rx0 = 3 ∧ (s1.link n).rx1 = 3 then s1.linkDown n 4 else s1
    else s

end Sys2Proof.Machine
end

