-- ==== Sys2Proof/Config.lean ====
section
/-! DEFINITION. What an implementation fixes and the spec leaves open, as constants without a body: nothing in Lean can
see a value of them, so a statement holds whatever they are (log entries name each). -/

namespace Sys2Proof.Config

/-- Word `k` of a fuse bank gives row `y`'s factory repair entry: valid and column. The layout of the fuse words is not in
the spec but for the final word's CRC-32 (R443, R564); log entry 12. -/
opaque fuseRow : List Word → Nat → Option Nat

/-- The silicon step the fuse words record (R7, R443); log entry 12. -/
opaque fuseStep : List Word → BitVec 8

/-- The fault-test fuse (R468, R476); log entry 12. -/
opaque fuseFaultTest : List Word → Bool

/-- The current a link draws at full power, as the fuses record it, in 0.25 A (R547); log entry 12. -/
opaque fuseLinkCurrent : List Word → Nat → Nat

/-- The current a row's combine units draw idle, as the fuses record it, in 0.25 A (R547); log entry 12. -/
opaque fuseCuIdle : List Word → Nat → Nat

/-- The current a row's combine units draw at full rate, as the fuses record it, in 0.25 A (R547); log entry 12. -/
opaque fuseCuFull : List Word → Nat → Nat

/-- The reserve current the fuses record, in 0.25 A (R547); log entry 12. -/
opaque fuseReserve : List Word → Nat

/-- The base CTLE code of a link's lane, as the fuse words record it (R443); log entry 12. -/
opaque fuseCtle : List Word → Nat → Nat → BitVec 5

/-- The words of a region of a unit's scan stream, but for those of its registers: the manual names what a region holds of the state
`s` and leaves the order and the layout of its words open (R496); log entry 13. -/
opaque scanRegion {σ : Type} (s : σ) (unit region : Nat) : List Word

/-- Which of a re-send tile's egress trees carries a message of the higher tree, by tile, collective and the higher tree: the
manual names none where the tile holds several (R234, R397); log entry 40. -/
opaque egressTree : Nat → Nat → Nat → Nat

/-- The number by which DET_V of a crossing timeout names its path: the manual numbers the paths of R31 nowhere; log entry 41. -/
opaque pathCode : Nat → Nat

/-- What a receiver's adaptation asks of the far transmitter's taps (byte 1 of TRAIN_REQ), and the peaking code it takes, by link,
lane and fc: internal to the PHY (R345); log entry 50. -/
opaque trainSteps : Nat → Nat → Nat → BitVec 8
opaque trainCtle : Nat → Nat → Nat → BitVec 5

/-- Which of the units that have a record ready the trace ring serves, by fc and their number: the manual gives no rule but that of
arrival (R501); log entry 43. -/
opaque ringPick : Nat → Nat → Nat

end Sys2Proof.Config
end

