-- ==== Sys2Proof/Machine/BringUp.lean ====
section
/-! DEFINITION. Link bring-up: roles and allocation, the stages, training, LOCK, CAPS, and the LINK registers that have commands of
their own; test loops and pattern checkers (R343 to R348, R352 to R362, R373, R374, R395). -/

namespace Sys2Proof.Machine

/-! ## Roles (R373, R374, R395) -/

/-- The default allocation of HF-E (R374): a board peer that the NODES section does not provide leaves role 0. -/
def State.defaultRec (s : State) (n : Nat) : LinkRec :=
  if s.build = .hfS then { role := 3, far := 0, circ := 0 }
  else if n % 2 = 0 then { role := 2, far := if n < 32 then n / 2 else 16 + (n - 32) / 2, circ := 0 }
  else if n = 31 ∨ n = 63 then { role := 6, far := 0, circ := 0 }
  else
    let k := if n < 32 then (n - 1) / 2 else (n - 33) / 2
    let pos := if k < s.chipPos then k else k + 1
    if (s.nodeAt pos).isSome then { role := 1, far := pos, circ := 0 } else { role := 0, far := 0, circ := 0 }

/-- The allocation of link `n` in force (R374, R395, R432). -/
def State.linkRec (s : State) (n : Nat) : LinkRec :=
  if s.img.act.linksGiven then
    let r := nth (default : LinkRec) s.img.act.links n
    if s.build = .hfS ∧ r.role = 0 then { r with role := 3 } else r
  else s.defaultRec n

/-- The node at the far end of link `n`: that of its last CAPS. -/
def State.farNode (s : State) (n : Nat) : Nat := (s.link n).farNode.toNat

/-- BLK_ID (R7). -/
def State.blkId (s : State) : Word := (0x4E512 : BitVec 20) ++ (match s.build with | .hfE => 1 | .hfS => 2 : BitVec 4) ++ s.silicon

/-! ## Messages of bring-up (R341, R373) -/

/-- Lanes for which `p` holds, as bits 2:0. -/
def Link.mask (l : Link) (p : Lane → Bool) : Nat := ((List.range 3).filter fun k => p (l.lane k)).foldl (fun m k => m + 2 ^ k) 0

/-- HELLO (R341). -/
def State.helloMsg (s : State) (n : Nat) : KMsg :=
  let l := s.link n
  kPlain 0x01 (bytesOf 4 s.blkId.toNat ++ bytesOf 2 s.node ++ [BitVec.ofNat 8 n, BitVec.ofNat 8 l.state] ++ bytesOf 2 s.img.act.pod ++
    [BitVec.ofNat 8 (l.mask (·.detected)), 0, 0, 0, 0, 0])

/-- The payload of CAPS (R341, R373). -/
def State.capsData (s : State) (n : Nat) : List Byte :=
  let l := s.link n
  let r := (s.linkRec n).role
  bytesOf 4 s.blkId.toNat ++ bytesOf 2 s.node ++ [BitVec.ofNat 8 n, BitVec.ofNat 8 r] ++ bytesOf 2 s.img.act.pod ++
    bytesOf 2 (l.expNode.toNat + b2n l.expVld * 2 ^ 15) ++ [l.expLink, 1, 132, 8, 64, if r = 1 then 1 else 0, 0, 0, 0, 0, 0, 0]

/-- Every mapped lane of the receive direction is locked, or has no signal because the far end does not send on it, and the
logical lanes are deskewed (R337, R343). -/
def Link.deskewed (l : Link) : Bool :=
  let ks := (List.range 3).filter fun k => (l.lane k).rxst == 1
  !ks.isEmpty && decide (l.rx0 < 3) && (!(l.lane l.rx0).two || decide (l.rx1 < 3)) &&
  ks.all fun a => ks.all fun b => decide ((l.lane a).cw.toNat ≤ (l.lane b).cw.toNat + 2)

/-- LOCK (R341). -/
def Link.lockMsg (l : Link) : KMsg :=
  kPlain 0x04 [BitVec.ofNat 8 (l.mask (·.cwlock)), BitVec.ofNat 8 (b2n l.deskewed), 0, 0]

/-- TRAIN_REQ of a receiver for a lane (R341, R345): the tap steps of byte 1 and the lane's state. -/
def State.trainAsk (s : State) (n k : Nat) (steps : BitVec 8) : State :=
  let x := (s.link n).lane k
  s.keeperAsk n 0x02 [BitVec.ofNat 8 k, steps, BitVec.ofNat 8 (b2n x.ready + 2 * b2n x.giveUp), 0]

/-! ## Stages (R343) -/

/-- To DETECT. -/
def State.toDetect (s : State) (n : Nat) : State :=
  s.modLink n fun l => { l with
    state := 1, holdoff := none, stageDue := none, kdet := none, helloDue := s.fc, kpr := { l.kpr with sending := [], idled := false }
    lanes := [0, 1, 2].foldl (fun x k => x.set k { (Tab.get Lane.init x k) with detected := false }) l.lanes }

/-- The taps of a preset (R345): pre and post magnitudes. -/
def preset (p : Nat) : BitVec 4 × BitVec 5 :=
  match p with
  | 0 => (0, 0) | 1 => (0, 8) | 2 => (4, 8) | _ => (8, 12)

/-- The main tap that the other two leave (R345). -/
def mainTap (pre : BitVec 4) (post : BitVec 5) : BitVec 7 := BitVec.ofNat 7 (64 - pre.toNat - post.toNat)

/-- A lane's codes become these taps. -/
def Lane.taps (x : Lane) (pre : BitVec 4) (post : BitVec 5) : Lane := { x with pre := pre, post := post, main := mainTap pre post }

/-- A lane at the start of TRAIN (R345, R356, R432, R443): codes that LINK_LANE_n was written with take effect where OVR is set; a
lane never written takes its CALIB record, if there is one, its codes where that sets OVR and else its preset; every other lane
starts from preset `p` and the base peaking code of the fuses. -/
def Lane.train (x : Lane) (calib : Option (Nat × Word)) (base : BitVec 5) (p fc : Nat) : Lane :=
  let x1 : Lane := { x.idle with ready := false, giveUp := false, farReady := false, farGiveUp := false, winEnd := some (fc + msFc) }
  let start (p : Nat) : Lane := { x1.taps (preset p).1 (preset p).2 with ctle := base }
  match x.next, calib with
  | some (c, pre, post), _ => if x.ovr then { x1.taps pre post with ctle := c } else start p
  | none, some (q, w) =>
    if w.getLsbD 26 then { x1.taps (w.extractLsb' 12 4) (w.extractLsb' 7 5) with ctle := w.extractLsb' 21 5, ovr := true }
    else { start q with ovr := false }
  | none, none => { start p with ovr := false }

/-- The CALIB record of a lane in force: its preset and its codes (R432). -/
def State.calibOf (s : State) (n k : Nat) : Option (Nat × Word) :=
  ((s.img.act.calib.filter fun r => r.1 == n && r.2.1 == k).getLast?).map fun r => (r.2.2.1 % 4, r.2.2.2)

/-- To TRAIN: 20 ms. -/
def State.toTrain (s : State) (n : Nat) : State :=
  s.modLink n fun l => { l with
    state := 2, stageDue := some (s.fc + 20 * msFc), expectDue := none, helloDue := s.fc + msFc
    lanes := [0, 1, 2].foldl (fun x k => x.set k ((Tab.get Lane.init x k).train (s.calibOf n k) (Config.fuseCtle s.start.fuses n k) l.preset s.fc)) l.lanes }

/-- The transmitter's map (R346): lanes that the far receiver reported ready, the two lowest as logical lanes 0 and 1, a third as
the spare where SPARE_EN is 1. -/
def Link.mapTx (l : Link) : Link :=
  let r := (List.range 3).filter fun k => (l.lane k).farReady
  let l1 := { l with tx0 := nth 3 r 0, tx1 := nth 3 r 1 }
  (List.range 3).foldl (fun l k => l.modLane k fun x => { x with
    txst := if k = nth 3 r 0 ∨ k = nth 3 r 1 then 1 else if k = nth 3 r 2 ∧ l.spareEn = true then 2 else 0 }) l1

/-- To LOCK: 1 ms; codeword counts start at 0, and the health windows with them. -/
def State.toLock (s : State) (n : Nat) : State :=
  s.modLink n fun l => { (List.range 3).foldl (fun l k => l.modLane k fun x => { x with winEnd := some (s.fc + msFc), winCorr := 0, winUnc := 0, los := !x.ready }) l.mapTx with
    state := 3, stageDue := some (s.fc + msFc), lockDue := s.fc, lockAt := s.fc, farLock := false, lockTold := false }

/-- TRAIN ends when every lane is ready or given up at both ends with one ready in each direction. -/
def State.trainExit (s : State) (n : Nat) : State :=
  let l := s.link n
  let all := (List.range 3).all fun k => let x := l.lane k; (x.ready || x.giveUp) && (x.farReady || x.farGiveUp)
  let some_ := (List.range 3).any (fun k => (l.lane k).ready) && (List.range 3).any fun k => (l.lane k).farReady
  if l.state = 2 ∧ (all && some_) = true then s.toLock n else s

/-- Every lane this end's transmitter maps. -/
def Link.txMask (l : Link) : Nat := l.mask fun x => x.txst == 1 || x.txst == 2

/-- This end's own report is complete: every lane it trained is locked, or silent because the far end holds it idle, and the
logical lanes are deskewed. -/
def Link.ownLock (l : Link) : Bool := l.deskewed && (List.range 3).all fun k => let x := l.lane k; !x.ready || x.cwlock || x.los

/-- LOCK ends when LOCK messages of both ends report every mapped and spare lane locked and deskewed: CAPS leaves, and the tide burst of R46
runs. The far end's CAPS may have been answered already. -/
def State.lockExit (s : State) (n : Nat) : State :=
  let l := s.link n
  if l.state = 3 ∧ l.farLock = true ∧ l.lockTold = true ∧ l.ownLock = true then
    linkUpBurst ((s.modLink n fun l => { l with state := 4, stageDue := some (s.fc + msFc) }).keeperAsk n 0x05
      (s.capsData n)) n
  else s

/-- The link layer at the entry to ACTIVE (R367, R369, R370): sequences from 0, credits as the far end's CAPS states them. -/
def LinkLayer.start (l : LinkLayer) (fc : Nat) : LinkLayer :=
  { l with
    nextSeq := 0, expected := 0, replay := [], toReplay := 0, replays := 0, nakUntil := none, nakDue := false
    credit := [(0, l.farT), (1, l.farT), (2, l.farT), (3, l.farT), (4, l.farC), (5, l.farC)]
    owed := [], oweSince := none, ackOwed := false, circTx := [], circRx := [], lastSent := fc, rxOpen := [], rxDisc := []
    relays := [], lost := false, rewritten := false, activeAt := some fc, lostAt := none }

/-- CAPS ends when result 0 has been sent and received: ACTIVE; the ring port lives again. A loss that is still to be declared
comes first. -/
def State.capsExit (s : State) (n : Nat) : State :=
  let l := s.link n
  if l.state = 4 ∧ l.capsSent = true ∧ l.capsRcvd = true ∧ l.ll.lossDue = false then
    (s.modLink n fun l => { l with state := 5, stageDue := none, attempts := 0, ll := l.ll.start s.ft }).livePort (linkTile s.build n)
      (5 + linkPort s.build n)
  else s

/-- RECEIVER_DETECT (R343, R344): the keeper's far termination starts the 2 ms of DETECT. -/
def execReceiverDetect (n : Nat) (present : BitVec 3) (keeper : Bool) (s : State) : Host.Outcome State Fault Refusal :=
  atLink n s fun s =>
    if (s.link n).state = 1 then
      s.modLink n fun l => { ([0, 1, 2].foldl (fun l k => l.modLane k fun x => { x with detected := present.getLsbD k }) l) with
        kdet := if keeper then (if l.kdet.isSome then l.kdet else some s.fc) else none
        stageDue := if keeper then (if l.kdet.isSome then l.stageDue else some (s.fc + 2 * msFc)) else none }
    else s

/-- HELLO_TIMER (R341): every 10 µs in DETECT and every 1 ms after. -/
def execHelloTimer (n : Nat) (s : State) : Host.Outcome State Fault Refusal :=
  atLink n s fun s =>
    let l := s.link n
    if l.state ≠ 0 ∧ l.helloDue ≤ s.fc then
      (s.modLink n fun l => { l with helloDue := s.fc + (if l.state = 1 then 10 * usFc else msFc) }).keeperSend n (s.helloMsg n)
    else s

/-- HELLO_RECEIVED (R343): the far end's state is neither TEST nor FAILED. -/
def execHelloReceived (n : Nat) (k : KMsg) (s : State) : Host.Outcome State Fault Refusal :=
  atLink n s fun s =>
    let l := s.link n
    let far := (nth 0 k.data 7).toNat
    if k.ktype = 0x01 ∧ l.state = 1 ∧ l.kpr.locked = true ∧ far ≠ 8 ∧ far ≠ 7 then s.toTrain n else s

/-- STAGE_TIMEOUT (R343): TRAIN gives up the lanes that are not ready; every other stage goes to DOWN. -/
def execStageTimeout (n : Nat) (s : State) : Host.Outcome State Fault Refusal :=
  atLink n s fun s =>
    match (s.link n).stageDue with
    | some d =>
      if d ≤ s.fc then
        if (s.link n).state = 2 then
          let s1 := s.modLink n fun l => [0, 1, 2].foldl (fun l k => l.modLane k fun x => { x with giveUp := !x.ready, farGiveUp := !x.farReady }) l
          let s2 := s1.trainExit n
          if (s2.link n).state = 2 then s2.linkDown n 6 else s2
        else s.linkDown n 6
      else s
    | none => s

/-- LINK_NOT_DETECTED (R343): the link stays in DETECT. -/
def execLinkNotDetected (n : Nat) (s : State) : Host.Outcome State Fault Refusal :=
  atLink n s fun s =>
    match (s.link n).expectDue with
    | some d =>
      if d ≤ s.fc ∧ (s.link n).expect = true ∧ (s.link n).state = 1 then
        (s.modLink n fun l => { l with expectDue := none }).raise (unitId uPhy n) 0x0703 0 0 0
      else s
    | none => s

/-- To DISABLED (R343, R362). -/
def State.toDisabled (s : State) (n : Nat) : State :=
  s.modLink n fun l => { l with
    state := 0, holdoff := none, stageDue := none, expectDue := none, kdet := none, attempts := 0, farVld := false
    kpr := { l.kpr with locked := false, sets := 0, pos := false, since := 0, errs := [], rx := none, lostAt := none, tx := [], waits := [], sending := [] } }

/-- DOWN_HOLDOFF_END (R343). -/
def execDownHoldoffEnd (n : Nat) (s : State) : Host.Outcome State Fault Refusal :=
  atLink n s fun s =>
    let l := s.link n
    match l.holdoff with
    | some d =>
      if d ≤ s.fc ∧ l.state = 6 then
        if !l.en then s.toDisabled n
        else if l.attempts ≥ 3 then
          (s.modLink n fun l => { l with state := 7, holdoff := none }).raise (unitId uPhy n) 0x0702 0 0 l.reason
        else s.toDetect n
      else s
    | none => s

/-! ## Training (R345) -/

/-- A tap's step: 0 hold, 1 increment, 2 decrement of a value whose magnitude is `m`, at most `top`, with `room` for the main tap;
the new magnitude and the answer, 1 updated, 2 at minimum, 3 at maximum (log entry 1173). -/
def tapStep (op m top room : Nat) : Nat × Nat :=
  match op with
  | 1 => if m = 0 then (m, 3) else (m - 1, 1)
  | 2 => if m ≥ top ∨ room = 0 then (m, 2) else (m + 1, 1)
  | _ => (m, 0)

/-- What a TRAIN_REQ asks of a lane's transmitter, applied: the lane and byte 1 of the answer (R345). The main tap is what the
other two leave, so a step of its own finds it at its limit unless theirs have moved it. -/
def Lane.trainStep (x : Lane) (b : Byte) : Lane × Byte :=
  if x.ovr then (x, 0)
  else
    let p := (b.extractLsb' 6 2).toNat
    if p ≠ 0 then (x.taps (preset p).1 (preset p).2, 0b010101)
    else
      let a := tapStep (b.extractLsb' 0 2).toNat x.pre.toNat 12 (x.main.toNat - 32)
      let room := 64 - a.1 - x.post.toNat - 32
      let c := tapStep (b.extractLsb' 4 2).toNat x.post.toNat 20 room
      let y := x.taps (BitVec.ofNat 4 a.1) (BitVec.ofNat 5 c.1)
      let m := match (b.extractLsb' 2 2).toNat with
        | 1 => if y.main = x.main then 3 else 1
        | 2 => if y.main = x.main then 2 else 1
        | _ => if y.main = x.main then 0 else 1
      (y, BitVec.ofNat 8 (a.2 + 4 * m + 16 * c.2))

/-- TRAIN_REQ_RECEIVED (R345). -/
def execTrainReqReceived (n : Nat) (k : KMsg) (s : State) : Host.Outcome State Fault Refusal :=
  atLink n s fun s =>
    let lane := (nth 0 k.data 0).toNat
    if k.ktype = 0x02 ∧ (s.link n).state = 2 ∧ lane < 3 then
      (s.keeperTake n k fun s =>
        let r := ((s.link n).lane lane).trainStep (nth 0 k.data 1)
        let b := nth 0 k.data 2
        (s.modLink n fun l => l.modLane lane fun _ => { r.1 with farReady := b.getLsbD 0, farGiveUp := b.getLsbD 1 },
          kAnswer k 0x03 [BitVec.ofNat 8 lane, r.2, 0, 0])).trainExit n
    else s

/-- TRAIN_ANS_RECEIVED (R345): the request has its answer. What the receiver makes of a limit is the PHY's own. -/
def execTrainAnsReceived (n : Nat) (k : KMsg) (s : State) : Host.Outcome State Fault Refusal :=
  atLink n s fun s => if k.ktype = 0x03 then (s.keeperDone n 0x02 k.kseq).trainExit n else s

/-- TRAIN_WINDOW_END (R345): a 1 ms window of at most 2,048 errors makes the lane ready; else the receiver gives it up, or adapts
and asks for steps of its own choosing (log entry 50). The far end hears of it by TRAIN_REQ. -/
def execTrainWindowEnd (n lane errors : Nat) (giveUp : Bool) (s : State) : Host.Outcome State Fault Refusal :=
  atLink n s fun s =>
    let x := (s.link n).lane lane
    match x.winEnd with
    | some e =>
      if e ≤ s.fc ∧ (s.link n).state = 2 ∧ lane < 3 ∧ x.ready = false then
        let ok := decide (errors ≤ 2048)
        let s1 := s.modLink n fun l => l.modLane lane fun x => { x with
          ready := ok, giveUp := !ok && giveUp, winEnd := some (e + msFc)
          ctle := if ok || x.ovr then x.ctle else Config.trainCtle n lane s.fc }
        (s1.trainAsk n lane (if ok || giveUp || x.ovr then 0 else Config.trainSteps n lane s.fc)).trainExit n
      else s
    | none => s

/-! ## LOCK and CAPS -/

/-- LOCK_MSG_TIMER (R341): every 10 µs in LOCK. -/
def execLockMsgTimer (n : Nat) (s : State) : Host.Outcome State Fault Refusal :=
  atLinkTide n s fun s =>
    let l := s.link n
    if l.state = 3 ∧ l.lockDue ≤ s.fc then
      ((s.modLink n fun l => { l with lockDue := s.fc + 10 * usFc, lockTold := l.ownLock }).keeperSend n l.lockMsg).lockExit n
    else s

/-- LOCK_MSG_RECEIVED (R343): the far end's report covers every lane this end sends on. -/
def execLockMsgReceived (n : Nat) (k : KMsg) (s : State) : Host.Outcome State Fault Refusal :=
  atLinkTide n s fun s =>
    let l := s.link n
    if k.ktype = 0x04 ∧ l.state = 3 then
      let m := (nth 0 k.data 0).toNat
      (s.modLink n fun l => { l with farLock := decide (m &&& l.txMask = l.txMask) && (nth 0 k.data 1).getLsbD 0 }).lockExit n
    else s

/-- The pairs of roles that go together (R373). -/
def rolesOk (a b : Nat) : Bool := (a, b) ∈ [(1, 1), (2, 3), (3, 2), (4, 5), (5, 4)]

/-- The result that answers a CAPS (R348, R373). -/
def State.capsResult (s : State) (n : Nat) (d : List Byte) : Nat :=
  let l := s.link n
  let id := leAt d 0 4
  if id / 2 ^ 16 % 16 ≠ 1 ∨ id / 2 ^ 12 % 16 ≠ 2 then 1
  else if leAt d 8 2 ≠ s.img.act.pod then 2
  else if l.expVld ∧ (leAt d 4 2 % 4096 ≠ l.expNode.toNat ∨ nth 0 d 6 ≠ l.expLink) then 3
  else if nth 0 d 13 ≠ 1 ∨ nth 0 d 16 ≠ 64 ∨ (nth 0 d 14).toNat < 66 ∨ (nth 0 d 15).toNat < 4 ∨
      rolesOk (s.linkRec n).role (nth 0 d 7).toNat = false then 4
  else 0

/-- A result other than 0, sent or received (R348). -/
def State.capsBad (s : State) (n res : Nat) (sent : Bool) : State :=
  let s1 := s.linkDown n (if res = 3 then 8 else 7)
  if res = 3 ∧ sent = true then s1.raise (unitId uPhy n) 0x0705 0 0 0 else s1

/-- CAPS_RECEIVED (R348, R362). -/
def execCapsReceived (n : Nat) (k : KMsg) (s : State) : Host.Outcome State Fault Refusal :=
  atLink n s fun s =>
    let d := k.data
    if k.ktype = 0x05 ∧ 3 ≤ (s.link n).state ∧ (s.link n).state ≤ 5 then
      let res := s.capsResult n d
      (s.keeperTake n k fun s =>
        let s1 := s.modLink n fun l => { l with
          farVld := true, farLink := nth 0 d 6, farNode := BitVec.ofNat 12 (leAt d 4 2), farRole := nth 0 d 7
          capsSent := l.capsSent || res == 0
          ll := { l.ll with farT := (nth 0 d 14).toNat, farC := (nth 0 d 15).toNat, farCirc := (nth 0 d 17).getLsbD 0 } }
        (if res = 0 then s1 else s1.capsBad n res true, kAnswer k 0x06 [BitVec.ofNat 8 res, 0, 0, 0])).capsExit n
    else s

/-- CAPS_ACK_RECEIVED (R348). -/
def execCapsAckReceived (n : Nat) (k : KMsg) (s : State) : Host.Outcome State Fault Refusal :=
  atLink n s fun s =>
    if k.ktype = 0x06 ∧ (s.link n).state = 4 ∧ ((s.link n).kpr.asked 0x05 k.kseq).isSome = true then
      let s1 := s.keeperDone n 0x05 k.kseq
      let res := (nth 0 k.data 0).toNat
      if res = 0 then (s1.modLink n fun l => { l with capsRcvd := true }).capsExit n else s1.capsBad n res false
    else s

/-! ## LINK registers (R354 to R359) -/

/-- The page of a register message's offset: 0x400 + n for link n (R598). -/
def regPage (m : CMsg) : Nat := leAt m.data 0 16 / 2 ^ 113 % 2 ^ 12

/-- A write of a LINK register: DENIED to windows other than 0 (R417), else performed by `f`. A message that is no write of the
register is another command's. -/
def linkWrite (n ofs : Nat) (m : CMsg) (s : State) (f : State → State × Nat) : State :=
  let t := linkTile s.build n
  if !(isKind m 0xA && regOfs m == ofs && regPage m == 0x400 + n) then s
  else if regWin m ≠ 0 then s.regAns t m rDenied 0
  else
    let r := f s
    r.1.regAns t m r.2 0

/-- A non-zero LOOP takes the link through DOWN to TEST (R352). -/
def State.toTest (s : State) (n loop : Nat) : State :=
  let lanes := (s.link n).mask (·.ready)
  let s1 := (s.linkDown n 9).modLink n fun l => { l with state := 8, loop := loop, holdoff := none }
  if loop = 3 then s1.keeperAsk n 0x0D [1, BitVec.ofNat 8 lanes, 0, 0] else s1

/-- Whether a far-end loop may be asked for: the link is in TRAIN or later with lanes ready (R352). -/
def Link.loopOk (l : Link) : Bool :=
  (l.state == 2 || l.state == 3 || l.state == 4 || l.state == 5 || (l.state == 8 && l.kpr.locked)) && (List.range 3).any fun k => (l.lane k).ready

/-- What a write of LINK_CTL does besides setting its fields (R343, R347, R352, R354, R570). -/
def State.linkCtlThen (s : State) (n : Nat) (old : Link) (w : Word) : State :=
  let en := w.getLsbD 31
  let loop := (w.extractLsb' 26 2).toNat
  if loop ≠ 0 ∧ loop ≠ old.loop then s.toTest n loop
  else if loop = 0 ∧ old.loop ≠ 0 ∧ old.state = 8 then
    let s1 := s.linkDown n 9
    if old.loop = 3 then s1.keeperAsk n 0x0D [0, BitVec.ofNat 8 (old.mask (·.ready)), 0, 0] else s1
  else if !en && old.en then
    if 2 ≤ old.state ∧ old.state ≤ 5 ∨ old.state = 8 then s.linkDown n 1
    else (s.modLink n fun l => { l with reason := 1 }).toDisabled n
  else if w.getLsbD 29 && en then
    if old.state = 6 then s.modLink n fun l => { l with reason := 2 }
    else (if old.state = 7 then s.modLink n fun l => { l with attempts := 0 } else s).linkDown n 2
  else if en && old.state = 0 then
    (s.modLink n fun l => { l with expectDue := some (s.fc + 100 * msFc) }).toDetect n
  else s

/-- A write of LINK_CTL (R354): a loop 3 that R352 does not allow here is refused. -/
def linkCtlWrite (n : Nat) (m : CMsg) (s : State) : State :=
  linkWrite n 0x000 m s fun s =>
    let w := regData m
    let old := s.link n
    let loop := (w.extractLsb' 26 2).toNat
    if loop = 3 ∧ old.loop ≠ 3 ∧ old.loopOk = false then (s, rError)
    else
      ((s.modLink n fun l => { l with
        en := w.getLsbD 31, expect := w.getLsbD 30, spareEn := w.getLsbD 28, loop := loop, preset := (w.extractLsb' 24 2).toNat
        expVld := w.getLsbD 20, expNode := w.extractLsb' 8 12, expLink := w.extractLsb' 0 8 }).linkCtlThen n old w, rOk)

/-- LINK_ENABLE (R343, R354): a write that sets EN. -/
def execLinkEnable (n : Nat) (m : CMsg) (s : State) : Host.Outcome State Fault Refusal :=
  atLinkFab n s fun s => if (regData m).getLsbD 31 && !(s.link n).en then linkCtlWrite n m s else s

/-- LINK_DISABLE (R347, R354): a write that clears EN. -/
def execLinkDisable (n : Nat) (m : CMsg) (s : State) : Host.Outcome State Fault Refusal :=
  atLinkFab n s fun s => if !(regData m).getLsbD 31 && (s.link n).en then linkCtlWrite n m s else s

/-- LINK_RETRAIN (R347, R354): a write of 1 to RETRAIN. -/
def execLinkRetrain (n : Nat) (m : CMsg) (s : State) : Host.Outcome State Fault Refusal :=
  atLinkFab n s fun s => if (regData m).getLsbD 29 then linkCtlWrite n m s else s

/-- LINK_LOOP_WRITE (R352, R354): a write that changes LOOP. -/
def execLinkLoopWrite (n : Nat) (m : CMsg) (s : State) : Host.Outcome State Fault Refusal :=
  atLinkFab n s fun s => if ((regData m).extractLsb' 26 2).toNat ≠ (s.link n).loop then linkCtlWrite n m s else s

/-- A write of LINK_LANE_n (R356): taps that break R345 are refused; the codes wait for the next TRAIN. -/
def linkLaneWrite (n lane : Nat) (m : CMsg) (s : State) : State :=
  linkWrite n (0x008 + 4 * lane) m s fun s =>
    let w := regData m
    let pre := w.extractLsb' 12 4
    let post := w.extractLsb' 7 5
    if w.getLsbD 26 && decide (pre.toNat > 12 ∨ post.toNat > 20) then (s, rError)
    else (s.modLink n fun l => l.modLane lane fun x => { x with ovr := w.getLsbD 26, next := some (w.extractLsb' 21 5, pre, post) }, rOk)

/-- LINK_LANE_WRITE (R356). -/
def execLinkLaneWrite (n lane : Nat) (m : CMsg) (s : State) : Host.Outcome State Fault Refusal :=
  atLinkFab n s fun s => if lane < 3 then linkLaneWrite n lane m s else s

/-- A write of LINK_PRBS_CTL (R359). -/
def linkPrbsWrite (n : Nat) (m : CMsg) (s : State) : State :=
  linkWrite n 0x030 m s fun s =>
    let w := regData m
    if (s.link n).state ≠ 8 then (s, rBusy)
    else if w.extractLsb' 30 2 = 3 then (s, rError)
    else
      let chk := w.extractLsb' 4 3
      (s.modLink n fun l => { ((List.range 3).foldl (fun l k => l.modLane k fun x =>
          if chk.getLsbD k && l.chkEn.getLsbD k then x else { x with hist := [], run := 0, plock := false, errs := [] }) l) with
        pat := (w.extractLsb' 30 2).toNat, gen := w.extractLsb' 8 3, chkEn := chk }, rOk)

/-- LINK_PRBS_CTL_WRITE (R359). -/
def execLinkPrbsCtlWrite (n : Nat) (m : CMsg) (s : State) : Host.Outcome State Fault Refusal :=
  atLinkFab n s fun s => linkPrbsWrite n m s

/-! ## Tests (R352, R353) -/

/-- A TEST_REQ of an action (R341). -/
def isTest (k : KMsg) (action : Byte) : Bool := k.ktype == 0x0D && nth 0 k.data 0 == action

/-- TEST_ACK to a request (R341). -/
def testAck (k : KMsg) (res : Byte) : KMsg := kAnswer k 0x0E [res, 0, 0, 0]

/-- TEST_REQ_STOP (R352): a far-end loop or a pattern ends and the link goes through DOWN. -/
def execTestReqStop (n : Nat) (k : KMsg) (s : State) : Host.Outcome State Fault Refusal :=
  atLink n s fun s =>
    if isTest k 0 then
      s.keeperTake n k fun s => (if (s.link n).state = 8 ∧ (s.link n).loop = 0 then s.linkDown n 9 else s, testAck k 0)
    else s

/-- TEST_REQ_LOOP (R352): refused where this end is not enabled. -/
def execTestReqLoop (n : Nat) (k : KMsg) (s : State) : Host.Outcome State Fault Refusal :=
  atLink n s fun s =>
    if isTest k 1 then
      s.keeperTake n k fun s =>
        if !(s.link n).en then (s, testAck k 1)
        else ((s.linkDown n 9).modLink n fun l => { l with state := 8, holdoff := none, looping := true }, testAck k 0)
    else s

/-- TEST_REQ_PATTERN (R353): generators are used outside TRAIN only in TEST. -/
def execTestReqPattern (n : Nat) (k : KMsg) (s : State) : Host.Outcome State Fault Refusal :=
  atLink n s fun s =>
    if isTest k 2 then
      s.keeperTake n k fun s =>
        let lanes := nth 0 k.data 1
        let pat := (nth 0 k.data 2).toNat
        if (s.link n).state ≠ 8 ∨ pat > 2 then (s, testAck k 1)
        else (s.modLink n fun l => (List.range 3).foldl (fun l i => l.modLane i fun x => { x with sends := if lanes.getLsbD i then some pat else x.sends }) l,
          testAck k 0)
    else s

/-- TEST_ACK_RECEIVED (R352): a refusal leaves this end in TEST with no loop in force. -/
def execTestAckReceived (n : Nat) (k : KMsg) (s : State) : Host.Outcome State Fault Refusal :=
  atLink n s fun s =>
    if k.ktype ≠ 0x0E then s
    else
      match (s.link n).kpr.asked 0x0D k.kseq with
      | none => s
      | some q =>
        let ok := nth 0 k.data 0 == 0
        (s.keeperDone n 0x0D k.kseq).modLink n fun l =>
          { l with farLoop := if nth 0 q.data 0 = 1 then ok && l.state == 8 && l.loop == 3 else if nth 0 q.data 0 = 0 then false else l.farLoop }

/-- PATTERN_CHECKER_RECEIVE (R353): bits have come on a lane in TEST. The looping side of a far-end loop sends them back on the same
lane (R352), and in a near-end loop the receiver does not hear the pins. -/
def execPatternCheckerReceive (n lane : Nat) (bs : List Bool) (s : State) : Host.Outcome State Fault Refusal :=
  atLink n s fun s =>
    let l := s.link n
    if l.state = 8 ∧ lane < 3 ∧ l.nearLoop = false then
      (if l.looping then s.emit (.levels n lane (levelsOf bs)) else s).checkBits n lane bs
    else s

end Sys2Proof.Machine
end

