-- ==== Sys2Proof/Machine/LinkLayer.lean ====
section
/-! DEFINITION. The link layer: frames out and in, credits, go-back-N retry, capture, circuits over links, the loss of a link with
egress rewriting and retransmission, and the loss of a chip (R363 to R383, R494, R497). -/

namespace Sys2Proof.Machine

/-- Frame types (R363). -/
def fTdata : BitVec 4 := 1
def fCdata : BitVec 4 := 2
def fCirc : BitVec 4 := 3
def fCtrl : BitVec 4 := 4

/-- The tile of link `n`, and the port by which its ring port stands there (R20). -/
def State.ringAt (s : State) (n : Nat) : Nat × Nat := (linkTile s.build n, 5 + linkPort s.build n)

/-! ## Sending -/

/-- The acknowledgement this end sends (R370, R378): what it expects, or the first frame of a relayed packet that is not yet
acknowledged beyond. -/
def LinkLayer.ackSeq (l : LinkLayer) : BitVec 10 := ((l.relays.head?).map (·.1)).getD l.expected

/-- The credit return that rides in the next frame: a VC that owes blocks, at most 1,023 of them (R363, R367). -/
def LinkLayer.creditOut (l : LinkLayer) : BitVec 3 × Nat :=
  match l.owed.find? fun e => decide (0 < e.2) with
  | some (v, k) => (BitVec.ofNat 3 v, min 1023 k)
  | none => (7, 0)

/-- What a frame that leaves carries besides its own fields (R363, R366), sealed with its CRC. -/
def State.dress (s : State) (l : LinkLayer) (f : Frame) (nak : Bool) : Frame :=
  let c := l.creditOut
  frameSeal { f with hdr := { f.hdr with
    ackseq := l.ackSeq, nak := BitVec.ofBool nak, crvc := c.1, crcnt := BitVec.ofNat 10 c.2
    stide := s.stamp, sph := BitVec.ofNat 2 s.tide.phase } }

/-- The frame goes to the lanes: its acknowledgement and credit return are given, and the tap sees it (R366, R367, R513). -/
def State.frameOut (s : State) (n : Nat) (f : Frame) (nak : Bool) : State :=
  let l := (s.link n).ll
  let g := s.dress l f nak
  let c := l.creditOut
  let s1 := s.modLl n fun l =>
    let owed := if c.2 = 0 then l.owed else l.owed.set c.1.toNat (Tab.get 0 l.owed c.1.toNat - c.2)
    { l with
      owed := owed, ackOwed := false, oweSince := if owed.any fun e => decide (0 < e.2) then some s.ft else none, lastSent := s.ft
      nakDue := l.nakDue && !nak, nakUntil := if nak then some (s.ft + l.rto.toNat) else l.nakUntil
      nakSent := if nak then inc8 l.nakSent else l.nakSent }
  ((s1.modLink n fun l => { l with txf := l.txf ++ [g] }).emit (.frame n g)).mirror (mirTx n) (unitId uLink n) 0 (fhdrBytes g.hdr ++ g.data)

/-- A CTRL frame (R363): its FSEQ is the next its sender will assign. -/
def LinkLayer.ctrl (l : LinkLayer) : Frame := { hdr := { (default : FHdr) with ftype := fCtrl, fseq := l.nextSeq }, data := [] }

/-- Whether the packet or message whose bytes these are is detoured over link `n` (R378). -/
def State.detoured (s : State) (n vc : Nat) (bs : List Byte) : Bool :=
  let role := (s.linkRec n).role
  let dnode := if vc < 4 then (thdrOfBytes bs).dnode.toNat else (chdrOfBytes bs).dnode.toNat
  (role == 1 || role == 3) && dnode != s.farNode n

/-- The bytes a packet or message has in all (R365). -/
def TxItem.total (x : TxItem) : Nat := if x.vc < 4 then 64 + (thdrOfBytes x.bytes).plen.toNat else x.bytes.length

/-- The bytes of the next frame of an item that is ready: all 512, or the end of it (R365). -/
def TxItem.ready (x : TxItem) : Option Nat :=
  let have_ := x.bytes.length - x.framed
  if x.vc ≥ 4 then (if x.whole then some have_ else none)
  else if have_ ≥ 512 then some (min 512 (x.total - x.framed))
  else if x.whole ∧ 0 < have_ then some have_ else none

/-- The item of a VC whose next frame is ready and has credit, with its bytes and blocks (R367, R369, R372). -/
def LinkLayer.next (l : LinkLayer) (vc : Nat) : Option (TxItem × Nat × Nat) :=
  match l.tx.find? fun x => x.vc == vc with
  | none => none
  | some x =>
    match x.ready with
    | none => none
    | some k =>
      let nb := ceilDiv k 32
      if decide (nb ≤ Tab.get 0 l.credit vc) && decide (l.replay.length < 64) then some (x, k, nb) else none

/-- A new TDATA or CDATA frame is framed, numbered and sent (R365, R367, R369). -/
def State.sendNew (s : State) (n : Nat) (x : TxItem) (k nb : Nat) : State :=
  let l := (s.link n).ll
  let last := decide (x.framed + k ≥ x.total)
  let f : Frame :=
    { hdr := { (default : FHdr) with
        det := BitVec.ofBool (s.detoured n x.vc x.bytes), fseq := l.nextSeq, nblk := BitVec.ofNat 5 nb, last := BitVec.ofBool last
        first := BitVec.ofBool (x.framed == 0), vc := if x.vc < 4 then BitVec.ofNat 2 x.vc else BitVec.ofNat 2 (x.vc - 4)
        ftype := if x.vc < 4 then fTdata else fCdata }
      data := slice ((x.bytes.drop x.framed).take k) 0 (32 * nb) }
  let a := s.ringAt n
  let s1 := (s.holdCredit a.1 a.2).modLl n fun l => { l with
    nextSeq := l.nextSeq + 1, replay := l.replay ++ [{ frame := f, item := x, at_ := s.ft }]
    credit := l.credit.set x.vc (Tab.get 0 l.credit x.vc - nb)
    tx := if last then l.tx.erase x else replaceFirst (· == x) { x with framed := x.framed + k } l.tx
    rr := if x.vc < 4 then x.vc else l.rr }
  s1.frameOut n f false

/-- The next replay frame goes (R371, R372). -/
def State.sendReplay (s : State) (n : Nat) : State :=
  let l := (s.link n).ll
  let i := l.replay.length - l.toReplay
  match l.replay[i]? with
  | some r =>
    (s.modLl n fun l => { l with toReplay := l.toReplay - 1, replay := l.replay.set i { r with at_ := s.ft } }).frameOut n r.frame false
  | none => s.modLl n fun l => { l with toReplay := 0 }

/-- A CIRC frame (R363, R382). -/
def State.sendCirc (s : State) (n : Nat) (c : CircFlit) (cs : List CircFlit) : State :=
  let f : Frame :=
    { hdr := { (default : FHdr) with ftype := fCirc, vc := c.vc, nblk := 4, cid := BitVec.ofNat 12 c.cid }, data := slice c.data 0 128 }
  (s.modLl n fun l => { l with circTx := cs }).frameOut n f false

/-- A CTRL frame is due (R372, row 6). -/
def LinkLayer.ctrlDue (l : LinkLayer) (ft : Nat) : Bool :=
  (match l.oweSince with | some a => decide (a + 64 ≤ ft) | none => false) || (!l.replay.isEmpty && decide (l.lastSent + 64 ≤ ft))

/-- Cross-chip circuits are suspended on link `n` (R383). -/
def State.circOff (s : State) (n : Nat) : Bool := s.tide.oob || s.circSuspended || !(s.link n).en

/-- The frame that the link sends next, if any (R372). -/
def State.sendOne (s : State) (n : Nat) : State :=
  let l := (s.link n).ll
  match (if s.circOff n then [] else l.circTx) with
  | c :: cs => s.sendCirc n c cs
  | [] =>
    if l.nakDue then s.frameOut n l.ctrl true
    else if 0 < l.toReplay then s.sendReplay n
    else
      match ([5, 4] ++ (List.range 4).map fun i => (l.rr + 1 + i) % 4).findSome? l.next with
      | some (x, k, nb) => s.sendNew n x k nb
      | none => if l.ctrlDue s.ft then s.frameOut n l.ctrl false else s

/-- The link layer runs: the link is ACTIVE and its loss is not being declared (R343, R376). -/
def State.llUp (s : State) (n : Nat) : Bool := (s.link n).state == 5 && !(s.link n).ll.lossDue

/-- The link layer may hand a frame to the lanes: it runs, and the transmit crossing is not shut and has one of its eight places free
(R31, R35). -/
def State.maySend (s : State) (n : Nat) : Bool := s.llUp n && !s.shut (.linkTx n) && decide ((s.link n).txf.length < 8)

/-- FRAME_SEND (R372). -/
def execFrameSend (n : Nat) (s : State) : Host.Outcome State Fault Refusal := atLinkFab n s fun s => if s.maySend n then s.sendOne n else s

/-- ACK_IDLE_TIMEOUT (R372): a CTRL frame leaves where one is due. -/
def execAckIdleTimeout (n : Nat) (s : State) : Host.Outcome State Fault Refusal :=
  atLinkFab n s fun s =>
    let l := (s.link n).ll
    if s.maySend n && l.ctrlDue s.ft then s.frameOut n l.ctrl false else s

/-! ## Retry -/

/-- Every unacknowledged frame is to be replayed (R371): RLIM replays without progress take the link through DOWN. -/
def State.replayAll (s : State) (n : Nat) : State :=
  let l := (s.link n).ll
  if l.replay.isEmpty then s
  else
    let s1 := s.modLl n fun l => { l with toReplay := l.replay.length, replays := l.replays + 1, replayCnt := inc8 l.replayCnt }
    if l.replays + 1 ≥ l.rlim.toNat then s1.linkDown n 2 else s1

/-- A NAK is due unless one is outstanding (R370). -/
def State.nakNow (s : State) (n : Nat) : State := s.modLl n fun l => { l with nakDue := l.nakDue || l.nakUntil.isNone }

/-- A packet has been acknowledged on link `n`: no inbound acknowledgement waits for it any more (R378). -/
def State.relayed (s : State) (hdr : List Byte) : State :=
  s.allLinks.foldl (fun s m =>
    if (s.link m).ll.relays.any fun r => r.2 == hdr then
      s.modLl m fun l => { l with relays := l.relays.filter fun r => r.2 != hdr, ackOwed := true, oweSince := if l.oweSince.isSome then l.oweSince else some s.ft }
    else s) s

/-- The header bytes that identify a packet or message. -/
def itemHdr (vc : Nat) (bs : List Byte) : List Byte := bs.take (if vc < 4 then 64 else 16)

/-- ACKSEQ passes frames (R369, R371). -/
def State.takeAck (s : State) (n : Nat) (ack : BitVec 10) : State :=
  let l := (s.link n).ll
  let oldest := l.nextSeq - BitVec.ofNat 10 l.replay.length
  let k := (ack - oldest).toNat
  if 0 < k ∧ k ≤ l.replay.length then
    let gone := l.replay.take k
    let s1 := s.modLl n fun l => { l with replay := l.replay.drop k, toReplay := min l.toReplay (l.replay.length - k), replays := 0 }
    (gone.filter fun r => r.frame.hdr.last == 1).foldl (fun s r => s.relayed (itemHdr r.item.vc r.item.bytes)) s1
  else s

/-- A credit return (R367). -/
def State.takeCredit (s : State) (n : Nat) (vc : BitVec 3) (k : BitVec 10) : State :=
  if vc.toNat < 6 then s.modLl n fun l => { l with credit := l.credit.set vc.toNat (Tab.get 0 l.credit vc.toNat + k.toNat) } else s

/-- ACKSEQ, credit and NAK of a header are taken (R370). -/
def State.takeFields (s : State) (n : Nat) (h : FHdr) : State :=
  let s1 := (s.takeAck n h.ackseq).takeCredit n h.crvc h.crcnt
  if h.nak = 1 then s1.replayAll n else s1

/-- REPLAY_TIMEOUT (R371): the oldest unacknowledged frame has waited RTO fc. -/
def execReplayTimeout (n : Nat) (s : State) : Host.Outcome State Fault Refusal :=
  atLinkFab n s fun s =>
    let l := (s.link n).ll
    match l.replay.head? with
    | some r => if s.llUp n ∧ r.at_ + l.rto.toNat ≤ s.ft then s.replayAll n else s
    | none => s

/-- NAK_TIMEOUT (R370): the NAK is no longer outstanding. -/
def execNakTimeout (n : Nat) (s : State) : Host.Outcome State Fault Refusal :=
  atLinkFab n s fun s =>
    match (s.link n).ll.nakUntil with
    | some d => if d ≤ s.ft then s.modLl n fun l => { l with nakUntil := none } else s
    | none => s

/-! ## Receiving -/

/-- Blocks have left the receive buffer of a VC, and their credit is owed (R367). -/
def LinkLayer.owe (l : LinkLayer) (vc k ft : Nat) : LinkLayer :=
  if k = 0 then l
  else { l with owed := l.owed.set vc (Tab.get 0 l.owed vc + k), oweSince := if l.oweSince.isSome then l.oweSince else some ft }

/-- The receive buffer of one T-plane VC gives its flits to the router while the input's buffer has room (R70, R367). -/
def State.pumpT (s : State) (n vc : Nat) : State :=
  let a := s.ringAt n
  (Tab.get [] (s.link n).ll.rxq vc).foldl (fun s e =>
    let first := (Tab.get [] (s.link n).ll.rxq vc).head?
    if first == some e && decide (((s.stop a.1).rt.buf a.2 vc).load < maxFlits s.build) then
      ((s.modLl n fun l => { l with rxq := l.rxq.set vc ((Tab.get [] l.rxq vc).drop 1) }).takeFlit a.1 a.2 e.1 .ok).modLl n fun l => l.owe vc e.2 s.ft
    else s) s

/-- The receive buffer of one C-plane VC gives its messages to the router, one at a time (R272, R367). -/
def State.pumpC (s : State) (n vc : Nat) : State :=
  let a := s.ringAt n
  match Tab.get [] (s.link n).ll.rxc vc with
  | [] => s
  | m :: ms =>
    if ((s.stop a.1).c.buf (2 * a.2 + (vc - 4))).flits.isEmpty then
      (m.1.foldl (fun s f => s.cTake a.1 a.2 f .ok) (s.modLl n fun l => { l with rxc := l.rxc.set vc ms })).modLl n fun l => l.owe vc m.2 s.ft
    else s

/-- The receive buffers of link `n` go on into the router; a held row takes nothing new (R16). -/
def State.linkPump (s : State) (n : Nat) : State :=
  let t := linkTile s.build n
  if s.rowHeld t ∨ (s.stop t).ro.routerFenced = true then s
  else [4, 5].foldl (fun s vc => s.pumpC n vc) ([0, 1, 2, 3].foldl (fun s vc => s.pumpT n vc) s)

/-- The receive buffers of every link at a tile go on. -/
def State.tilePump (s : State) (t : Nat) : State := (linksOf s.build t).foldl (fun s n => s.linkPump n) s

/-- The flits of a TDATA frame, each with the blocks it takes (R67, R365). -/
def frameFlits (b : Build) (f : Frame) : List (Flit × Nat) :=
  let w := flitW b
  let k := ceilDiv (32 * f.hdr.nblk.toNat) w
  (List.range k).map fun i =>
    ({ vc := f.hdr.vc, head := f.hdr.first == 1 && i == 0, tail := f.hdr.last == 1 && i + 1 == k, kill := false
       data := slice f.data (i * w) w },
     if i + 1 = k then f.hdr.nblk.toNat - i * (w / 32) else w / 32)

/-- Whether a relay must drop a detoured packet (R378): its entry for the destination names a link whose far node is another. -/
def State.relayMiss (s : State) (t dnode : Nat) : Bool :=
  if dnode = s.node then false
  else
    let e := Tab.get (0 : Word) (s.stop t).ro.egress dnode
    e.getLsbD 31 && s.farNode (if e.getLsbD 29 then (e.extractLsb' 8 8).toNat else (e.extractLsb' 0 8).toNat) != dnode

/-- The first frame of a DET packet (R378): dropped as a route table miss, or its acknowledgement is held until it is
acknowledged beyond. -/
def State.detFirst (s : State) (n vc : Nat) (fseq : BitVec 10) (hdr : List Byte) (dnode mseq : Nat) : State × Bool :=
  let t := linkTile s.build n
  if s.relayMiss t dnode then (s.raiseAt t uT 0x0307 0 mseq, false)
  else if dnode = s.node then (s, true)
  else (s.modLl n fun l => { l with relays := l.relays ++ [(fseq, itemHdr vc hdr)] }, true)

/-- A TDATA frame that was expected (R365, R367, R370): a packet that its sender abandoned ends with KILL as the next begins. -/
def State.takeTdata (s : State) (n : Nat) (f : Frame) : State :=
  let vc := f.hdr.vc.toNat
  let h := thdrOfBytes f.data
  let l := (s.link n).ll
  let fl := frameFlits s.build f
  let kills := if f.hdr.first = 1 ∧ l.rxOpen.contains vc then [(killFlit s.build f.hdr.vc, 0)] else []
  let r := if f.hdr.first = 1 ∧ f.hdr.det = 1 then s.detFirst n vc f.hdr.fseq f.data h.dnode.toNat h.mseq.toNat
    else (s, !(f.hdr.first == 0 && (l.rxDisc.contains vc || !l.rxOpen.contains vc)))
  let s1 := r.1.modLl n fun l => { l with
    rxOpen := if r.2 && f.hdr.last == 0 then (l.rxOpen.filter (· != vc)) ++ [vc] else l.rxOpen.filter (· != vc)
    rxDisc := if !r.2 && f.hdr.last == 0 then (l.rxDisc.filter (· != vc)) ++ [vc] else l.rxDisc.filter (· != vc)
    rxq := l.rxq.set vc (Tab.get [] l.rxq vc ++ kills ++ (if r.2 then fl else [])) }
  (if r.2 then s1 else s1.modLl n fun l => l.owe vc f.hdr.nblk.toNat s.ft).linkPump n

/-- A CDATA frame that was expected: one whole message (R365, R370). -/
def State.takeCdata (s : State) (n : Nat) (f : Frame) : State :=
  let vc := 4 + f.hdr.vc.toNat % 2
  let h := chdrOfBytes f.data
  let k := 1 + ceilDiv h.plen.toNat 16
  let fl : List CFlit := (List.range k).map fun i =>
    { vc := BitVec.ofNat 1 (vc - 4), head := i == 0, tail := i + 1 == k, data := slice f.data (16 * i) 16 }
  let r := if f.hdr.det = 1 then s.detFirst n vc f.hdr.fseq f.data h.dnode.toNat h.mseq.toNat else (s, true)
  (if r.2 then r.1.modLl n fun l => { l with rxc := l.rxc.set vc (Tab.get [] l.rxc vc ++ [(fl, f.hdr.nblk.toNat)]) }
   else r.1.modLl n fun l => l.owe vc f.hdr.nblk.toNat s.ft).linkPump n

/-- A data frame in or out of sequence (R370). -/
def State.takeSeq (s : State) (n : Nat) (f : Frame) (take : State → State) : State :=
  if f.hdr.fseq = (s.link n).ll.expected then
    take (s.modLl n fun l => { l with
      expected := l.expected + 1, nakUntil := none, nakDue := false, ackOwed := true, oweSince := if l.oweSince.isSome then l.oweSince else some s.ft })
  else s.nakNow n

/-- A CIRC frame (R383): its flit waits for the fc of its send time plus the circuit offset; `delta` moves a captured one (R499). -/
def State.takeCircFrame (s : State) (n : Nat) (f : Frame) (delta : Nat) : State :=
  let a := s.ringAt n
  let cid := f.hdr.cid.toNat
  let ofs := (s.linkRec n).circ
  let due : Int := extendStamp s.now f.hdr.stide * 4 + f.hdr.sph.toNat + ofs + delta
  let wait := due - (s.nowFc.toNat : Int)
  let first := f.hdr.vc == 1 || f.hdr.vc == 3
  let r := (s.stop a.1).rt
  if s.circOff n || r.ceasedPorts.contains a.2 then s
  else if r.cdisc.contains cid && !first then s
  else
    let s1 := s.modRt a.1 fun r => { r with cdisc := r.cdisc.filter (· != cid) }
    if wait < 0 ∨ (s.link n).ll.circRx.length ≥ 64 then s1.dropLinkCirc n cid
    else s1.modLl n fun l => { l with
      circRx := l.circRx ++ [{ cid := cid, vc := f.hdr.vc, data := slice f.data 0 128, due := s.ft + wait.toNat }] }

/-- A frame that fails its CRC or is of a reserved type (R370); a circuit flit among them counts as dropped (R383). -/
def State.badFrame (s : State) (n : Nat) : State := (s.modLl n fun l => { l with crcErr := inc8 l.crcErr }).nakNow n

/-- A frame passes its CRC and is of a type that is not reserved (R364, R370). -/
def frameOk (f : Frame) : Bool := f.hdr.crc == frameCrc f && decide (1 ≤ f.hdr.ftype.toNat ∧ f.hdr.ftype.toNat ≤ 4)

/-- The receiver takes a frame (R370); one that the frame's own NAK has taken out of ACTIVE takes no more of it. -/
def State.takeFrame (s : State) (n : Nat) (f : Frame) (delta : Nat) : State :=
  if !frameOk f then
    let s1 := s.badFrame n
    if f.hdr.ftype = fCirc then s1.dropLinkCirc n f.hdr.cid.toNat else s1
  else
    let s1 := s.takeFields n f.hdr
    if (s.link n).state = 5 ∧ (s1.link n).state ≠ 5 then s1
    else
      match f.hdr.ftype.toNat with
      | 1 => s1.takeSeq n f fun s => s.takeTdata n f
      | 2 => s1.takeSeq n f fun s => s.takeCdata n f
      | 3 => s1.takeCircFrame n f delta
      | _ =>
        let k := (f.hdr.fseq - (s1.link n).ll.expected).toNat
        if 1 ≤ k ∧ k ≤ 64 then s1.nakNow n else s1

/-! ## Capture (R494) -/

/-- Link `n`'s capture. -/
def State.capture (s : State) (n : Nat) : Capture := Tab.get default s.hrv.captures n

/-- A frame that arrives after the freeze edge is captured, late or in flight by its send time; a CTRL leaves its fields. -/
def State.captureFrame (s : State) (n : Nat) (f : Frame) : State :=
  let c := s.capture n
  let put (c : Capture) : State := s.modHrv fun h => { h with captures := h.captures.set n c }
  if !frameOk f then s
  else if f.hdr.ftype = fCtrl then
    put { c with ack := some f.hdr.ackseq, nak := f.hdr.nak == 1, cred := some (f.hdr.crvc, f.hdr.crcnt) }
  else if f.hdr.ftype ≠ fCirc ∧ (c.frames.any fun g => g.hdr.ftype != fCirc && g.hdr.fseq == f.hdr.fseq) = true then s
  else if c.frames.length ≥ 96 then put { c with ovf := inc8 c.ovf }
  else
    let sent := extendStamp s.now f.hdr.stide * 4 + (f.hdr.sph.toNat : Int)
    if sent < 4 * (s.hrv.th.toNat : Int) then put { c with frames := c.frames ++ [f], capt := c.capt + 1 }
    else put { c with frames := c.frames ++ [f], late := inc8 c.late }

/-- A frame of type `ty` arrives (R370, R494): taken, or captured after the freeze edge; while the crossing is shut it is lost
(R35), and where the crossing is `full` it is dropped and the overrun flag set, for the retry of R371 to recover (R31, R32). A frame of
another type is another command's, unless its header cannot be trusted. -/
def frameArrive (n : Nat) (ty : BitVec 4) (f : Frame) (full : Bool) (s : State) : Host.Outcome State Fault Refusal :=
  atLink n s fun s =>
    if (frameOk f && f.hdr.ftype != ty) || (s.link n).state != 5 || s.shut (.linkRx n) then s
    else if full then s.modLl n fun l => { l with ovrRx := true }
    else
      let s1 := s.mirror (mirRx n) (unitId uLink n) 0 (fhdrBytes f.hdr ++ f.data)
      if s.hrv.state ≥ 2 then s1.captureFrame n f
      else if (s.link n).ll.lossDue then s1
      else s1.takeFrame n f 0

/-- FRAME_TDATA_RECEIVED (R370). -/
def execFrameTdataReceived (n : Nat) (f : Frame) (full : Bool) (s : State) : Host.Outcome State Fault Refusal := frameArrive n fTdata f full s

/-- FRAME_CDATA_RECEIVED (R370). -/
def execFrameCdataReceived (n : Nat) (f : Frame) (full : Bool) (s : State) : Host.Outcome State Fault Refusal := frameArrive n fCdata f full s

/-- FRAME_CTRL_RECEIVED (R370). -/
def execFrameCtrlReceived (n : Nat) (f : Frame) (full : Bool) (s : State) : Host.Outcome State Fault Refusal := frameArrive n fCtrl f full s

/-- FRAME_CIRC_RECEIVED (R383). -/
def execFrameCircReceived (n : Nat) (f : Frame) (full : Bool) (s : State) : Host.Outcome State Fault Refusal := frameArrive n fCirc f full s

/-! ## Router cycles that make room for a link's receive buffers -/

/-- OUTPUT_CYCLE (R155). -/
def execOutputCycle (t port : Nat) (s : State) : Host.Outcome State Fault Refusal :=
  atPort t port s fun s => (s.outCycle t port).tilePump t

/-- C_MESSAGE_FORWARD (R272): a free output grants one whole message, VC1 first. -/
def execCMessageForward (t port : Nat) (s : State) : Host.Outcome State Fault Refusal :=
  atPort t port s fun s => (s.cForward t port).tilePump t

/-! ## Loss of a link (R376 to R379) -/

/-- Packets and messages that have a frame not yet acknowledged, whole (R376, R379). -/
def LinkLayer.unconfirmed (l : LinkLayer) : List TxItem :=
  (l.replay.filter fun r => r.frame.hdr.last == 1).map (·.item) ++ l.tx.filter (·.whole)

/-- What of a VC's receive buffer goes on into the router after the loss (R376): the whole packets; the rest of one whose head has gone is
discarded, and so is one that has not all come. No credit is owed for any. -/
def wholeFlits (open_ : Bool) (l : List (Flit × Nat)) : List (Flit × Nat) :=
  let body := l.dropWhile fun e => !e.1.head
  let kept := if open_ then body.take (body.length - ((body.reverse.takeWhile fun e => !e.1.head).length + 1)) else body
  kept.map fun e => (e.1, 0)

/-- The declaration (R376): the ring port dies, a packet being received ends with KILL, what was not acknowledged is kept, and
plan edges report. -/
def State.declareLost (s : State) (n : Nat) : State :=
  let a := s.ringAt n
  let s1 := s.modLl n fun l => { l with
    kept := l.kept ++ l.unconfirmed.map fun x => { x with framed := 0 }
    tx := [], replay := [], toReplay := 0, circTx := [], circRx := [], rxOpen := [], rxDisc := [], relays := []
    rxq := l.rxq.map fun e => (e.1, wholeFlits (l.rxOpen.contains e.1) e.2)
    rxc := l.rxc.map fun e => (e.1, e.2.map fun m => (m.1, 0))
    nakDue := false, nakUntil := none, oweSince := none, ackOwed := false
    lost := true, lossDue := false, rewritten := false, activeAt := none, lostAt := some s.ft }
  ((s1.deadPort a.1 a.2).collLinkLost n).linkPump n

/-- LINK_LOST (R376): the link has left ACTIVE; during a freeze the declaration waits for the thaw (R495). A bring-up that has ended CAPS waits
for it. -/
def execLinkLost (n : Nat) (s : State) : Host.Outcome State Fault Refusal :=
  atLinkFab n s fun s => if (s.link n).ll.lossDue then (s.declareLost n).capsExit n else s

/-- The link that an egress entry uses (R105). -/
def egressUse (e : Word) : Nat := if e.getLsbD 29 then (e.extractLsb' 8 8).toNat else (e.extractLsb' 0 8).toNat

/-- ACTIVE role-1 links to a chip position, and all of them, in ascending order. -/
def State.peerLinks (s : State) (pos : Nat) (active : Bool) : List Nat :=
  s.allLinks.filter fun n => (s.linkRec n).role == 1 && (s.linkRec n).far == pos && (!active || (s.link n).state == 5)

/-- The detour positions of a board peer, in order (R374, R432). -/
def State.detours (s : State) (node : Nat) : List Nat :=
  match s.boardNodes.find? fun r => r.node == node with
  | some r => (nth [] s.img.act.detours r.pos).filter fun p => p != 255
  | none => []

/-- An egress entry rewritten for the loss of its link (R377). -/
def State.rewriteEntry (s : State) (node : Nat) (e : Word) : Word :=
  let link := (e.extractLsb' 0 8).toNat
  let alt := (e.extractLsb' 8 8).toNat
  let up (n : Nat) : Bool := (s.link n).state == 5
  if !e.getLsbD 29 && e.getLsbD 30 && up alt then e ||| (0x20000000 : Word)
  else if e.getLsbD 29 && up link then e &&& ~~~(0x20000000 : Word)
  else
    match (s.detours node).find? fun p => !(s.peerLinks p true).isEmpty with
    | some p =>
      let l := nth 0 (s.peerLinks p true) 0
      match (s.peerLinks p false).find? fun m => decide (l < m) with
      | some m => (1 : BitVec 1) ++ (1 : BitVec 1) ++ (0 : BitVec 14) ++ BitVec.ofNat 8 m ++ BitVec.ofNat 8 l
      | none => (1 : BitVec 1) ++ (0 : BitVec 15) ++ (0 : BitVec 8) ++ BitVec.ofNat 8 l
    | none => e &&& ~~~(0x80000000 : Word)

/-- EGRESS_REWRITE (R377): every stop rewrites each entry whose link in use is the lost one. -/
def execEgressRewrite (n : Nat) (s : State) : Host.Outcome State Fault Refusal :=
  atLinkFab n s fun s =>
    if (s.link n).ll.lost then
      let s1 := s.tiles.foldl (fun s t =>
        let old := (s.stop t).ro.egress
        if old.any fun e => e.2.getLsbD 31 && egressUse e.2 == n then
          s.modRo t fun r => { r with egress := r.egress.map fun e => if e.2.getLsbD 31 && egressUse e.2 == n then (e.1, s.rewriteEntry e.1 e.2) else e }
        else s) s
      let s2 := s1.modLl n fun l => { l with rewritten := true }
      s2.tiles.foldl (fun s t => s.reroute t) s2
    else s

/-- The entries of a stop's template in the image in force (R432). -/
def State.imgEgress (s : State) (t : Nat) : List (Nat × Word) :=
  nth [] s.img.act.egressTmpl.2 (nth 0 s.img.act.egressTmpl.1 t)

/-- EGRESS_RESTORE (R377): after 1 ms ACTIVE, every entry whose image entry names the link takes the image's value again. -/
def execEgressRestore (n : Nat) (s : State) : Host.Outcome State Fault Refusal :=
  atLinkFab n s fun s =>
    match (s.link n).ll.activeAt with
    | some a =>
      if a + msFc ≤ s.ft then
        s.tiles.foldl (fun s t =>
          let back := (s.imgEgress t).filter fun e =>
            (e.2.getLsbD 31 && (e.2.extractLsb' 0 8).toNat == n) || (e.2.getLsbD 30 && (e.2.extractLsb' 8 8).toNat == n)
          if back.isEmpty then s else s.modRo t fun r => { r with egress := back.foldl (fun x e => x.set e.1 e.2) r.egress }) s
      else s
    | none => s

/-- A kept packet or message goes again whole from the stop of the ring port (R379). A multicast one, whose other branches have it, takes its
branch over the link again where that is alive, and is dropped and counted where the port is dead (R128, R140). -/
def State.resendKept (s : State) (n : Nat) (x : TxItem) : State :=
  let t := linkTile s.build n
  if x.vc < 4 then
    let p := pktOfBytes x.bytes
    if p.hdr.dmode ≠ 0 then
      (if s.deadOut t (s.ringAt n).2 then s.modSi t fun si => { si with brdrop := inc8 si.brdrop }
       else s.modLl n fun l => { l with tx := l.tx ++ [x] })
    else s.modLl n fun l => { l with rxq := l.rxq.set x.vc (Tab.get [] l.rxq x.vc ++ (pktFlits s.build p).map fun f => (f, 0)) }
  else s.modLl n fun l => { l with rxc := l.rxc.set x.vc (Tab.get [] l.rxc x.vc ++ [(cmsgFlits (cmsgOfBytes x.bytes), 0)]) }

/-- E2E_RETRANSMIT (R379): under the entries that R377 has rewritten. -/
def execE2eRetransmit (n : Nat) (s : State) : Host.Outcome State Fault Refusal :=
  atLinkFab n s fun s =>
    let l := (s.link n).ll
    if l.rewritten || !l.lost then
      (l.kept.foldl (fun s x => s.resendKept n x) (s.modLl n fun l => { l with kept := [] })).linkPump n
    else s

/-! ## Loss of a chip (R381) -/

/-- The links this chip has had to a node. -/
def State.linksTo (s : State) (node : Nat) : List Nat := s.allLinks.filter fun n => (s.link n).farVld && s.farNode n == node

/-- Every link to the node has been lost for BLK_NLOST.TIME (R381). -/
def State.nodeGone (s : State) (node : Nat) : Bool :=
  let l := s.linksTo node
  !l.isEmpty && l.all fun n =>
    match (s.link n).ll.lostAt with
    | some a => (s.link n).ll.lost && decide (a + s.ctrl.nlost.toNat * usFc ≤ s.ft)
    | none => false

/-- The latest loss of a link to a node. -/
def State.lostSince (s : State) (node : Nat) : Nat := (s.linksTo node).foldl (fun a n => max a ((s.link n).ll.lostAt.getD 0)) 0

/-- The loss of the node has been declared (R381): once for a loss. -/
def State.goneTold (s : State) (node : Nat) : Bool := s.ctrl.gone.contains (node, s.lostSince node)

/-- The nodes of every pan that includes a node. -/
def State.panNodes (s : State) (node : Nat) : List Nat :=
  (s.img.act.pans.filter fun p => p.nodes.contains node).foldl (fun l p => l ++ p.nodes.filter fun n => !l.contains n) []

/-- NODE_LOST (R381): its locks here are orphaned, live collectives with a member on it are reported, and TILE_LOST for the whole
node goes to every node of its pans; once for each loss. -/
def execNodeLost (node : Nat) (s : State) : Host.Outcome State Fault Refusal :=
  fabAct s fun s =>
    if s.nodeGone node && !s.goneTold node then
      let s0 := { s with ctrl := { s.ctrl with gone := s.ctrl.gone.filter (fun (e : Nat × Nat) => e.1 != node) ++ [(node, s.lostSince node)] } }
      let s1 := s.tiles.foldl (fun s t => s.orphanAt t fun l => l.node == node) s0
      (s.panNodes node).foldl (fun s n => s.cSend ctlTile (s.blockMsg ctlTile 8 n (s.ringTileOf n) (lostArg node 0x1FF) [])) (s1.collNodeLost node)
    else s

end Sys2Proof.Machine
end

