-- ==== Sys2Proof/Machine/Tiles.lean ====
section
/-! DEFINITION. The grid's own commands: row remaps, quadrant training and phase, crossing timeouts (R13 to R16, R24, R27, R28,
R34 to R37). -/

namespace Sys2Proof.Machine

/-! ## Row remaps (R16) -/

/-- A row's packets, messages and plane messages have left its buffers. -/
def State.rowDrained (s : State) (y : Nat) : Bool :=
  (s.tiles.filter fun t => tileY t == y).all fun t =>
    let st := s.stop t
    st.rt.bufs.all (fun e => e.2.pkts.isEmpty) && st.c.bufs.all (fun e => e.2.flits.isEmpty) && st.mrx.isEmpty && st.mheld.isEmpty

/-- A stop of the row under its new map: the physical stop's own state with the tables that configuration gives its logical
tile. -/
def Stop.rekey (phys logical : Stop) : Stop :=
  { phys with
    ro := { phys.ro with
      route := logical.ro.route, egress := logical.ro.egress, tree := logical.ro.tree, shadowRoute := logical.ro.shadowRoute,
      shadowTree := logical.ro.shadowTree, setActive := logical.ro.setActive, setRoute := logical.ro.setRoute }
    rt := { phys.rt with outs := logical.rt.outs }
    cu := { phys.cu with cfg := logical.cu.cfg, plans := logical.cu.plans } }

/-- What waited at the borders of a row, or in it, goes on: messages in the M-routers, requests of the row's M-ports and answers of its
slices. -/
def State.resumeRow (s : State) (y : Nat) : State :=
  let s1 := (s.tiles.filter fun t => tileY t + 1 == y || tileY t == y || tileY t == y + 1).foldl (fun s t => s.mRelease t) s
  (s.tiles.filter fun t => tileY t == y).foldl (fun s t => (slicesOf s.build t).foldl (fun s sl => s.sliceDrain sl) (s.mpPump t)) s1

/-- The path of a tile's client under the map in which logical tile `t` of row `y` is tile `f t`. -/
def movePath (f : Nat → Option Nat) : XPath → Option XPath
  | .cmd t => (f t).map .cmd
  | .msg t => (f t).map .msg
  | .dsp t => (f t).map .dsp
  | .tp t => (f t).map .tp
  | .mp t => (f t).map .mp
  | .pwr t => (f t).map .pwr
  | x => some x

/-- The row takes the map of its hold (R14, R16): every physical stop keeps its state under the logical tile it now carries; a
fenced tile that becomes the removed one is fenced no more, and its neighbours' ports live again (R469). The crossings and the PWR port
of a client go with its tile. -/
def State.takeMap (s : State) (y : Nat) (h : RowHold) : State :=
  let r := s.row y
  let left := Tab.get 0 s.flt.fenced y &&& ~~~(BitVec.ofNat 25 (2 ^ h.col))
  let new := { r with
    col := h.col, src := h.src, hold := none
    hole := if r.hole = some h.col then firstBelow (fun x => left.getLsbD x) 25 else r.hole }
  let s1 := s.setRow y new
  let gone := s.logical h.col y
  let moved (t : Nat) : Option Nat := if tileY t = y then s1.logical (s.physX (tileX t) y) y else some t
  let s2 := { s1 with
    stops := (List.range (cols s.build)).foldl (fun l x =>
      let t := tileId x y
      let old := match s.logical (s1.physX x y) y with | some u => s.stop u | none => Stop.init
      l.set t (old.rekey (s.stop t))) s1.stops
    flt := { s1.flt with fenced := s1.flt.fenced.set y left }
    xings := s1.xings.filterMap fun e => (movePath moved e.1).map fun x => (x, e.2)
    pwr := { s1.pwr with ports := ((s1.pwr.ports.filterMap fun e => (moved e.1).map fun t => (t, e.2))).foldl (fun l e => l.set e.1 e.2) [] } }
  match gone with
  | some t =>
    if (s.stop t).ro.routerFenced then
      (List.range 4).foldl (fun s p => match neighbour s.build t p with | some u => s.livePort u (facing p) | none => s) s2
    else s2
  | none => s2

/-- ROW_REMAP_DRAINED (R16): within 2 ms of the switch-over. -/
def execRowRemapDrained (y : Nat) (s : State) : Host.Outcome State Fault Refusal :=
  fabAct s fun s =>
    match (s.row y).hold with
    | some h => if s.rowDrained y && decide (s.ft < h.deadline) then (s.takeMap y h).resumeRow y else s
    | none => s

/-- ROW_REMAP_TIMEOUT (R16). -/
def execRowRemapTimeout (y : Nat) (s : State) : Host.Outcome State Fault Refusal :=
  fabAct s fun s =>
    match (s.row y).hold with
    | some h => if h.deadline ≤ s.ft then ((s.setRow y { s.row y with hold := none }).raiseBlk 1 0x0106 0 0).resumeRow y else s
    | none => s

/-! ## Quadrants (R27, R28) -/

/-- A command of the block that has effect in one phase of start-up, and touches neither the clocks nor the queue. -/
def phaseAct (k : Nat) (s : State) (f : State → State) : Host.Outcome State Fault Refusal :=
  .next (if s.start.phase = k then { f s with pending := s.pending, build := s.build, fc := s.fc, ft := s.ft, tide := s.tide } else s)

/-- QUADRANT_TRAINING (R27, R564): `bad` names the wires that could not be trained, by physical tile. -/
def execQuadrantTraining (bad : List (Nat × Nat)) (s : State) : Host.Outcome State Fault Refusal :=
  phaseAct 3 s fun s =>
    let s1 := bad.foldl (fun s w => s.raise (unitId uBlock 5) 0x0101 w.2 w.1 0) s
    { s1 with qtrainOk := bad.isEmpty, start := { s1.start with phase := 4 } }

/-- QUADRANT_PHASE_LOST (R28). -/
def execQuadrantPhaseLost (p q : Nat) (s : State) : Host.Outcome State Fault Refusal :=
  runAct s fun s => { s.raise (unitId uBlock 5) 0x0102 q p 0 with phaseLost := true }

/-! ## Crossings (R34 to R37) -/

/-- The place of a path in R31. -/
def xPlace : XPath → Nat
  | .cmd _ => 0 | .msg _ => 1 | .dsp _ => 2 | .tp _ => 3 | .mp _ => 4 | .pwr _ => 5
  | .slice _ => 6 | .linkRx _ => 7 | .linkTx _ => 8 | .control => 9 | .budget => 10
  | .sliceEv _ => 11 | .linkEv _ => 12 | .fuse => 13

/-- The unit that reports a path's timeout (R454). -/
def State.xUnit (s : State) : XPath → Nat
  | .cmd t | .msg t | .dsp t | .tp t | .mp t | .pwr t => unitId uSi (s.phys t)
  | .slice sl | .sliceEv sl => unitId uSlice sl
  | .linkRx n | .linkTx n | .linkEv n => unitId uPhy n
  | .control => unitId uBlock 6
  | .budget => unitId uBlock 2
  | .fuse => unitId uBlock 0

/-- The stop whose STOP_XSTAT shows a path's timeout, and its bit (R36). -/
def State.xBit (s : State) : XPath → Option (Nat × Nat)
  | .cmd t => some (t, 11) | .msg t => some (t, 12) | .dsp t => some (t, 13) | .tp t => some (t, 14) | .mp t => some (t, 15)
  | .pwr t => some (t, 10)
  | .slice sl | .sliceEv sl => some (sliceTile sl, 9)
  | .linkRx n | .linkTx n | .linkEv n => some (linkTile s.build n, 8)
  | .control | .budget | .fuse => none

/-- Whether the far side of a path toggles its clock, where a register shows it (R36, R329). -/
def State.setAlive (s : State) (x : XPath) (b : Bool) : State :=
  match x with
  | .cmd t | .msg t | .dsp t | .tp t | .mp t | .pwr t => s.modStop t fun st => { st with alive := b }
  | .slice sl | .sliceEv sl => s.modAttach sl fun a => { a with alive := b }
  | _ => s

/-- Whether a path can hold a transfer: the fabric writes nothing into the client crossings of a tile of kind none (R394). -/
def State.xPending (s : State) : XPath → Bool
  | .cmd t | .msg t | .dsp t | .tp t | .mp t | .pwr t => s.clientKind t != 0
  | _ => true

/-- What was pending in a path is discarded, and what it carried fails (R35, R37, R325, R601). -/
def State.xFail (s : State) : XPath → State
  | .slice sl =>
    let a := s.attach sl
    let lost (p : SlPend) : SlPend := if p.ans.isSome then p else { p with tag := 32, ans := some (false, []) }
    (s.modAttach sl fun x => { x with
      queue := [], busy := false, timeout := true
      pend := a.pend.map lost ++ a.queue.map fun m => { tag := 32, msg := m, old := none, ans := some (false, []) } }).sliceDrain sl
  | .tp t =>
    let rs := (s.stop t).si.reads
    rs.foldl (fun s r => match s.msg? t r.uid with | some m => s.readFailed t m | none => s) (s.modSi t fun si => { si with reads := [] })
  | .cmd t => s.modStop t fun st => { st with cmdq := [] }
  | .msg t => s.modStop t fun st => { st with msgq := [] }
  | .mp t => s.modStop t fun st => { st with mpq := [] }
  | .linkRx n => s.modLl n fun l => { l with toRx := true }
  | .pwr t => { s with pwr := { s.pwr with ports := s.pwr.ports.set t { (Tab.get default s.pwr.ports t) with fifo := [] } } }
  | .control => { s with ctrl := { s.ctrl with line := [], xstat := s.ctrl.xstat ||| 1 } }
  | .budget => { s with ctrl := { s.ctrl with xstat := s.ctrl.xstat ||| 4 } }
  | .sliceEv sl => s.modAttach sl fun a => { a with events := [] }
  | .dsp _ | .linkTx _ | .linkEv _ | .fuse => s

/-- Whether a path exists in the build (R12, R20, R394). -/
def State.xOk (s : State) : XPath → Bool
  | .cmd t | .msg t | .dsp t | .tp t | .pwr t => tileOk s.build t
  | .mp t => tileOk s.build t && s.build == .hfE
  | .slice sl | .sliceEv sl => decide (sl < nSlices s.build)
  | .linkRx n | .linkTx n | .linkEv n => decide (n < nLinks s.build)
  | .control | .budget | .fuse => true

/-- Whether the fabric side of a path runs: the fuse port in FUSE only, the control and budget ports whenever the block is READY, every
other while no harvest holds the fabric (R31, R491, R493). -/
def State.xRuns (s : State) : XPath → Bool
  | .fuse => s.start.phase == 1
  | .control | .budget => s.ready
  | _ => s.running

/-- A command of the crossing `x`. -/
def xAct (x : XPath) (s : State) (f : State → State) : Host.Outcome State Fault Refusal :=
  .next (if s.xOk x && s.xRuns x then { f s with pending := s.pending, build := s.build, fc := s.fc, ft := s.ft, tide := s.tide } else s)

/-- CROSSING_TIMEOUT (R34, R35): `quiet` fc without a toggle, `pend` that a transfer is pending. ALIVE reads 0 once this row has shown its
clock quiet, and 1 once CROSSING_REOPEN has shown it toggling (DESIGN CHOICE, log entry 42). -/
def execCrossingTimeout (x : XPath) (quiet : Nat) (pend : Bool) (s : State) : Host.Outcome State Fault Refusal :=
  xAct x s fun s0 =>
    let s := if 1 ≤ quiet then s0.setAlive x false else s0
    if decide (4096 ≤ quiet) && pend && s.xPending x && !s.shut x then
      let s1 := { s with xings := (s.xings.filter fun (e : XPath × Crossing) => e.1 != x) ++ [(x, ({ shut := true, cleared := false } : Crossing))] }
      let s2 := match s.xBit x with
        | some (t, b) => s1.modStop t fun st => { st with xst := st.xst ||| BitVec.ofNat 16 (2 ^ b) }
        | none => s1
      (s2.raise (s.xUnit x) 0x0103 0 0 (Config.pathCode (xPlace x))).xFail x
    else s

/-- The fault of a path has been cleared (R35). -/
def State.xCleared (s : State) (unit : Nat) : State :=
  { s with xings := s.xings.map fun (e : XPath × Crossing) => if s.xUnit e.1 == unit then (e.1, { e.2 with cleared := true }) else e }

/-- CROSSING_REOPEN (R35): `run` consecutive fc with a toggle; 64 of them, and the fault cleared, open a path that has timed out. -/
def execCrossingReopen (x : XPath) (run : Nat) (s : State) : Host.Outcome State Fault Refusal :=
  xAct x s fun s0 =>
    let s := if 1 ≤ run then s0.setAlive x true else s0
    if 64 ≤ run then { s with xings := s.xings.filter fun (e : XPath × Crossing) => !(e.1 == x && e.2.shut && e.2.cleared) } else s

end Sys2Proof.Machine
end

