-- ==== Sys2Proof/Machine/Faults.lean ====
section
/-! DEFINITION. The fault collector: reports and messages, the log, escalation and actions, the fault state, fences by write, and mesh
wire spares (R451 to R485). -/

namespace Sys2Proof.Machine

/-! ## ERR_N (R465) -/

/-- ERR_N is driven low: a live class-U or class-F record, or an unread loss of one. -/
def State.errLow (s : State) : Bool := s.flt.log.any (fun e => e.2.live) || s.flt.lostUF

/-- The pin follows what has changed from `s` to `s'`. -/
def State.errEdge (s s' : State) : State := if s.errLow = s'.errLow then s' else s'.emit (.pin "ERR_N" (!s'.errLow))

/-- The fault collector is changed by `f`. -/
def State.modFlt (s : State) (f : Flt → Flt) : State := { s with flt := f s.flt }

/-! ## Actions (R462, R463, R467) -/

/-- The action configured for a fault code (R432, R459). -/
def State.actionOf (s : State) (code : Nat) : Nat :=
  match s.img.act.faults.find? fun e => e.1 == code with
  | some e => e.2
  | none => ((faultRow code).map (·.act)).getD 0

/-- ATTN leaves on every comma-locked keeper lane (R341, R467). -/
def State.attnSend (s : State) (cls code : Nat) : State :=
  let k : KMsg := kPlain 0x0C (bytesOf 2 s.node ++ [BitVec.ofNat 8 cls, BitVec.ofNat 8 (s.attn 0)] ++ bytesOf 2 code ++ [0, 0])
  s.allLinks.foldl (fun s n => if (s.link n).kpr.locked then s.keeperSend n k else s) s

/-- LINK_CTL.EN of a link is cleared (R347, R462). -/
def State.linkOff (s : State) (n : Nat) : State :=
  let old := s.link n
  let s1 := s.modLink n fun l => { l with en := false }
  if !old.en then s1
  else if 2 ≤ old.state ∧ old.state ≤ 5 ∨ old.state = 8 then s1.linkDown n 1
  else (s1.modLink n fun l => { l with reason := 1 }).toDisabled n

/-- The block is stopped (R463): DOWN with reason 1 on every link whose keeper lane is locked, and every link goes to DISABLED. -/
def State.stopNow (s : State) : State :=
  let s1 := s.allLinks.foldl (fun s n =>
    let l := s.link n
    let s1 := s.modLink n fun l => { l with en := false }
    if l.kpr.locked then s1.linkDown n 1 else (s1.modLink n fun l => { l with reason := 1 }).toDisabled n) s
  (s1.modFlt fun f => { f with stopped := true, stopDue := false }).modHrv fun h => { h with state := 3, tpend := false }

/-- Stop block (R463): a harvest is requested, and its tick stops the chip; a chip that is held stops at once (R495). -/
def State.stopBlock (s : State) : State :=
  if 2 ≤ s.hrv.state then s.stopNow else (s.hrvAuto 4).modFlt fun f => { f with stopDue := true }

/-- The tiles that an abort by a unit's fault concerns (R462, action 3). -/
def State.scopeTile (s : State) (unit : Nat) : Option Nat :=
  match unit / 4096 with
  | 7 | 8 => some (linkTile s.build (unit % 4096))
  | 9 | 10 => none
  | _ => s.logicalIdx (unit % 4096)

/-- The action of a fault takes effect (R462). -/
def State.faultAct (s : State) (unit action : Nat) : State :=
  match action with
  | 1 =>
    match s.logicalIdx (unit % 4096) with
    | some t => if unit / 4096 = 3 then s.fenceClient t else if unit / 4096 ≤ 6 then s.fenceRouter t else s
    | none => s
  | 2 => if unit / 4096 = 7 ∨ unit / 4096 = 8 then s.linkOff (unit % 4096) else s
  | 3 => match s.scopeTile unit with | some t => s.collAbortTile t | none => s
  | 4 => s.hrvAuto 4
  | 5 => s.stopBlock
  | _ => s

/-- An action is taken, with ATTN for a harvest or a stop (R462, R467). -/
def State.takeAction (s : State) (unit action cls code : Nat) : State :=
  let s1 := s.faultAct unit action
  if action = 4 ∨ action = 5 then s1.attnSend cls code else s1

/-- A class-F record acts at once (R464, R467); while the chip is held it stops it (R495). -/
def State.actF (s : State) (unit code : Nat) : State :=
  let s1 := s.modFlt fun f => { f with fclass := true }
  (if 2 ≤ s.hrv.state then s1.stopNow else s1.faultAct unit (s.actionOf code)).attnSend 2 code

/-! ## The log (R457, R458) -/

/-- A record of the log. -/
def Flt.entry (f : Flt) (e : Nat) : FltRec := Tab.get default f.log e

/-- A record is in handling (R457). -/
def FltRec.handling (r : FltRec) : Bool := r.state == 1 || r.state == 2

/-- The record in handling of a unit. -/
def Flt.handler (f : Flt) (unit : Nat) : Option Nat := firstBelow (fun e => (f.entry e).handling && (f.entry e).unit == unit) 64

/-- Of the class-C records, the oldest. -/
def Flt.oldestC (f : Flt) : Option Nat :=
  ((List.range 64).filter fun e => (f.entry e).cls == 0).foldl (fun b e =>
    match b with
    | none => some e
    | some x => if (f.entry e).age < (f.entry x).age then some e else b) none

/-- The record that a new report takes (R457). -/
def Flt.place (f : Flt) : Option Nat := (firstBelow (fun e => !(f.entry e).handling) 64).orElse fun _ => f.oldestC

/-- The record `e` becomes `r`. -/
def State.setRec (s : State) (e : Nat) (r : FltRec) : State := s.modFlt fun f => { f with log := f.log.set e r }

/-- The end of an escalation timer that starts now (R461). -/
def State.escEnd (s : State) : Nat := s.ft + s.flt.escTime * usFc

/-- A report is merged into record `e` (R458). -/
def State.mergeRec (s : State) (e : Nat) (f : FaultMsg) : State :=
  let r := s.flt.entry e
  let cls := f.cls.toNat
  let code := f.code.toNat
  let r1 := { r with count := min 65535 (r.count + 1), lastCode := code }
  if cls ≤ r.cls then s.setRec e r1
  else
    let r2 := { r1 with cls := cls, clsCode := code, action := s.actionOf code }
    if cls = 2 then (s.setRec e { r2 with state := 2, due := none }).actF r.unit code
    else s.setRec e { r2 with state := 1, due := some s.escEnd }

/-- A report takes a record of its own (R457, R461, R464), or is lost. -/
def State.newRec (s : State) (f : FaultMsg) : State :=
  let cls := f.cls.toNat
  let code := f.code.toNat
  let unit := f.unit.toNat
  match s.flt.place with
  | some e =>
    let r : FltRec :=
      { state := if cls = 1 then 1 else 2, cls := cls, action := if cls = 0 then 0 else s.actionOf code, code := code, count := 1, unit := unit
        detV := f.detV, detT := f.detT.toNat, detN := f.detN.toNat, tick := f.tick, lastCode := code, clsCode := code
        due := if cls = 1 then some s.escEnd else none, age := s.flt.ages }
    let s1 := (s.setRec e r).modFlt fun x => { x with ages := x.ages + 1 }
    if cls = 2 then s1.actF unit code else s1
  | none =>
    let s1 := s.modFlt fun x => { x with lost := inc8 x.lost, lostUF := x.lostUF || cls != 0 }
    if cls = 2 then s1.actF unit code
    else if cls = 0 then s1
    else if 2 ≤ s.hrv.state then s1.modHrv fun h => { h with deferred := h.deferred ++ [.act unit (s.actionOf code) cls code] }
    else s1.takeAction unit (s.actionOf code) cls code

/-- The collector takes one report (R456 to R459, R466, R473, R505). -/
def State.logReport (s : State) (f : FaultMsg) : State :=
  let cls := f.cls.toNat
  let code := f.code.toNat
  let unit := f.unit.toNat
  let s1 := s.trace unit 0x05 (some 2) (code * 65536 + cls * 16384) (f.detN.toNat * 2 ^ 32 + f.detV.toNat) f.detT.toNat []
  let s2 := if cls = 0 then s1 else (s1.modFlt fun x => { x with lastUF := s.ft }).rakeTrigger 3
  let s3 := if degrades code then s2.modFlt fun x => { x with
      degraded := true
      degTiles := if unit / 4096 ≤ 6 ∧ !x.degTiles.contains (unit % 4096) then x.degTiles ++ [unit % 4096] else x.degTiles } else s2
  s.errEdge (match s3.flt.handler unit with
    | some e => s3.mergeRec e f
    | none => s3.newRec f)

/-- A report that the collector makes itself. -/
def State.ownReport (s : State) (unit code detN detV : Nat) : FaultMsg :=
  { unit := BitVec.ofNat 16 unit, code := BitVec.ofNat 16 code, cls := BitVec.ofNat 2 (faultClass code), tick := s.stamp, detT := 0
    detN := BitVec.ofNat 16 detN, detV := BitVec.ofNat 32 detV }

/-! ## Reports (R455, R456) -/

/-- A unit of the build (R454). -/
def State.unitOk (s : State) (unit : Nat) : Bool :=
  let i := unit % 4096
  match unit / 4096 with
  | 7 | 8 => decide (i < nLinks s.build)
  | 9 => decide (i < nSlices s.build)
  | 10 => decide (i ≤ 7)
  | k => decide (k ≤ 6 ∧ i % 32 < pcols s.build ∧ i / 32 < 16)

/-- The rails of a unit. -/
def State.rail (s : State) (unit : Nat) : Rail := Tab.get default s.flt.rails unit

/-- The rails of a unit become `r`. -/
def State.setRail (s : State) (unit : Nat) (r : Rail) : State := s.modFlt fun f => { f with rails := f.rails.set unit r }

/-- A unit's rails after the pair has been 01 for `quiet` fc: 4 fc make it the accepted state, and the wire is whole again (R33). -/
def Rail.quieted (r : Rail) (quiet : Nat) : Rail := if 4 ≤ quiet then { r with broken := false, high := false } else r

/-- FAULT_REPORT (R33, R455, R456): after `quiet` fc of 01 the pair has been 10 for `held` fc. An accepted change from 01 to 10 is a report,
whose message is due within 10 µs. -/
def execFaultReport (unit quiet held : Nat) (s : State) : Host.Outcome State Fault Refusal :=
  runAct s fun s =>
    if s.unitOk unit then
      let r := (s.rail unit).quieted quiet
      if 4 ≤ held then
        s.setRail unit { broken := false, high := true, waits := if r.high then r.waits else r.waits ++ [s.fc + 10 * usFc] }
      else s.setRail unit r
    else s

/-- BROKEN_WIRE_DETECT (R33, R455): after `quiet` fc of 01 the pair has held 00 or 11 for `held` fc. -/
def execBrokenWireDetect (unit quiet held : Nat) (s : State) : Host.Outcome State Fault Refusal :=
  runAct s fun s =>
    if s.unitOk unit then
      let r := (s.rail unit).quieted quiet
      if 16 ≤ held ∧ r.broken = false then (s.setRail unit { r with broken := true }).logReport (s.ownReport unit 0x0104 0 0)
      else s.setRail unit r
    else s

/-- The fields of a FAULT message (R456). -/
def faultOf (m : CMsg) : FaultMsg :=
  let v := leAt m.data 0 16
  { unit := m.hdr.arg.setWidth 16, code := BitVec.ofNat 16 (v / 2 ^ 112), cls := BitVec.ofNat 2 (v / 2 ^ 110), tick := BitVec.ofNat 32 (v / 2 ^ 64)
    detT := BitVec.ofNat 16 (v / 2 ^ 48), detN := BitVec.ofNat 16 (v / 2 ^ 32), detV := BitVec.ofNat 32 v }

/-- FAULT_MESSAGE (R456): paired with the unit's oldest report, or a report by itself. -/
def execFaultMessage (m : CMsg) (s : State) : Host.Outcome State Fault Refusal :=
  runAct s fun s =>
    let f := faultOf m
    if isKind m 0xC && f.cls != 3 && s.unitOk f.unit.toNat then
      let r := s.rail f.unit.toNat
      (if r.waits.isEmpty then s else s.setRail f.unit.toNat { r with waits := r.waits.drop 1 }).logReport f
    else s

/-- FAULT_MESSAGE_TIMEOUT (R456): a report's message has not come within 10 µs. -/
def execFaultMessageTimeout (unit : Nat) (s : State) : Host.Outcome State Fault Refusal :=
  runAct s fun s =>
    let r := s.rail unit
    match r.waits with
    | d :: ds => if d ≤ s.fc then (s.setRail unit { r with waits := ds }).logReport (s.ownReport unit 0x0105 0 0) else s
    | [] => s

/-! ## Escalation (R461) -/

/-- The action of a PENDING record is taken, and it becomes ACTED. -/
def State.escalate (s : State) (e : Nat) : State :=
  let r := s.flt.entry e
  if r.state = 1 then (s.setRec e { r with state := 2, due := none }).takeAction r.unit r.action r.cls r.clsCode else s

/-- ESCALATION_EXPIRE (R461): during a freeze the timer holds, and the action waits for the thaw (R491, R495). -/
def execEscalationExpire (e : Nat) (s : State) : Host.Outcome State Fault Refusal :=
  fabAct s fun s => if dueBy (s.flt.entry e).due s.ft then s.escalate e else s

/-- ATTN_RECEIVED (R467): remote attention is logged. -/
def execAttnReceived (n : Nat) (k : KMsg) (s : State) : Host.Outcome State Fault Refusal :=
  atLink n s fun s =>
    if k.ktype = 0x0C then
      s.logReport (s.ownReport (unitId uBlock 7) 0x0901 n (leAt k.data 0 2 * 65536 + leAt k.data 4 2))
    else s

/-! ## Clearing (R466, R479) -/

/-- A record is cleared, and a crossing whose fault it was may reopen (R35). -/
def State.clearRec (s : State) (e : Nat) : State :=
  let r := s.flt.entry e
  (s.setRec e { r with state := 3, due := none }).xCleared r.unit

/-- `ACT` and `ALL` of an FLT_CLR write (R479). -/
def clrAct (w : Word) : Bool := w.getLsbD 31
def clrAll (w : Word) : Bool := w.getLsbD 30

/-- A record that a write may name (R479): in handling, and not of class F. -/
def FltRec.nameable (r : FltRec) : Bool := r.handling && r.cls != 2

/-- FLT_CLR_CLEAR (R461, R479). -/
def execFltClrClear (q : Req) (s : State) : Host.Outcome State Fault Refusal :=
  if clrAct q.wdata || clrAll q.wdata then .next s
  else ctlAct 0x4000C q s (ctlWrite q true true fun s =>
    let e := (q.wdata.extractLsb' 0 6).toNat
    if (s.flt.entry e).nameable then (s.errEdge (s.clearRec e), rOk) else (s, rError))

/-- FLT_CLR_ACT (R461, R479): during a freeze the action is taken at the thaw (R495). -/
def execFltClrAct (q : Req) (s : State) : Host.Outcome State Fault Refusal :=
  if !clrAct q.wdata || clrAll q.wdata then .next s
  else ctlAct 0x4000C q s (ctlWrite q true true fun s =>
    let e := (q.wdata.extractLsb' 0 6).toNat
    let r := s.flt.entry e
    if !r.nameable || r.state != 1 then (s, rError)
    else if 2 ≤ s.hrv.state then ((s.setRec e { r with due := none }).modHrv fun h => { h with deferred := h.deferred ++ [.escalate e] }, rOk)
    else (s.escalate e, rOk))

/-- FLT_CLR_ALL (R479). -/
def execFltClrAll (q : Req) (s : State) : Host.Outcome State Fault Refusal :=
  if !clrAll q.wdata then .next s
  else ctlAct 0x4000C q s (ctlWrite q true true fun s =>
    (s.errEdge ((List.range 64).foldl (fun s e =>
      let r := s.flt.entry e
      if r.handling && (r.cls == 0 || (r.cls == 1 && r.state == 2)) then s.clearRec e else s) s), rOk))

/-- The fault state may be left (R466). -/
def State.quiet (s : State) : Bool :=
  s.errLow && decide (s.flt.lastUF + s.flt.quietTime * msFc ≤ s.ft) && !s.flt.lostUF && !s.flt.fclass &&
  s.flt.log.all fun e => e.2.state != 1 && !(e.2.cls == 2 && e.2.handling)

/-- FAULT_STATE_EXIT (R466). -/
def execFaultStateExit (s : State) : Host.Outcome State Fault Refusal :=
  fabAct s fun s =>
    if s.quiet then
      let s1 := (List.range 64).foldl (fun s e =>
        let r := s.flt.entry e
        if r.state = 2 ∧ r.cls = 1 then s.clearRec e else s) s
      s.errEdge (s1.modFlt fun f => { f with recov := satAdd f.recov 1 })
    else s

/-- FLT_INJ_GO (R468, R482). -/
def execFltInjGo (q : Req) (s : State) : Host.Outcome State Fault Refusal :=
  if q.wdata.getLsbD 31 then
    ctlAct 0x40020 q s (ctlWrite q true true fun s =>
      let code := (q.wdata.extractLsb' 0 16).toNat
      if !s.flt.ftest || s.refMode then (s, rDenied)
      else if (faultRow code).isNone then (s, rError)
      else ((s.modFlt fun f => { f with injCode := BitVec.ofNat 16 code }).logReport (s.ownReport s.flt.injUnit.toNat code 0 0), rOk))
  else .next s

/-! ## Fences by write (R469, R483) -/

/-- FENCE_ROUTER_WRITE (R469, R483): the answer leaves before the fence. -/
def execFenceRouterWrite (t : Nat) (m : CMsg) (s : State) : Host.Outcome State Fault Refusal :=
  atTile t s fun s =>
    if (regData m).getLsbD 31 && isKind m 0xA && regOfs m == 0x900 then
      if regWin m ≠ 0 then s.regAns t m rDenied 0
      else
        let s1 := s.fenceRouter t
        s1.cSend ctlTile (s.regAnsMsg t m rOk 0)
    else s

/-- FENCE_CLIENT_WRITE (R469, R483). -/
def execFenceClientWrite (t : Nat) (m : CMsg) (s : State) : Host.Outcome State Fault Refusal :=
  atTile t s fun s =>
    if (regData m).getLsbD 30 && !(regData m).getLsbD 31 then stopWrite t 0x900 m s fun s => (s.fenceClient t, rOk) else s

/-- A record of a tile's stop interface is PENDING. -/
def State.siPending (s : State) (t : Nat) : Bool := s.flt.log.any fun e => e.2.state == 1 && e.2.unit == unitId uSi (s.phys t)

/-- UNFENCE_CLIENT (R469, R483). -/
def execUnfenceClient (t : Nat) (m : CMsg) (s : State) : Host.Outcome State Fault Refusal :=
  atTile t s fun s =>
    if (regData m).getLsbD 29 && !(regData m).getLsbD 30 && !(regData m).getLsbD 31 then
      stopWrite t 0x900 m s fun s => if s.siPending t then (s, rBusy) else (s.modRo t fun r => { r with clientFenced := false }, rOk)
    else s

/-- STOP_CONTROL_PARITY (R469): the unit of type `ty` that holds the state reports it. -/
def execStopControlParity (t ty : Nat) (s : State) : Host.Outcome State Fault Refusal :=
  atTile t s fun s => if ty ≤ 6 then s.raiseAt t ty 0x0310 0 0 else s

/-! ## Mesh wires (R470, R471) -/

/-- The group of wires that a swap or a failing wire names. -/
def WireGroup.isOf (w : WireGroup) (t port plane group : Nat) : Bool := w.t == t && w.port == port && w.plane == plane && w.group == group

/-- The unit that receives on a plane's wire: its router (R454). -/
def planeUnit (plane : Nat) : Nat := if plane = 0 then uT else uM

/-- MESH_WIRE_FAILING (R471): plane 0 is the T-plane and 1 the M-plane; with the spare free a swap is named 16 tk ahead, else the wire
has none. -/
def execMeshWireFailing (t port plane group wire : Nat) (s : State) : Host.Outcome State Fault Refusal :=
  atPort t port s fun s =>
    if 4 ≤ port ∨ 1 < plane ∨ (plane = 1 ∧ s.build = .hfS) then s
    else
      match s.flt.wires.find? fun w => w.isOf t port plane group with
      | none => s.modFlt fun f => { f with wires := f.wires ++ [{ t := t, port := port, plane := plane, group := group, wire := wire, swapAt := some (s.now + 16) }] }
      | some w => if w.wire = wire then s else s.raiseAt t (planeUnit plane) 0x0802 wire group

/-- A wire swap takes place (R471). -/
def State.wireSwap (s : State) (t port plane group : Nat) : State :=
  match s.flt.wires.find? fun w => w.isOf t port plane group && w.swapAt.isSome with
  | none => s
  | some w =>
    let done (x : WireGroup) : WireGroup := if x.isOf t port plane group then { x with swapAt := none } else x
    (s.modFlt fun f => { f with wires := f.wires.map done, nWires := inc8 f.nWires }).raiseAt t (planeUnit plane) 0x0801 w.wire group

/-- MESH_WIRE_SWAP (R471): at phase 0 of the tick named. -/
def execMeshWireSwap (t port plane group : Nat) (s : State) : Host.Outcome State Fault Refusal :=
  atPort t port s fun s =>
    if s.flt.wires.any fun w => w.isOf t port plane group && w.swapAt.any s.atTick then s.wireSwap t port plane group else s

end Sys2Proof.Machine
end

