-- ==== Sys2Proof/Machine/ImageParse.lean ====
section
/-! DEFINITION. Reading an image from its bytes: header, directory and the records of every section (R429 to R434). What is
laid out wrong is an answer `none`; whether the content may stand is for Machine/ImageCheck.lean. -/

namespace Sys2Proof.Machine

/-! ## Pieces -/

/-- A length rounded up to a multiple of 16 (R432). -/
def pad16 (n : Nat) : Nat := ceilDiv n 16 * 16

/-- The first `n` bytes and the rest, if there are so many. -/
def takeB (n : Nat) (bs : List Byte) : Option (List Byte × List Byte) := if n ≤ bs.length then some (bs.take n, bs.drop n) else none

/-- `n` things that `p` reads, one after the other. -/
def manyP {α : Type} (p : List Byte → Option (α × List Byte)) : Nat → List Byte → Option (List α × List Byte)
  | 0, bs => some ([], bs)
  | n + 1, bs =>
    match p bs with
    | none => none
    | some (a, r) => (manyP p n r).map fun x => (a :: x.1, x.2)

/-- Everything in `bs`, as things that `p` reads; `fuel` bounds their number. -/
def allP {α : Type} (p : List Byte → Option (α × List Byte)) : Nat → List Byte → Option (List α)
  | 0, bs => if bs.isEmpty then some [] else none
  | n + 1, bs =>
    if bs.isEmpty then some []
    else
      match p bs with
      | none => none
      | some (a, r) => (allP p n r).map (a :: ·)

/-- `n` little-endian numbers of `w` bytes. -/
def fieldsOf (w n : Nat) (bs : List Byte) : List Nat := (chunksF w n bs).map natOf

/-- `n` records of `size` bytes, if the section is just as long and its directory entry counts them so. -/
def fixedP {α : Type} (size : Nat) (f : List Byte → α) (count : Nat) (bs : List Byte) : Option (List α) :=
  if bs.length = size * count then some ((chunksF size count bs).map f) else none

/-! ## Header and directory (R429, R431) -/

/-- An entry of the section directory (R431). -/
structure DirEntry where
  type : Nat
  ofs : Nat
  len : Nat
  count : Nat
  deriving DecidableEq, Repr, Inhabited

/-- The bytes that `IMG_DATA` has brought (R447). -/
def imgBytes (ws : List Word) : List Byte := ws.flatMap fun w => bytesOf 4 w.toNat

def hdrMagic (bs : List Byte) : Nat := leAt bs 0 4
def hdrVersion (bs : List Byte) : Nat := leAt bs 4 2
def hdrKind (bs : List Byte) : Nat := leAt bs 6 1
def hdrBuild (bs : List Byte) : Nat := leAt bs 7 1
def hdrNode (bs : List Byte) : Nat := leAt bs 8 2 % 4096
def hdrPod (bs : List Byte) : Nat := leAt bs 10 2
def hdrSeq (bs : List Byte) : Nat := leAt bs 12 4
def hdrBase (bs : List Byte) : Nat := leAt bs 16 4
def hdrLen (bs : List Byte) : Nat := leAt bs 20 4
def hdrNsec (bs : List Byte) : Nat := leAt bs 24 2
def hdrCrc (bs : List Byte) : Nat := leAt bs 32 4

/-- The CRC of R430. -/
def imgCrc (bs : List Byte) : Nat := (crc32 (bs.take 32 ++ [0, 0, 0, 0] ++ bs.drop 36)).toNat

/-- Whether the header stands (R429): an image of KIND 0 for the full shadow and of KIND 1 for a stage, of the length that was
loaded; a delta repeats the node and pod in force. -/
def State.headerOk (s : State) (tgt len : Nat) (bs : List Byte) : Bool :=
  let n := hdrNsec bs
  decide (64 ≤ bs.length) && hdrMagic bs == 0x44525942 && hdrVersion bs == 1 && hdrKind bs == (if tgt = 0 then 0 else 1) &&
  hdrBuild bs == (match s.build with | .hfE => 1 | .hfS => 2) && hdrSeq bs != 0 && hdrLen bs == len &&
  decide (1 ≤ n ∧ n ≤ 32 ∧ 64 + 16 * n ≤ len) &&
  (if tgt = 0 then hdrBase bs == 0 else hdrNode bs == s.img.act.node && hdrPod bs == s.img.act.pod)

/-- The directory. -/
def directory (bs : List Byte) : List DirEntry :=
  (chunksF 16 (hdrNsec bs) (bs.drop 64)).map fun e =>
    { type := leAt e 0 2, ofs := leAt e 4 4, len := leAt e 8 4, count := leAt e 12 4 }

/-- Section types that a delta may carry (R432). -/
def deltaTypes : List Nat := [0x05, 0x06, 0x07, 0x08, 0x09, 0x0A, 0x0B, 0x0C, 0x0D, 0x0E, 0x0F, 0x11, 0x15, 0x16]

/-- Whether a type may stand in an image of a kind. -/
def typeOk (kind t : Nat) : Bool := if kind = 0 then decide (1 ≤ t ∧ t ≤ 0x16) else deltaTypes.contains t

/-- Two sections share no byte. -/
def DirEntry.apart (a b : DirEntry) : Bool := decide (a.ofs + a.len ≤ b.ofs ∨ b.ofs + b.len ≤ a.ofs ∨ a.len = 0 ∨ b.len = 0)

/-- Whether the directory stands, but for what each section's records add up to (R431). -/
def directoryOk (kind len : Nat) : List DirEntry → Nat → Bool
  | [], _ => true
  | e :: es, n =>
    decide (e.ofs % 16 = 0 ∧ 64 + 16 * n ≤ e.ofs ∧ e.ofs + e.len ≤ len) && typeOk kind e.type &&
    es.all (fun d => d.type != e.type && e.apart d) && directoryOk kind len es n

/-! ## Records of variable length (R432 to R434) -/

/-- Items of 4 bytes with an index in bits 31:23 and a route entry in bits 15:0 (ROUTE). -/
def routeItem (v : Nat) : Nat × BitVec 16 := (bits v 31 23, BitVec.ofNat 16 v)

/-- A ROUTE record. -/
def routeP (bs : List Byte) : Option ((Nat × List (Nat × BitVec 16)) × List Byte) := do
  let (h, r) ← takeB 16 bs
  let n := leAt h 2 2
  let (c, r) ← takeB (pad16 (4 * n)) r
  pure ((leAt h 0 2, (fieldsOf 4 n c).map routeItem), r)

/-- A FENCE record: items of table, stop tile, index and entry. -/
def fenceP (bs : List Byte) : Option ((Nat × List (Nat × Nat × Nat × Word)) × List Byte) := do
  let (h, r) ← takeB 16 bs
  let n := leAt h 2 2
  let (c, r) ← takeB (pad16 (8 * n)) r
  pure ((leAt h 0 2, (fieldsOf 8 n c).map fun v => (bits v 15 14, bits v 8 0, bits v 31 16, BitVec.ofNat 32 (v / 2 ^ 32))), r)

/-- An item of 8 bytes: a one-byte index and a 32-bit entry. -/
def indexedItem (v : Nat) : Nat × Word := (v % 256, BitVec.ofNat 32 (v / 2 ^ 32))

/-- A SLOT record. -/
def slotP (bs : List Byte) : Option (SlotRec × List Byte) := do
  let (h, r) ← takeB 16 bs
  let n := leAt h 4 2
  let (c, r) ← takeB (pad16 (8 * n)) r
  pure ({ tile := leAt h 0 2, port := leAt h 2 1, items := (fieldsOf 8 n c).map indexedItem }, r)

/-- A TREES record. -/
def treeP (bs : List Byte) : Option ((Nat × List (Nat × Word)) × List Byte) := do
  let (h, r) ← takeB 16 bs
  let n := leAt h 2 2
  let (c, r) ← takeB (pad16 (8 * n)) r
  pure ((leAt h 0 2, (fieldsOf 8 n c).map indexedItem), r)

/-- A wrap path (R433). -/
def pathP (bs : List Byte) : Option (List Nat × List Byte) := do
  let n := leAt bs 0 2
  let (c, r) ← takeB (pad16 (2 + 2 * n)) bs
  pure (fieldsOf 2 n (c.drop 2), r)

/-- A memory window (R433). -/
def winOf (c : List Byte) : MemWin :=
  let b := leAt c 8 1
  { base := leAt c 0 4 * 65536, size := leAt c 4 4 * 65536, r := bit b 0, w := bit b 1, a := bit b 2 }

/-- A pan record (R433). -/
def panP (bs : List Byte) : Option (PanRec × List Byte) := do
  let (h, r) ← takeB 16 bs
  let n := leAt h 6 2
  let (nl, r) ← takeB (pad16 (2 * n)) r
  let (ws, r) ← takeB (16 * leAt h 8 2) r
  let (ps, r) ← manyP pathP (leAt h 10 2) r
  let f := leAt h 1 1
  let p : PanRec :=
    { id := leAt h 0 1, remove := bit f 0, ringX := bit f 1, ringY := bit f 2, ringC := bit f 3, route := bits f 5 4
      x0 := leAt h 2 1, y0 := leAt h 3 1, x1 := leAt h 4 1, y1 := leAt h 5 1, nodes := fieldsOf 2 n nl
      wins := (chunksF 16 (leAt h 8 2) ws).map winOf, paths := ps }
  pure (p, r)

/-- A plan node (R434); `stripe` and the rest as its bytes say. -/
def planNodeP (bs : List Byte) : Option (PlanNode × List Byte) := do
  let n := leAt bs 8 2
  let (c, r) ← takeB (pad16 (16 + 4 * n)) bs
  let x : PlanNode :=
    { pnode := leAt c 0 2, stripe := leAt c 2 1, root := bit (leAt c 3 1) 0, node := leAt c 4 2, tile := leAt c 6 2
      parent := leAt c 10 2, childIdx := leAt c 12 1, edge := leAt c 13 1, farEdge := leAt c 14 1, fallback := leAt c 15 1
      children := (fieldsOf 4 n (c.drop 16)).map fun v => { member := bit v 31, index := bits v 19 0 } }
  pure (x, r)

/-- A plan: its number and itself (R434). -/
def planP (nn : Nat) (bs : List Byte) : Option ((Nat × Plan) × List Byte) := do
  let (h, r) ← takeB 16 bs
  let (ns, r) ← manyP planNodeP nn r
  let p : Plan :=
    { resultTree := leAt h 1 1, ctlTree := leAt h 2 1
      deputy := if bit (leAt h 3 1) 0 then some (leAt h 4 2, leAt h 6 2) else none, nodes := ns }
  pure ((leAt h 0 1, p), r)

/-- A group with the numbers its plans state (R434). -/
def groupP (bs : List Byte) : Option ((Group × List Nat) × List Byte) := do
  let (h, r) ← takeB 48 bs
  let f := leAt h 28 1
  let unit := bit f 0
  let nmem := leAt h 4 4
  let (ws, r) ← takeB (if unit then 0 else pad16 (4 * nmem)) r
  let nsrc := leAt h 32 4
  let (ss, r) ← takeB (pad16 (4 * nsrc)) r
  let (ps, r) ← manyP (planP (leAt h 30 2)) (bits f 3 2 + 1) r
  let g : Group :=
    { id := leAt h 0 2, remove := bit f 1, pan := leAt h 2 1, nstr := leAt h 3 1, nmem := nmem, acw := BitVec.ofNat 16 (leAt h 8 2)
      gtl := leAt h 10 2, seed := BitVec.ofNat 32 (leAt h 12 4), small := leAt h 16 4
      tx := (leAt h 20 1, leAt h 21 1), ty := (leAt h 22 1, leAt h 23 1), cp := (leAt h 24 1, leAt h 25 1)
      bd := (leAt h 26 1, leAt h 27 1), unit := unit
      weights := if unit then [] else (fieldsOf 4 nmem ws).map (BitVec.ofNat 32)
      sources := (fieldsOf 4 nsrc ss).map fun v => (bits v 31 12, bits v 7 0), plans := ps.map (·.2) }
  pure ((g, ps.map (·.1)), r)

/-! ## Records of fixed length (R432) -/

/-- A NODES entry, if it is valid. -/
def nodeOf (pos v : Nat) : Option NodeRec :=
  if bit v 63 then some { pos := pos, node := bits v 43 32, board := bits v 31 24, mtile := bits v 8 0 } else none

/-- A QMAP record. -/
def qmapOf (c : List Byte) : QmapRec :=
  { tile := leAt c 0 2, locks := BitVec.ofNat 64 (leAt c 8 8), queues := (fieldsOf 4 16 (c.drop 16)).map (BitVec.ofNat 32) }

/-- A watchpoint. -/
def watchOf (c : List Byte) : Watch := { plane := leAt c 0 1, num := leAt c 1 1, acts := leAt c 2 1, base := leAt c 8 6, limit := leAt c 16 6 }

/-- The TRACE record. -/
def traceOf (c : List Byte) : TraceCfg :=
  { sink := leAt c 0 1, mode := leAt c 1 1, refMode := bit (leAt c 2 1) 0, mirror := bit (leAt c 2 1) 1, post := leAt c 4 4
    base := leAt c 8 8, size := leAt c 16 8, mirrorSel := leAt c 24 2, podLead := leAt c 26 2 }

/-- A link record. -/
def linkOf (c : List Byte) : LinkRec := { role := leAt c 0 1, far := leAt c 1 1, circ := leAt c 2 2 % 1024 }

/-- A template's entries that are not 0. -/
def templateOf (c : List Byte) : List (Nat × Word) :=
  (((List.range 4096).zip (fieldsOf 4 4096 c)).filter fun e => e.2 != 0).map fun e => (e.1, BitVec.ofNat 32 e.2)

/-- An exact length. -/
def lenP {α : Type} (n : Nat) (bs : List Byte) (a : α) : Option α := if bs.length = n then some a else none

/-! ## Sections -/

/-- One section's records join the others; `none` where its length is not the sum of its records. -/
def addSection (b : Build) (kind : Nat) (e : DirEntry) (x : List Byte) (c : Sections) : Option Sections :=
  let all {α : Type} (p : List Byte → Option (α × List Byte)) (y : List Byte) : Option (List α) :=
    match allP p y.length y with
    | some l => if l.length = e.count then some l else none
    | none => none
  match e.type with
  | 0x01 => lenP (16 * pcols b) x { c with grid := some (x.map fun v => v.toNat % 4) }
  | 0x02 => lenP 32 x { c with repair := some ((fieldsOf 2 16 x).map fun v => if bit v 15 then some (bits v 4 0) else none) }
  | 0x03 => (fixedP 8 (fun r => (leAt r 0 1, leAt r 1 1, leAt r 2 1, BitVec.ofNat 32 (leAt r 4 4))) e.count x).map fun l => { c with calib := some l }
  | 0x04 => lenP 128 x { c with nodes := some (((List.range 16).zip (fieldsOf 8 16 x)).filterMap fun p => nodeOf p.1 p.2) }
  | 0x05 => (all panP x).map fun l => { c with pans := l }
  | 0x06 => (all routeP x).map fun l => { c with route := l }
  | 0x07 =>
    let nt := leAt x 0 1
    if x.length = 528 + nt * 16384 then
      some { c with egress := some (fieldsOf 1 512 (x.drop 16), (chunksF 16384 nt (x.drop 528)).map templateOf) }
    else none
  | 0x08 => (all fenceP x).map fun l => { c with fence := l }
  | 0x09 =>
    if 32 ≤ x.length then (all slotP (x.drop 32)).map fun l => { c with slot := some (BitVec.ofNat 256 (leAt x 0 32), l) } else none
  | 0x0A => (all treeP x).map fun l => { c with trees := l }
  | 0x0B =>
    let n := if kind = 0 then 2048 else 0
    if n ≤ x.length then
      (allP groupP x.length (x.drop n)).map fun l =>
        { c with
          groups := l.map (·.1), planNos := l.map (·.2)
          cuPart := if kind = 0 then some ((fieldsOf 4 512 x).map (BitVec.ofNat 32)) else none }
    else none
  | 0x0C => lenP 16 x { c with formats := some ((fieldsOf 4 4 x).map (BitVec.ofNat 32)) }
  | 0x0D => (fixedP 80 qmapOf e.count x).map fun l => { c with qmap := l }
  | 0x0E => lenP 16 x { c with sluice := some (fieldsOf 1 7 x, fieldsOf 1 7 (x.drop 8)) }
  | 0x0F => (fixedP 8 (fun r => (leAt r 0 2, leAt r 2 2, leAt r 4 1, leAt r 5 1)) e.count x).map fun l => { c with power := some l }
  | 0x10 => (fixedP 4 (fun r => (leAt r 0 2, leAt r 2 1)) e.count x).map fun l => { c with faults := some l }
  | 0x11 => (fixedP 24 watchOf e.count x).map fun l => { c with watch := some l }
  | 0x12 => lenP 64 x { c with trace := some (traceOf x) }
  | 0x13 => lenP 2112 x { c with links := some ((chunksF 8 256 x).map linkOf, (chunksF 4 16 (x.drop 2048)).map fun r => fieldsOf 1 3 r) }
  | 0x14 => lenP 4 x { c with memS := some (leAt x 0 4) }
  | 0x15 => lenP 32 x { c with panset := (List.range 256).filter fun k => bit (leAt x 0 32) k }
  | 0x16 =>
    (fixedP 4 (fun r => ({ node := leAt r 0 4 % 4096, pos := bits (leAt r 0 4) 15 12, board := bits (leAt r 0 4) 23 16, mtile := 0 } : NodeRec))
      e.count x).map fun l => { c with nodemap := some l }
  | _ => none

/-- The sections of an image whose header stands, in the directory's order. -/
def sectionsOf (b : Build) (bs : List Byte) : Option Sections :=
  let c : Sections :=
    { (default : Sections) with
      kind := hdrKind bs, node := hdrNode bs, pod := hdrPod bs, seq := hdrSeq bs, base := hdrBase bs, types := (directory bs).map (·.type) }
  (directory bs).foldlM (fun c e => addSection b (hdrKind bs) e ((bs.drop e.ofs).take e.len) c) c

end Sys2Proof.Machine
end

