-- ==== Sys2Proof/Machine/ImageLoad.lean ====
section
/-! DEFINITION. Putting the records of an image or delta into force: the die-wide configuration, the tables of every stop, the slot
banks, queue and lock maps (R414 step 3, R437 to R442, R603). -/

namespace Sys2Proof.Machine

/-! ## The configuration in force -/

/-- The slot section's transit map, or that of a full image without one (R603). -/
def Sections.tmap (c : Sections) : BitVec 256 := match c.slot with | some (m, _) => m | none => Bank.defaultMap

/-- What the configuration is once a full image is in force (R432, R439). -/
def Active.full (c : Sections) : Active :=
  { node := c.node, pod := c.pod, seq := c.seq, loaded := true
    nodes := c.nodes.getD [], nodemap := c.nodemap.getD [], nodesGiven := c.nodes.isSome
    pans := c.pans, groups := c.groups, formats := c.formats.getD [], fence := c.fence
    faults := c.faults.getD [], watch := c.watch.getD [], trace := c.trace.getD Active.absent.trace
    grid := c.grid.getD [], links := (c.links.map (·.1)).getD [], linksGiven := c.links.isSome, detours := (c.links.map (·.2)).getD []
    memS := c.memS.getD 0
    up := (c.sluice.map (·.1)).getD Active.absent.up, dn := (c.sluice.map (·.2)).getD Active.absent.dn
    power := c.power.getD [], calib := c.calib.getD [], repair := c.repair.getD [], egressTmpl := c.egress.getD ([], [])
    hasSlot := c.slot.isSome }

/-- Records that replace or remove those of their key (R438). -/
def replaceBy {α : Type} (key : α → Nat) (gone : α → Bool) (old new : List α) : List α :=
  (old.filter fun a => !new.any fun b => key b == key a) ++ new.filter fun b => !gone b

/-- What the configuration is once a delta is in force (R438, R441). -/
def Active.delta (a : Active) (c : Sections) : Active :=
  { a with
    pans := replaceBy (·.id) (·.remove) a.pans c.pans
    groups := replaceBy (·.id) (·.remove) a.groups c.groups
    fence := replaceBy (·.1) (fun _ => false) a.fence c.fence
    formats := c.formats.getD a.formats, watch := c.watch.getD a.watch, nodemap := c.nodemap.getD a.nodemap
    up := (c.sluice.map (·.1)).getD a.up, dn := (c.sluice.map (·.2)).getD a.dn, power := c.power.getD a.power
    egressTmpl := c.egress.getD a.egressTmpl, hasSlot := a.hasSlot || c.slot.isSome }

/-- What the configuration is once the sections are in force. -/
def Sections.over (c : Sections) (a : Active) : Active := if c.kind = 0 then Active.full c else a.delta c

/-! ## Tables of a stop -/

/-- A table of the entries listed, a later one over an earlier. -/
def tabOf {α : Type} (l : List (Nat × α)) : Tab α := l.foldl (fun t e => t.set e.1 e.2) []

/-- The last record of a tile. -/
def lastOf {α : Type} (l : List (Nat × α)) (t : Nat) : Option α := ((l.filter fun e => e.1 == t).getLast?).map (·.2)

/-- Route, tree and egress tables and CU configuration of tile `t` under the sections: every table of a full image, those listed of
a delta (R222, R438). -/
def Sections.tables (c : Sections) (t : Nat) (st : Stop) : Stop :=
  let keep {α : Type} (new : Option (Tab α)) (old : Tab α) : Tab α := match new with | some x => x | none => if c.kind = 0 then [] else old
  { st with
    ro := { st.ro with
      route := keep ((lastOf c.route t).map tabOf) st.ro.route
      tree := keep ((lastOf c.trees t).map tabOf) st.ro.tree
      egress := keep (c.egress.map fun e => tabOf (nth [] e.2 (nth 0 e.1 t))) st.ro.egress }
    cu := { st.cu with
      cfg := match c.cuPart with
        | some l => let w := (nth 0 l t).toNat; some (bits w 7 0, bits w 15 8, bits w 23 16)
        | none => if c.kind = 0 then none else st.cu.cfg } }

/-- The configuration and the routing tables of the sections stand, with nothing else of a switch-over done. -/
def State.applied (s : State) (c : Sections) : State :=
  { s with
    img := { s.img with act := c.over s.img.act }
    stops := s.tiles.foldl (fun l t => l.set t (c.tables t (s.stop t))) s.stops }

/-! ## Slot banks (R144, R437, R442, R603) -/

/-- The shadow bank of an output becomes `b`; `one` says that bank 1 is active. -/
def OutPort.setShadow (o : OutPort) (one : Bool) (b : Bank) : OutPort := if one then { o with bank0 := b } else { o with bank1 := b }

/-- The table that a SLOT section gives output `p` of tile `t`, if it defines one. -/
def Sections.bankOf (c : Sections) (t p : Nat) : Option Bank :=
  let recs := match c.slot with | some (_, l) => l | none => []
  match (recs.filter fun r => r.tile == t && r.port == slotCode p).getLast? with
  | some r => some { tmap := c.tmap, entries := tabOf r.items }
  | none => if c.kind = 0 then some { tmap := c.tmap, entries := [] } else none

/-- The tables of the sections are written into the shadow bank; a delta's first makes every shadow bank equal to the active one,
unless tables of another delta wait there for the swap. -/
def State.writeShadow (s : State) (c : Sections) : State :=
  if c.kind ≠ 0 ∧ c.slot.isNone then s
  else
    let copy := c.kind != 0 && !(s.slotPend.any fun x => !x.2)
    s.tiles.foldl (fun s t => s.modRt t fun r =>
      let r1 := if copy then { r with outs := r.outs.map fun o => (o.1, o.2.setShadow s.slotBank (o.2.bank s.slotBank)) } else r
      (portsOf s.build t).foldl (fun r p =>
        match c.bankOf t p with
        | some b => if r.outp p |>.bank (!s.slotBank) |> (· == b) then r else r.modOut p fun o => o.setShadow s.slotBank b
        | none => r) r1) s

/-! ## Queue and lock maps (R278, R293, R432) -/

/-- The queue that a map word gives number `k`: HQk, or RQ(k − 16). -/
def mappedQueue (k : Nat) (w : Word) : Queue :=
  let v := w.toNat
  if k < 16 then
    if bit v 31 then { (default : Queue) with state := 1, disp := bit v 23, handler := BitVec.ofNat 16 v, depth := bits v 30 24 } else default
  else if bit v 22 then { (default : Queue) with state := 1, disp := bit v 21, handler := BitVec.ofNat 16 v } else default

/-- The same at a tile whose queue `k` has lost rows (R474). -/
def QBlock.mapQueue (b : QBlock) (k : Nat) (w : Word) : Queue :=
  let q := mappedQueue k w
  { q with depth := q.depth - Tab.get 0 b.gone k }

/-- Whether a queue is mapped as `q` is. -/
def Queue.sameMap (a q : Queue) : Bool :=
  (a.state != 0) == (q.state != 0) && (q.state == 0 || (a.disp == q.disp && a.handler == q.handler && a.depth == q.depth))

/-- The sixteen words of a tile's queue map under the sections, if they say. -/
def Sections.qmapAt (c : Sections) (t : Nat) : Option QmapRec :=
  match (c.qmap.filter fun r => r.tile == t).getLast? with
  | some r => some r
  | none => if c.kind = 0 then some { tile := t, locks := 0, queues := List.replicate 16 0 } else none

/-- A queue block with every queue as a map has it: CLOSED or UNMAPPED, epoch 0 and empty. -/
def QBlock.mapped (q : QBlock) (ws : List Word) : QBlock :=
  { q with
    qs := ((List.range 32).map fun k => (k, q.mapQueue k (nth 0 ws (k % 16)))).filter fun e => e.2.state != 0
    alive := [], disp := [] }

/-- A queue block with every queue CLOSED with epoch 0 and empty under the map in force (R278, R414). -/
def QBlock.closed (q : QBlock) : QBlock :=
  { q with
    qs := (q.qs.filter fun e => e.2.state != 0).map fun e =>
      (e.1, { (default : Queue) with state := 1, disp := e.2.disp, handler := e.2.handler, depth := e.2.depth })
    alive := [], disp := [] }

/-- Locks enabled and disabled by a map: one that the map enables anew is FREE with generation 0. -/
def LockTab.mapped (l : LockTab) (m : BitVec 64) : LockTab :=
  { l with locks := ((List.range 64).filter fun k => m.getLsbD k).map fun k =>
      let x := Tab.get Lock.init l.locks k
      (k, if x.state = 3 then { Lock.init with state := 0 } else x) }

/-- Every lock FREE or DISABLED under the map in force, with generation 0 (R414). -/
def LockTab.cleared (l : LockTab) : LockTab :=
  { l with locks := (l.locks.filter fun e => e.2.state != 3).map fun e => (e.1, { Lock.init with state := 0 }) }

/-- The queue and lock maps of the sections come into force at tile `t`. -/
def State.takeMaps (s : State) (c : Sections) (t : Nat) : State :=
  match c.qmapAt t with
  | none => s
  | some r =>
    s.modStop t fun st =>
      let same := (List.range 32).all fun k => (Tab.get default st.q.qs k).sameMap (st.q.mapQueue k (nth 0 r.queues (k % 16)))
      { st with q := if same then st.q else st.q.mapped r.queues, lk := st.lk.mapped r.locks }

/-- A tile whose pan has changed (R414, step 4). -/
def State.freshTile (s : State) (t : Nat) : State :=
  s.modStop t fun st => { st with
    q := st.q.closed, lk := st.lk.cleared, si := { st.si with rxlim := 0 }, cr := { st.cr with held := [] }
    rt := { st.rt with prio := 0, prioNext := [] } }

end Sys2Proof.Machine
end

