-- ==== Sys2Proof/Machine/ImageCheck.lean ====
section
/-! DEFINITION. The content rules of an image's sections, as their owning chapters lay them down (R432, R437): for each section
type, the index of the first record that breaks one. -/

namespace Sys2Proof.Machine

/-- The index of the first element for which `ok` fails. -/
def firstBad {α : Type} (ok : α → Bool) : Nat → List α → Option Nat
  | _, [] => none
  | k, a :: as => if ok a then firstBad ok (k + 1) as else some k

/-- Record 0 of a section of one record. -/
def badIf (b : Bool) : Option Nat := if b then some 0 else none

/-! ## The rows under the sections -/

/-- The removed column of row `y` under a repair map (R13). -/
def State.colUnder (s : State) (rep : List (Option Nat)) (y : Nat) : Nat :=
  match (s.row y).fuse, nth none rep y with
  | some c, _ => c
  | none, some c => c
  | none, none => pcols s.build - 1

/-- The repair entries under the sections: the image's own, or those in force. -/
def State.repairUnder (s : State) (c : Sections) : List (Option Nat) :=
  if c.kind = 0 then c.repair.getD [] else (List.range 16).map fun y => (s.row y).field

/-- Whether a tile is a hole under the sections (R15, R472): a fenced physical tile that a row with a hole still carries. -/
def State.isHole (s : State) (c : Sections) (t : Nat) : Bool :=
  let y := tileY t
  let col := s.colUnder (s.repairUnder c) y
  (s.row y).hole.isSome && (Tab.get 0 s.flt.fenced y).getLsbD (if tileX t < col then tileX t else tileX t + 1)

/-- The client kind of a logical tile under the sections (R394, R432). -/
def State.kindUnder (s : State) (c : Sections) (t : Nat) : Nat :=
  let grid := if c.kind = 0 then c.grid.getD [] else s.img.act.grid
  let y := tileY t
  let col := s.colUnder (s.repairUnder c) y
  let px := if tileX t < col then tileX t else tileX t + 1
  if grid.isEmpty then (match s.build with | .hfE => 1 | .hfS => 0) else nth 0 grid (y * pcols s.build + px)

/-! ## Node tables (R76, R228, R393, R432) -/

/-- NODES: in HF-E the image's node stands at exactly one valid position; in HF-S it stands at none. -/
def State.badNodes (s : State) (c : Sections) (l : List NodeRec) : Option Nat :=
  let own := l.filter fun r => r.node == c.node
  match s.build with
  | .hfE => badIf (own.length != 1)
  | .hfS => own.head?.map (·.pos)

/-- NODEMAP: no node twice, and none in disagreement with NODES. -/
def badNodemap (nodes l : List NodeRec) : Option Nat :=
  firstBad (fun r : NodeRec => (l.filter fun x => x.node == r.node).length == 1 &&
    nodes.all fun x => x.node != r.node || (x.pos == r.pos && x.board == r.board)) 0 l

/-! ## Routing tables (R105, R109, R116, R125) -/

/-- A route entry of tile `t` (R109). -/
def routeOk (b : Build) (t : Nat) (e : BitVec 16) : Bool :=
  let p := (e.extractLsb' 0 3).toNat
  !e.getLsbD 15 || (p != 5 && p != 6 && (decide (4 ≤ p) || (neighbour b t p).isSome))

/-- ROUTE. -/
def State.badRoute (s : State) (c : Sections) : Option Nat :=
  firstBad (fun r : Nat × List (Nat × BitVec 16) => tileOk s.build r.1 && decide (r.2.length ≤ 512) && r.2.all fun e => routeOk s.build r.1 e.2) 0 c.route

/-- EGRESS. -/
def State.badEgress (s : State) (idx : List Nat) (tmpl : List (List (Nat × Word))) : Option Nat :=
  if decide (1 ≤ tmpl.length ∧ tmpl.length ≤ 16) && s.tiles.all fun t => decide (nth 0 idx t < tmpl.length) then
    firstBad (fun l : List (Nat × Word) => l.all fun e =>
      (!e.2.getLsbD 31 || decide ((e.2.extractLsb' 0 8).toNat < nLinks s.build)) &&
      (!e.2.getLsbD 30 || decide ((e.2.extractLsb' 8 8).toNat < nLinks s.build))) 0 tmpl
  else some 0

/-- The fields of one tree entry (R125), but for NTGT. -/
def treeOk (b : Build) (t : Nat) (e : Word) : Bool :=
  !trValid e ||
  (e.extractLsb' 14 2 == 0 && (!trRoot e || trCollect e) &&
   ((List.range 4).all fun p => !e.getLsbD (27 - p) || (neighbour b t p).isSome) &&
   ((List.range 4).all fun j => !e.getLsbD (20 + j) || decide (j < (linksOf b t).length)) &&
   ((List.range 4).all fun j => !e.getLsbD (16 + j) || decide (j + 4 < (linksOf b t).length)) &&
   (if trRoot e then decide (1 ≤ trNodes e ∧ trNodes e ≤ 16) else trNodes e == 0))

/-- One tree on the whole die (R125): its entries' fields, the number of its targets, and at most one root and one collector. -/
def State.treeStands (s : State) (tree : Nat) : Bool :=
  let es := (s.tiles.map fun t => (t, s.treeEntry t tree)).filter fun e => trValid e.2
  let n := (es.filter fun e => trEject e.2).length
  (es.all fun e => treeOk s.build e.1 e.2 && trNtgt e.2 == (if trCollect e.2 then n else 0)) &&
  decide ((es.filter fun e => trRoot e.2).length ≤ 1) && decide ((es.filter fun e => trCollect e.2).length ≤ 1)

/-- TREES, with the tables as the sections leave them. -/
def State.badTrees (s : State) (c : Sections) : Option Nat :=
  let a := s.applied c
  firstBad (fun r : Nat × List (Nat × Word) => tileOk s.build r.1 && r.2.all fun e => a.treeStands e.1) 0 c.trees

/-- The tables with a fence set's items in force (R116). -/
def State.withSet (s : State) (items : List (Nat × Nat × Nat × Word)) : State :=
  items.foldl (fun s i => if i.1 = 2 then s.modRo i.2.1 fun r => { r with tree := r.tree.set i.2.2.1 i.2.2.2 } else s) s

/-- FENCE. -/
def State.badFence (s : State) (c : Sections) : Option Nat :=
  let a := s.applied c
  firstBad (fun r : Nat × List (Nat × Nat × Nat × Word) =>
    tileOk s.build r.1 && (r.2.all fun i => tileOk s.build i.2.1 &&
      (if i.1 = 0 then decide (i.2.2.1 < 512) && routeOk s.build i.2.1 (i.2.2.2.setWidth 16) else i.1 == 2 && decide (i.2.2.1 < 256))) &&
    (let w := a.withSet r.2; r.2.all fun i => i.1 != 2 || w.treeStands i.2.2.1)) 0 c.fence

/-! ## Slot tables (R142, R143) -/

/-- An entry of output `p` of tile `t`. -/
def slotEntryOk (b : Build) (t p : Nat) (w : Word) : Bool :=
  match seKind w with
  | 1 => w.extractLsb' 12 13 == 0 && (match slotPort b t (seIn w) with | some i => i != p | none => false)
  | 3 => false
  | _ => w.extractLsb' 0 30 == 0

/-- SLOT. -/
def State.badSlot (s : State) (l : List SlotRec) : Option Nat :=
  firstBad (fun r : SlotRec =>
    tileOk s.build r.tile && decide (r.items.length ≤ 256) &&
    (match slotPort s.build r.tile r.port with
     | some p => r.items.all fun e => slotEntryOk s.build r.tile p e.2
     | none => false)) 0 l

/-! ## Pans (R324, R405, R409) -/

/-- The bank that an output has once the sections' tables have swapped in. -/
def State.bankUnder (s : State) (c : Sections) (t p : Nat) : Bank := (c.bankOf t p).getD (((s.stop t).rt.outp p).bank s.slotBank)

/-- A wrap path of a pan (R409): neighbours, routed to its last tile, with transit entries where it passes tiles of others. -/
def State.pathOk (s a : State) (c : Sections) (p : PanRec) (dst : Nat) : List Nat → Bool
  | u :: v :: rest =>
    tileOk s.build u && tileOk s.build v &&
    (match (List.range 4).find? fun d => neighbour s.build u d == some v with
     | none => false
     | some d =>
       let e := Tab.get (0 : BitVec 16) (a.stop u).ro.route dst
       e.getLsbD 15 && (e.extractLsb' 0 3).toNat == d &&
       ((a.tilePan u).map (·.id) == some p.id || (List.range 256).any fun i => seKind ((s.bankUnder c u d).entry i) == 2)) &&
    State.pathOk s a c p dst (v :: rest)
  | [u] => tileOk s.build u
  | [] => true

/-- Two rectangles share a tile. -/
def PanRec.meets (p q : PanRec) : Bool := decide (p.x0 ≤ q.x1 ∧ q.x0 ≤ p.x1 ∧ p.y0 ≤ q.y1 ∧ q.y0 ≤ p.y1)

/-- No element twice. -/
def distinct (l : List Nat) : Bool := l.eraseDups.length == l.length

/-- A pan record that stays (R405, R432, R433). -/
def State.panOkay (s a : State) (c : Sections) (p : PanRec) : Bool :=
  let here := a.img.act.pans.filter a.panHere
  decide (p.route ≤ 1 ∧ p.x0 ≤ p.x1 ∧ p.x1 < cols s.build ∧ p.y0 ≤ p.y1 ∧ p.y1 < 16) &&
  decide (1 ≤ p.nodes.length ∧ p.nodes.length ≤ 4096 ∧ p.nodes.length * p.tiles ≤ 2 ^ 20) && distinct p.nodes &&
  p.nodes.all (fun n => decide (n < 4096)) && !(s.build == .hfS && p.nodes.contains c.node) &&
  (!a.panHere p ||
    ((s.tiles.all fun t => !(p.has t && s.isHole c t)) && (here.all fun q => q.id == p.id || !p.meets q) && decide (here.length ≤ 64))) &&
  decide (p.wins.length ≤ 8) && p.wins.all (fun w => decide (65536 ≤ w.size ∧ w.size ≤ 2 ^ 44)) &&
  p.paths.all fun l => s.pathOk a c p (l.getLast?.getD 0) l

/-- PANS. -/
def State.badPans (s : State) (c : Sections) : Option Nat :=
  let a := s.applied c
  firstBad (fun p : PanRec =>
    (c.kind = 0 || c.panset.contains p.id) && (c.pans.filter fun q => q.id == p.id).length == 1 &&
    (if p.remove then c.kind != 0 && p.nodes.isEmpty else s.panOkay a c p)) 0 c.pans

/-! ## Groups and plans (R222, R228, R231 to R234) -/

/-- Plan nodes of one stripe form one tree under the group root: each but the root is, at its child index, a child of its parent,
every child that is a plan node names it as its parent, and the root is reached from each (R232); `fuel` bounds the climb. -/
def climbs (l : List PlanNode) : Nat → PlanNode → Bool
  | 0, _ => false
  | f + 1, n =>
    n.root ||
    match l.find? fun x => x.pnode == n.parent with
    | some x => nth default x.children n.childIdx == { member := false, index := n.pnode } && climbs l f x
    | none => false

/-- One stripe of a plan (R232). -/
def stripeOk (nmem : Nat) (l : List PlanNode) : Bool :=
  (l.filter (·.root)).length == 1 && distinct (l.map (·.pnode)) && l.all (climbs l (l.length + 1)) &&
  (l.all fun n => decide (1 ≤ n.children.length ∧ n.children.length ≤ 256) && n.children.all fun ch =>
    if ch.member then decide (ch.index < nmem)
    else match l.find? fun x => x.pnode == ch.index with | some x => !x.root && x.parent == n.pnode | none => false) &&
  (let kids := l.flatMap (·.children)
   distinct ((kids.filter fun ch => !ch.member).map (·.index)) && (kids.filter fun ch => !ch.member).length + 1 == l.length &&
   distinct ((kids.filter (·.member)).map (·.index)) && (kids.filter (·.member)).length == nmem)

/-- A plan node but for what a fallback plan may change (R233). -/
def PlanNode.shape (n : PlanNode) : Nat × Nat × Bool × Nat × Nat × List Child := (n.pnode, n.stripe, n.root, n.parent, n.childIdx, n.children)

/-- Two plans have the same plan nodes, whatever the order of their records (R233). -/
def sameShape (a b : List PlanNode) : Bool :=
  a.length == b.length && (a.all fun n => b.any fun x => x.shape == n.shape) && b.all fun n => a.any fun x => x.shape == n.shape

/-- The plan nodes of one hosting die have distinct numbers (R231). -/
def numbersOk (l : List PlanNode) : Bool :=
  l.all fun n => (l.filter fun x => x.pnode == n.pnode && x.node == n.node).length == 1

/-- A plan of a group. -/
def planOk (g : Group) (p : Plan) : Bool :=
  ((List.range g.nstr).all fun k => stripeOk g.nmem (p.nodes.filter fun n => n.stripe == k)) && numbersOk p.nodes &&
  p.nodes.all fun n => decide (n.stripe < g.nstr ∧ n.fallback < g.plans.length)

/-- Every group root on this die has valid entries with ROOT for its plan's trees (R234). -/
def State.rootTrees (s : State) (p : Plan) : Bool :=
  p.nodes.all fun n => !(n.root && n.node == s.node) ||
    [p.resultTree, p.ctlTree].all fun k => let e := s.treeEntry n.tile k; trValid e && trRoot e

/-- A group record that stays. -/
def State.groupOkay (a : State) (g : Group) (nos : List Nat) : Bool :=
  decide (g.id < 1024 ∧ 1 ≤ g.gtl) && [1, 2, 4, 8, 16, 32].contains g.nstr && nos == List.range g.plans.length &&
  (match a.pan? g.pan with
   | some p => (g.cp == (0, 15) && g.bd == (0, 255)) || p.nodes.all fun n => (a.nodeRec n).isSome
   | none => false) &&
  (a.members g).length == g.nmem && g.sources.all (fun x => decide (x.1 < g.nmem)) &&
  g.plans.all (planOk g) && (g.plans.all fun p => sameShape p.nodes (nth default g.plans 0).nodes) &&
  g.plans.all a.rootTrees

/-- CU part of a tile: HOLDMAX and CTHR are from 1 to 255 (R222). -/
def cuWordOk (w : Word) : Bool := w.extractLsb' 8 8 != 0 && w.extractLsb' 16 8 != 0

/-- PLANS. -/
def State.badPlans (s : State) (c : Sections) : Option Nat :=
  let a := s.applied c
  match (c.cuPart.map fun l => s.tiles.all fun t => cuWordOk (nth 0 l t)) with
  | some false => some 0
  | _ =>
    let old (g : Group) : Bool := s.img.act.groups.all fun o => o.id != g.id || c.panset.contains o.pan
    firstBad (fun g : Group × List Nat =>
      (c.groups.filter fun x => x.id == g.1.id).length == 1 &&
      (c.kind = 0 || (old g.1 && (g.1.remove || c.panset.contains g.1.pan))) &&
      (if g.1.remove then c.kind != 0 else a.groupOkay g.1 g.2)) 0 (c.groups.zip c.planNos)

/-! ## The other sections -/

/-- QMAP (R278, R394, R437). -/
def State.badQmap (s : State) (c : Sections) : Option Nat :=
  let a := s.applied c
  let inSet (x : State) (t : Nat) : Bool := match x.tilePan t with | some p => c.panset.contains p.id | none => false
  firstBad (fun r : QmapRec =>
    let hq := (r.queues.map (·.toNat)).filter fun v => bit v 31
    tileOk s.build r.tile && (c.kind = 0 || inSet s r.tile || inSet a r.tile) &&
    hq.all (fun v => bits v 30 24 != 0) && decide ((hq.map fun v => bits v 30 24).sum ≤ 64) &&
    (s.kindUnder c r.tile != 0 || r.queues.all fun w => !w.getLsbD 31 && !w.getLsbD 22)) 0 c.qmap

/-- SLUICE (R121). -/
def badSluice (up dn : List Nat) : Option Nat :=
  badIf (!((up.zip (up.drop 1)).all (fun p => decide (p.1 < p.2)) && (up.zip dn).all fun p => decide (p.2 < p.1)))

/-- A requester that the build and the grid map have (R546). -/
def State.requester (s : State) (kind : Nat → Nat) (id : Nat) : Bool :=
  let k := id % 4096
  match id / 4096 with
  | 0 => tileOk s.build k && kind k != 0
  | 1 => decide (k < match s.build with | .hfE => 32 | .hfS => 64)
  | 2 => decide (k < 16)
  | 3 => k == 0
  | _ => false

/-- POWER (R548). -/
def State.badPower (s : State) (c : Sections) (l : List (Nat × Nat × Nat × Nat)) : Option Nat :=
  firstBad (fun e : Nat × (Nat × Nat × Nat × Nat) =>
    let r := e.2
    s.requester (s.kindUnder c) r.1 && (l.filter fun x => x.1 == r.1).length == 1 && decide (r.2.1 ≤ 16384) &&
    (e.1 == 0 || r.2.2.2 == 0) && (r.1 / 4096 != 3 || r.2.2.1 == 0)) 0 ((List.range l.length).zip l)

/-- FAULTS (R460). -/
def badFaults (l : List (Nat × Nat)) : Option Nat :=
  firstBad (fun r : Nat × Nat =>
    match faultRow r.1 with
    | none => false
    | some f =>
      decide (r.2 ≤ 5) && (f.cls != 0 || r.2 == 0) && (f.cls != 2 || r.2 == 4 || r.2 == 5) &&
      (r.2 != 1 || f.scope == .tile) && (r.2 != 2 || f.scope == .link)) 0 l

/-- WATCH (R510). -/
def badWatch (l : List Watch) : Option Nat :=
  firstBad (fun w : Watch =>
    decide (w.plane ≤ 1 ∧ w.num < 16 ∧ w.base < w.limit) && w.acts % 8 != 0 &&
    (l.filter fun x => x.plane == w.plane && x.num == w.num).length == 1) 0 l

/-- TRACE (R432, R503, R513): the region of sink 1 lies in the chip's own memory and overlaps no window of a pan. -/
def State.badTrace (s : State) (c : Sections) (t : TraceCfg) : Option Nat :=
  let a := s.applied c
  let region :=
    s.build == .hfE && t.size % 65536 == 0 && decide (65536 ≤ t.size ∧ t.size ≤ 2 ^ 36) &&
    decide (t.base / 2 ^ 40 = a.chipPos ∧ t.base % 2 ^ 40 + t.size ≤ 96 * a.img.act.memS * 256) &&
    a.img.act.pans.all fun p => p.wins.all fun w => decide (t.base + t.size ≤ w.base ∨ w.base + w.size ≤ t.base)
  let sel := t.mirrorSel % 512
  let mirror := match t.mirrorSel / 2 ^ 14 with
    | 0 | 1 => decide (sel < nLinks s.build)
    | 2 => tileOk s.build sel
    | _ => false
  badIf (!(decide (t.sink ≤ 2 ∧ t.mode ≤ 2) && (t.sink != 1 || region) && (!t.mirror || mirror) && (t.podLead == 0 || decide (64 ≤ t.podLead))))

/-- The windows of a delta's pans stay clear of the trace region in force (R432). -/
def State.windowsClear (s : State) (p : PanRec) : Bool :=
  let t := s.img.act.trace
  t.sink != 1 || p.wins.all fun w => decide (t.base + t.size ≤ w.base ∨ w.base + w.size ≤ t.base)

/-- LINKS (R373, R395). -/
def State.badLinks (s : State) (l : List LinkRec) : Option Nat :=
  firstBad (fun r : LinkRec => decide (r.role ≤ 6) && !(s.build == .hfS && (r.role == 1 || r.role == 2))) 0 (l.take (nLinks s.build))

/-- MEM (R312): with m the least number such that N ≤ 2^m, N is a multiple of 2^(m − 7). -/
def badMem (n : Nat) : Option Nat :=
  let g := 96 * n
  let m := (Nat.log2 g) + (if 2 ^ Nat.log2 g = g then 0 else 1)
  badIf (n == 0 || g % 2 ^ (m - 7) != 0)

/-- A CALIB record names a link and a lane of the build, and codes that are in force as they stand keep the tap limits (R345, R356,
R432). -/
def State.badCalib (s : State) (l : List (Nat × Nat × Nat × Word)) : Option Nat :=
  firstBad (fun r : Nat × Nat × Nat × Word =>
    let v := r.2.2.2.toNat
    decide (r.1 < nLinks s.build ∧ r.2.1 < 3) && (!bit v 26 || decide (bits v 15 12 ≤ 12 ∧ bits v 11 7 ≤ 20))) 0 l

/-- FORMATS (R170), and in a delta only where every pan of the die is in the pan set (R437). -/
def State.badFormats (s : State) (c : Sections) (l : List Word) : Option Nat :=
  if c.kind != 0 && !(s.img.act.pans.filter s.panHere).all (fun p => c.panset.contains p.id) then some 0 else firstBad loadableOk 0 l

/-- The first record of a section that breaks a rule. -/
def State.sectionBad (s : State) (c : Sections) (type : Nat) : Option Nat :=
  match type with
  | 0x01 => c.grid.bind fun l => badIf (!l.all fun k => match s.build with | .hfE => k == 1 | .hfS => decide (k ≤ 2))
  | 0x02 => c.repair.bind fun l => firstBad (fun r : Option Nat => match r with | some k => decide (k < pcols s.build) | none => true) 0 l
  | 0x03 => c.calib.bind s.badCalib
  | 0x04 => c.nodes.bind (s.badNodes c)
  | 0x05 =>
    match s.badPans c with
    | some k => some k
    | none => firstBad (fun p : PanRec => (s.applied c).windowsClear p) 0 c.pans
  | 0x06 => s.badRoute c
  | 0x07 => c.egress.bind fun e => s.badEgress e.1 e.2
  | 0x08 => s.badFence c
  | 0x09 => c.slot.bind fun e => s.badSlot e.2
  | 0x0A => s.badTrees c
  | 0x0B => s.badPlans c
  | 0x0C => c.formats.bind (s.badFormats c)
  | 0x0D => s.badQmap c
  | 0x0E => c.sluice.bind fun e => badSluice e.1 e.2
  | 0x0F => c.power.bind (s.badPower c)
  | 0x10 => c.faults.bind badFaults
  | 0x11 => c.watch.bind badWatch
  | 0x12 => c.trace.bind (s.badTrace c)
  | 0x13 => c.links.bind fun e => s.badLinks e.1
  | 0x14 => c.memS.bind badMem
  | 0x16 => c.nodemap.bind (badNodemap (s.applied c).img.act.nodes)
  | _ => none

/-- A delta whose sections stand may still leave a group of the active image without its trees (R234). -/
def State.treesKept (s : State) (c : Sections) : Bool :=
  let a := s.applied c
  a.img.act.groups.all fun g => g.plans.all a.rootTrees

/-! ## The stage store (R437) -/

/-- Bytes of per-tile records that a delta keeps at tile `t`. -/
def Sections.tileStore (c : Sections) (t : Nat) : Nat :=
  ((c.route.filter fun r => r.1 == t).map fun r => 16 + pad16 (4 * r.2.length)).sum +
  ((c.fence.filter fun r => r.1 == t).map fun r => 16 + pad16 (8 * r.2.length)).sum +
  ((c.trees.filter fun r => r.1 == t).map fun r => 16 + pad16 (8 * r.2.length)).sum +
  ((((c.slot.map (·.2)).getD []).filter fun r : SlotRec => r.tile == t).map fun r : SlotRec => 16 + pad16 (8 * r.items.length)).sum +
  80 * (c.qmap.filter fun r => r.tile == t).length

/-- Section types of a delta that the block's store holds: PANS, PLANS and the die-wide ones. -/
def blockTypes : List Nat := [0x05, 0x07, 0x0B, 0x0C, 0x0E, 0x0F, 0x11, 0x15, 0x16]

/-- Bytes of a loaded delta that the block's store holds. -/
def blockStore (ws : List Word) : Nat :=
  (((directory (imgBytes ws)).filter fun e => blockTypes.contains e.type).map (·.len)).sum

/-- The stages that are READY, but for `tgt`. -/
def State.readyStages (s : State) (tgt : Nat) : List Target :=
  ((s.img.targets.filter fun e => e.1 != tgt && decide (1 ≤ e.1) && e.2.state == 2).map (·.2))

/-- Whether a delta finds room beside the other stages. -/
def State.storeOk (s : State) (tgt : Nat) (c : Sections) (ws : List Word) : Bool :=
  let others := s.readyStages tgt
  (s.tiles.all fun t => decide (c.tileStore t + (others.map fun x => (x.secs.map fun y => y.tileStore t).getD 0).sum ≤ 16384)) &&
  decide (blockStore ws + (others.map fun x => blockStore x.words).sum ≤ 1048576)

/-! ## The whole check -/

/-- Why a load fails: ERR, TYPE and RECORD (R446, R450). -/
structure ImgFail where
  err : Nat
  type : Nat
  record : Nat
  deriving DecidableEq, Repr

/-- The first section, in the directory's order, that breaks a rule. -/
def State.firstBadSection (s : State) (c : Sections) : Option ImgFail :=
  c.types.findSome? fun t => (s.sectionBad c t).map fun k => { err := 4, type := t, record := min k 65535 }

/-- The checks of R435 on the words of target `tgt`: the sections, or the first failure. -/
def State.checkImage (s : State) (tgt len : Nat) (ws : List Word) : ImgFail ⊕ Sections :=
  let bs := imgBytes ws
  if imgCrc bs ≠ hdrCrc bs then .inl { err := 1, type := 0, record := 0 }
  else if !s.headerOk tgt len bs then .inl { err := 2, type := 0, record := 0 }
  else if !directoryOk (hdrKind bs) len (directory bs) (hdrNsec bs) then .inl { err := 3, type := 0, record := 0 }
  else
    match sectionsOf s.build bs with
    | none => .inl { err := 3, type := 0, record := 0 }
    | some c =>
      if tgt ≠ 0 ∧ !c.types.contains 0x15 then .inl { err := 4, type := 0x15, record := 0 }
      else
        match s.firstBadSection c with
        | some f => .inl f
        | none =>
          if !s.treesKept c then .inl { err := 4, type := if c.types.contains 0x0A then 0x0A else 0x0B, record := 0 }
          else if tgt ≠ 0 ∧ !s.storeOk tgt c ws then .inl { err := 5, type := 0, record := 0 }
          else if tgt ≠ 0 ∧ c.base ≠ s.img.act.seq then .inl { err := 6, type := 0, record := 0 }
          else .inr c

end Sys2Proof.Machine
end

