-- ==== Sys2Proof/Machine/Pans.lean ====
section
/-! DEFINITION. Re-shaping pans: arming and cancelling, the drain, and the commit that ends what is live, switches the tables in and
clears the tiles that change hands; pan resets (R411 to R416, R425, R438, R572). -/

namespace Sys2Proof.Machine

/-! ## Arming (R412, R425, R438, R572) -/

/-- The PAN registers of window `w` (R420 to R425). -/
def State.panWin (s : State) (w : Nat) : PanWin := Tab.get PanWin.init s.pans.wins w

/-- The PAN registers of window `w` are changed by `f`. -/
def State.modPanWin (s : State) (w : Nat) (f : PanWin → PanWin) : State :=
  { s with pans := { s.pans with wins := s.pans.wins.set w (f (s.panWin w)) } }

/-- An image target: 0 the full shadow, k + 1 stage k (R445). -/
def State.target (s : State) (k : Nat) : Target := Tab.get default s.img.targets k

/-- The pan set of a target's contents. -/
def Target.panset (x : Target) : List Nat := (x.secs.map (·.panset)).getD []

/-- A window may arm switches of these pans (R412, R417, R578). -/
def State.armRight (s : State) (w : Nat) (pans : List Nat) : Bool := w == 0 || (s.hasArm w && pans.all (s.mayPan w))

/-- A full image switch-over is pending. -/
def State.fullPending (s : State) : Bool := s.img.switches.any fun w => w.id == .full

/-- A switch for one of these pans is pending. -/
def State.panBusy (s : State) (pans : List Nat) : Bool := s.img.switches.any fun w => w.panset.any fun p => pans.contains p

/-- Section types that two armed stages may both carry (R438). -/
def sharedTypes : List Nat := [0x05, 0x06, 0x08, 0x09, 0x0A, 0x0B, 0x0D, 0x15]

/-- Another armed stage carries a section type that this one may not share. -/
def State.typesClash (s : State) (k : Nat) : Bool :=
  let types (j : Nat) : List Nat := ((s.target (j + 1)).secs.map (·.types)).getD []
  s.img.switches.any fun w => match w.id with
    | .stage j => j != k && (types j).any fun t => !sharedTypes.contains t && (types k).contains t
    | _ => false

/-- The rows of R412 that the drain tick and length fall under. -/
def State.drainCode (s : State) (ts d : Nat) (busy : Bool) : Nat :=
  if d = 0 ∨ 10000 < d then rError else if ts < s.entryCount.toNat + 16 then rStale else if busy then rBusy else rOk

/-- The groups with a collective live at a member or root of the die. -/
def State.liveGroups (s : State) : List Group :=
  let ids := (s.stops.flatMap fun e => (e.2.co.live.map (·.group)) ++ e.2.co.roots.map (·.group)).eraseDups
  s.img.act.groups.filter fun g => ids.contains g.id

/-- The trees that a group's plans name (R231). -/
def Group.trees (g : Group) : List Nat := ((g.plans.flatMap fun p => [p.resultTree, p.ctlTree]) ++ g.sources.map (·.2)).eraseDups

/-- Formats that live collectives of a group name, in the control word or in a contribution (R171). -/
def State.liveFmts (s : State) (g : Group) : List Nat :=
  (Acw.ofWord g.acw).rfmt :: (s.stops.flatMap fun e => (e.2.co.live.filter fun m => m.group == g.id).map (·.fmt))

/-- Sections that would change the plan, trees, record or a format of a group with a live collective (R171, R235). Those of the pans of the
set are no obstacle, since the commit ends their collectives first (R414). -/
def State.collBusy (s : State) (c : Sections) : Bool :=
  let gs := s.liveGroups.filter fun g => !c.panset.contains g.pan
  !gs.isEmpty &&
    let a := s.applied c
    gs.any fun g =>
      (a.img.act.groups.find? fun x => x.id == g.id) != some g ||
      (g.trees.any fun k => s.tiles.any fun t => s.treeEntry t k != a.treeEntry t k) ||
      (s.liveFmts g).any fun f => fmtWord s.img.act.formats f != fmtWord a.img.act.formats f

/-- The code of a GO for stage `k` (R171, R235, R412). -/
def State.goCode (s : State) (k ts d : Nat) : Nat :=
  let x := s.target (k + 1)
  if x.state ≠ 2 then rError
  else s.drainCode ts d (s.panBusy x.panset || s.fullPending || s.typesClash k || (s.img.switches.any fun w => w.id == .stage k) ||
    (x.secs.any s.collBusy))

/-- A write of a PAN register that a window's rights over pans admit (R417, R595). -/
def panWrite (q : Req) (right : Bool) (f : State → State × Nat) (s : State) : State :=
  if right then ctlWrite q false false f s else s.replyW q rDenied

/-- `DRAIN` and `STAGE` of a PAN_ARM write (R425). -/
def armDrain (w : Word) : Nat := (w.extractLsb' 16 14).toNat
def armStage (w : Word) : Nat := (w.extractLsb' 0 2).toNat

/-- PAN_ARM_GO (R412, R425). -/
def execPanArmGo (q : Req) (s : State) : Host.Outcome State Fault Refusal :=
  if q.wdata.getLsbD 31 then
    let w := q.win.toNat
    let k := armStage q.wdata
    let d := armDrain q.wdata
    ctlAct 0x30018 q s (panWrite q (s.armRight w (s.target (k + 1)).panset) fun s =>
      let ts := (s.panWin w).arm.toNat
      let c := s.goCode k ts d
      if c = rOk then
        let s1 := s.modPanWin w fun x => { x with drain := d, stage := k }
        ({ s1 with img := { s1.img with switches := s1.img.switches ++
            [{ id := .stage k, ts := ts, d := d, panset := (s.target (k + 1)).panset, draining := false, win := w }] } }, rOk)
      else (s, c))
  else .next s

/-- A pending switch is cancelled while its T_s is at least 16 tk ahead, and otherwise refused with BUSY (R425). -/
def State.cancelSwitch (s : State) (id : SwId) : State × Nat :=
  match s.img.switches.find? fun w => w.id == id with
  | none => (s, rOk)
  | some w =>
    if s.entryCount.toNat + 16 ≤ w.ts then ({ s with img := { s.img with switches := s.img.switches.filter fun x => x.id != id } }, rOk) else (s, rBusy)

/-- What a stage's PAN_SW_STAT holds (R426). -/
def State.modSwStat (s : State) (k : Nat) (f : SwStat → SwStat) : State :=
  { s with img := { s.img with swStat := s.img.swStat.set k (f (Tab.get default s.img.swStat k)) } }

/-- PAN_ARM_CANCEL (R425). -/
def execPanArmCancel (q : Req) (s : State) : Host.Outcome State Fault Refusal :=
  if q.wdata.getLsbD 30 && !q.wdata.getLsbD 31 then
    let w := q.win.toNat
    let k := armStage q.wdata
    ctlAct 0x30018 q s (panWrite q (s.armRight w (s.target (k + 1)).panset) fun s =>
      let was := s.img.switches.any fun w => w.id == .stage k
      let r := s.cancelSwitch (.stage k)
      let s1 := r.1.modPanWin w fun x => { x with drain := armDrain q.wdata, stage := k }
      if r.2 ≠ rOk then r else if was then (s1.modSwStat k fun x => { x with last := 2 }, rOk) else (s1, rOk))
  else .next s

/-- PAN_RESET_ARM (R572, R578): T_s and D are those of PAN_ARM. -/
def execPanResetArm (q : Req) (s : State) : Host.Outcome State Fault Refusal :=
  if q.wdata.getLsbD 31 then
    let w := q.win.toNat
    let p := (q.wdata.extractLsb' 0 8).toNat
    ctlAct 0x30020 q s (panWrite q (s.armRight w [p]) fun s =>
      let x := s.panWin w
      let here := match s.pan? p with | some r => s.panHere r | none => false
      let c := if here then s.drainCode x.arm.toNat x.drain (s.panBusy [p] || s.fullPending) else rError
      if c = rOk then
        let s1 := s.modPanWin w fun y => { y with rstPan := BitVec.ofNat 8 p }
        ({ s1 with img := { s1.img with switches := s1.img.switches ++
            [{ id := .reset p, ts := x.arm.toNat, d := x.drain, panset := [p], draining := false, win := w }] } }, rOk)
      else (s, c))
  else .next s

/-! ## The drain (R413) -/

/-- From T_s a switch's pans are in DRAIN (R413). -/
def State.drainStart (s : State) (w : SwId) : State :=
  let start (x : Switch) : Switch := if x.id == w then { x with draining := true } else x
  { s with img := { s.img with switches := s.img.switches.map start } }

/-- The pending switch `w`. -/
def State.switch? (s : State) (w : SwId) : Option Switch := s.img.switches.find? fun x => x.id == w

/-- PAN_DRAIN_START (R413): at phase 0 of T_s. -/
def execPanDrainStart (w : SwId) (s : State) : Host.Outcome State Fault Refusal :=
  fabAct s fun s => if (s.switch? w).any fun x => s.atTick x.ts then s.drainStart w else s

/-! ## The commit (R414) -/

/-- The pan of a tile, by id. -/
def State.panIdOf (s : State) (t : Nat) : Option Nat := (s.tilePan t).map (·.id)

/-- A tile of a pan of the set, in the shape of `s` or in that of `a`. -/
def affected (s a : State) (ps : List Nat) : List Nat :=
  let isIn : Option Nat → Bool := fun o => match o with | some p => ps.contains p | none => false
  s.tiles.filter fun t => isIn (s.panIdOf t) || isIn (a.panIdOf t)

/-- A collective's group belongs to a pan of the set. -/
def State.collOf (s : State) (ps : List Nat) (coll : Nat) : Bool :=
  match s.groupOf coll with
  | some g => ps.contains g.pan
  | none => false

/-- Collectives of the pans live at a tile, at its SI or in a root record (R414). -/
def State.liveColls (s : State) (ps : List Nat) (t : Nat) : List (Nat × Word) :=
  let c := (s.stop t).co
  ((c.live.map fun m => (m.coll, m.sig)) ++ c.roots.map fun r => (r.coll, r.sig)).filter fun x => s.collOf ps x.1

/-- The last L that a member's tile knows of its collective (R414): its root record's, its deputy's, or the last REPLAY order's. -/
def State.knownL (s : State) (t : Nat) (m : CollM) : Nat :=
  match (s.stop t).co.roots.find? fun r => r.coll == m.coll && r.sig == m.sig with
  | some r => r.l
  | none =>
    match (s.stop t).co.deps.find? fun d => d.coll == m.coll && d.sig == m.sig with
    | some d => max d.l m.known
    | none => m.known

/-- Step 1 at one tile: live collectives of the pans end ABORTED, and root records are freed. A tile of another pan, or of none, may hold a
root record too. -/
def State.endColls (s : State) (ps : List Nat) (t : Nat) : State :=
  if (s.liveColls ps t).isEmpty && (s.stop t).co.deps.isEmpty then s
  else
  let s1 := ((s.stop t).co.live.filter fun m => s.collOf ps m.coll).foldl (fun s m => s.memberEnd t m 3 (s.knownL t m) 0 0) s
  let s2 := ((s1.stop t).co.roots.filter fun r => s.collOf ps r.coll).foldl (fun s r => s.rootGone t r.coll) s1
  s2.modCo t fun c => { c with deps := c.deps.filter fun d => !s.collOf ps d.coll }

/-- The combine slots and pending entries that ended collectives leave at a tile's CU are freed. -/
def State.freeColls (s : State) (ps : List Nat) (t : Nat) : State :=
  if (s.stop t).cu.slots.isEmpty && (s.stop t).cu.pending.isEmpty then s
  else
    let s1 := (List.range (nSlots s.build)).foldl (fun s' i =>
      let x := s'.slot t i
      if x.state != 0 && x.state != 5 && s.collOf ps x.key.coll then (s'.dropPartial t i).freeSlot t i else s') s
    s1.modCu t fun c => { c with pending := c.pending.filter fun e => !s.collOf ps e.key.coll }

/-- Step 2 at one tile: messages in flight and waiting descriptors of the pans complete with PAN, and their assemblies are freed; with
the number of completions. -/
def State.failPan (s : State) (ps : List Nat) (t : Nat) : State × Nat :=
  let mine (h : BitVec 8) : Bool := ps.contains h.toNat
  let st := s.stop t
  let ms := st.si.msgs.filter fun m => mine m.hdr.pan
  let ds := ms.filter fun m => m.owner == .desc
  let s1 := ds.foldl (fun s m => s.cmpDesc t m nPan) s
  let s2 := ms.foldl (fun s m => s.dropMsg t m.uid) s1
  let rs := st.cr.reqs.filter fun r => mine r.msg.hdr.pan
  let s3 := rs.foldl (fun s r => s.cEnd t r nPan 0 0 0) s2
  let here := match s.panIdOf t with | some p => ps.contains p | none => false
  let ws := if here then st.co.waiting ++ st.cmdq else []
  let s4 := ws.foldl (fun s d => s.cmpXfer t d.kind nPan 0 (if d.kind = 3 then d.cctag else d.ctag) (s.latch t)) s3
  let s5 := (s4.modStop t fun st => { st with cmdq := if here then [] else st.cmdq }).modCo t fun c => { c with
    waiting := if here then [] else c.waiting, relays := c.relays.filter fun r => !mine r.hdr.pan }
  let s6 := (s5.modSi t fun si => { si with asms := si.asms.filter fun a => !mine a.hdr.pan }).modMp t fun m => { m with
    serves := m.serves.filter fun v => v.whole || !mine v.hdr.pan }
  (s6, ds.length + rs.length + ws.length)

/-- Steps 1 and 2 over the die: the state, the collectives ended and the completions with PAN. -/
def State.endPans (s : State) (ps : List Nat) (ts : List Nat) : State × Nat × Nat :=
  let n := (s.tiles.flatMap (s.liveColls ps)).eraseDups.length
  let s1 := s.tiles.foldl (fun s t => s.endColls ps t) s
  let s2 := s1.tiles.foldl (fun s t => s.freeColls ps t) s1
  let r := ts.foldl (fun r t => let x := State.failPan r.1 ps t; (x.1, r.2 + x.2)) (s2, 0)
  (r.1, n, r.2)

/-- CSEQ starts at 0, and the primary plan is in force, for groups that are defined anew (R238, R260). -/
def State.freshGroups (s : State) (gs : List Nat) : State :=
  if gs.isEmpty then s
  else { s with stops := s.stops.map fun e => (e.1, { e.2 with
    co := { e.2.co with cseqs := e.2.co.cseqs.filter fun x => !gs.contains x.1 }
    cu := { e.2.cu with plans := e.2.cu.plans.filter fun x => !gs.contains x.1 } }) }

/-- Step 3: the sections' tables, maps and slot tables come into force at T_c (R144, R414, R437, R441). -/
def State.switchIn (s : State) (c : Sections) (tc : Nat) : State :=
  let s1 := (s.writeShadow c).applied c
  let s2 := if c.kind = 0 ∨ c.slot.isSome then { s1 with slotPend := s1.slotPend ++ [(tc, false)] } else s1
  let s3 := (if c.kind = 0 then s2.tiles else c.qmap.map (·.tile)).foldl (fun s t => s.takeMaps c t) s2
  s3.freshGroups (if c.kind = 0 then (s.img.act.groups ++ c.groups).map (·.id) else c.groups.map (·.id))

/-- What every commit does (R414): steps 1 and 2 at the affected tiles, step 3 as `sw` says, step 4 on each tile whose pan changes, or on
every tile where `all` says so; the pans leave DRAIN, and T_c is kept for R415. With the counts of PAN_SW_STAT. -/
def State.commit (s : State) (w : Switch) (a : State) (all : Bool) (sw : State → State) : State × Nat × Nat :=
  let ts := affected s a w.panset
  let r := s.endPans w.panset ts
  let s1 := sw r.1
  let s2 := ts.foldl (fun s' t => if all || s.panIdOf t != a.panIdOf t then s'.freshTile t else s') s1
  let s3 := { s2 with
    img := { s2.img with switches := s2.img.switches.filter fun x => x.id != w.id }
    pans := { s2.pans with tc := w.panset.foldl (fun x p => x.set p (w.ts + w.d)) s2.pans.tc } }
  (s3.tiles.foldl (fun s t => s.reroute t) s3, r.2)

/-- The switch that is due to commit at T_c: it has drained. -/
def State.dueSwitch (s : State) (id : SwId) : Option Switch := s.img.switches.find? fun w => w.id == id && w.draining

/-- A stage's delta takes effect (R414, R426, R441). -/
def State.commitStage (s : State) (k : Nat) (w : Switch) : State :=
  match (s.target (k + 1)).secs with
  | none => s
  | some c =>
    let r := s.commit w (s.applied c) false fun s => s.switchIn c (w.ts + w.d)
    let s1 := r.1.modSwStat k fun _ => { last := 1, aborted := BitVec.ofNat 8 (min 255 r.2.1), failed := BitVec.ofNat 8 (min 255 r.2.2) }
    { s1 with img := { s1.img with targets := s1.img.targets.del (k + 1) } }.imgEvent w.panset

/-- A pan reset takes effect (R572): every tile of the pan, and CSEQ 0 for its groups. -/
def State.commitReset (s : State) (p : Nat) (w : Switch) : State :=
  let gs := (s.img.act.groups.filter fun g => g.pan == p).map (·.id)
  (s.commit w s true fun s => { s with stops := s.stops.map fun e => (e.1, { e.2 with
    co := { e.2.co with cseqs := e.2.co.cseqs.filter fun x => !gs.contains x.1 } }) }).1

/-- A stage or a pan reset that is due commits; a full image's commit is IMAGE_COMMIT. -/
def State.panCommit (s : State) (w : SwId) : State :=
  match s.dueSwitch w with
  | none => s
  | some x =>
    match w with
    | .stage k => s.commitStage k x
    | .reset p => s.commitReset p x
    | .full => s

/-- It is phase 0 of the T_c of switch `w` (R414). -/
def State.commitTick (s : State) (w : SwId) : Bool := (s.switch? w).any fun x => s.atTick (x.ts + x.d)

/-- PAN_COMMIT (R414): at phase 0 of T_c. -/
def execPanCommit (w : SwId) (s : State) : Host.Outcome State Fault Refusal :=
  fabAct s fun s => if s.commitTick w then s.panCommit w else s

end Sys2Proof.Machine
end

