-- ==== Sys2Proof/Machine/Slots.lean ====
section
/-! DEFINITION. The slot banks' swap and its arming, and the priority and arbitration registers (R144, R145, R151, R159 to
R167). -/

namespace Sys2Proof.Machine

/-- After a swap an entry is ceased only where a port of it is dead still (R151), and every transit balance is 0 (R154). -/
def Router.afterSwap (r : Router) : Router :=
  { r with ceasedPorts := (r.outs.filter fun o => o.2.dead).map (·.1), outs := r.outs.map fun o => (o.1, { o.2 with tbal := 0 }) }

/-- A stop after the swap (R144, R151). -/
def Stop.afterSwap (st : Stop) : Stop := { st with rt := st.rt.afterSwap, si := { st.si with circCeased := [] } }

/-- The banks swap for every output of every stop at once, as every swap scheduled by now asks (R144). -/
def State.swapBanks (s : State) : State :=
  { s with
    slotBank := !s.slotBank, slotPend := s.slotPend.filter fun x => s.now < x.1
    stops := s.stops.map fun e => (e.1, e.2.afterSwap) }

/-- SLOT_BANK_SWAP (R144): at phase 0 of the first tick that is a multiple of 64, at or after a tick scheduled. -/
def execSlotBankSwap (s : State) : Host.Outcome State Fault Refusal :=
  fabAct s fun s =>
    if s.now % 64 = 0 ∧ s.tide.phase = 0 ∧ (s.slotPend.any fun x => decide (x.1 ≤ s.now ∧ s.now < x.1 + 64)) = true then s.swapBanks else s

/-- A pending re-shape that ends in a bank swap: a full image, or a delta that carries a slot section (R144). -/
def State.swapComing (s : State) : Bool :=
  !s.slotPend.isEmpty ||
  s.img.switches.any fun w => match w.id with
    | .full => true
    | .stage k => (match (Tab.get default s.img.targets (k + 1)).secs with | some c => c.slot.isSome | none => false)
    | .reset _ => false

/-- The code of an ARM for tick `t` (R145). -/
def State.slotArmCode (s : State) (t : Nat) : Nat :=
  if t % 64 ≠ 0 then rError else if t < s.entryCount.toNat + 16 then rStale else if s.swapComing then rBusy else rOk

/-- A write of BLK_SLOT_CTL with the bit `b` set (R167); a write without it is another row's. -/
def slotCtlForm (b : Bool) (q : Req) (s : State) (f : State → State × Nat) : Host.Outcome State Fault Refusal :=
  if b then ctlAct 0x48 q s (ctlWrite q true false f) else .next s

/-- SLOT_ARM (R145). -/
def execSlotArm (q : Req) (s : State) : Host.Outcome State Fault Refusal :=
  slotCtlForm (q.wdata.getLsbD 0) q s fun s =>
    let t := s.ctrl.slotAt.toNat
    let c := s.slotArmCode t
    (if c = rOk then { s with slotPend := s.slotPend ++ [(t, true)] } else s, c)

/-- SLOT_CANCEL (R167). -/
def execSlotCancel (q : Req) (s : State) : Host.Outcome State Fault Refusal :=
  slotCtlForm (q.wdata.getLsbD 1 && !q.wdata.getLsbD 0) q s fun s =>
    match s.slotPend.find? (·.2) with
    | none => (s, if s.swapComing then rBusy else rOk)
    | some (t, _) =>
      if s.entryCount.toNat + 16 ≤ t then ({ s with slotPend := s.slotPend.filter fun x => !x.2 }, rOk) else (s, rBusy)

/-- A value on its way to the arbiters, the values that have been overtaken left out (R159, R162). -/
def delay (h : List Delayed) (ft : Nat) (reset v : Word) : List Delayed :=
  { value := effective h ft reset, at_ := ft } :: h.filter (fun d => ft < d.at_) ++ [{ value := v, at_ := ft + 4 }]

/-- A write of STOP_PRIO (R159, R161): reserved bits stay 0. -/
def State.setPrio (s : State) (t : Nat) (v : Word) : State :=
  let w := v &&& 0xFFFF
  s.modRt t fun r => { r with prio := w, prioNext := delay r.prioNext s.ft 0 w }

/-- STOP_PRIO_WRITE (R159). -/
def execStopPrioWrite (t : Nat) (m : CMsg) (s : State) : Host.Outcome State Fault Refusal :=
  atTile t s fun s => stopWrite t 0x300 m s fun s => (s.setPrio t (regData m), rOk)

/-- A write of STOP_ARB (R162), with its code. -/
def State.setArb (s : State) (t : Nat) (v : Word) : State × Nat :=
  let b := (v.extractLsb' 16 5).toNat
  if b = 0 ∨ 16 < b then (s, rError)
  else
    let w := v &&& 0x801F0000
    (s.modRt t fun r => { r with arb := w, arbNext := delay r.arbNext s.ft 0x00040000 w }, rOk)

/-- STOP_ARB_WRITE (R162). -/
def execStopArbWrite (t : Nat) (m : CMsg) (s : State) : Host.Outcome State Fault Refusal :=
  atTile t s fun s => stopWrite t 0x304 m s fun s => s.setArb t (regData m)

end Sys2Proof.Machine
end

