-- ==== Sys2Proof/Machine/Image.lean ====
section
/-! DEFINITION. Loading images and deltas, their checks, and the switch-over of a full image or of the field data (R435, R436, R439 to
R444). -/

namespace Sys2Proof.Machine

/-- The image unit is changed by `f`. -/
def State.modImg (s : State) (f : Img → Img) : State := { s with img := f s.img }

/-- A target is changed by `f`. -/
def State.modTarget (s : State) (k : Nat) (f : Target → Target) : State := s.modImg fun i => { i with targets := i.targets.set k (f (s.target k)) }

/-- The switch of a target: the full one, or its stage's. -/
def targetSwitch (k : Nat) : SwId := if k = 0 then .full else .stage (k - 1)

/-- A switch of the target is armed or pending. -/
def State.targetArmed (s : State) (k : Nat) : Bool := s.img.switches.any fun w => w.id == targetSwitch k

/-- The target that is LOADING, if one is. -/
def State.loadingTarget (s : State) : Option Nat := (List.range 5).find? fun k => (s.target k).state == 1

/-- `CMD` and `TGT` of an IMG_CMD write (R445). -/
def imgCmd (w : Word) : Nat := (w.extractLsb' 0 4).toNat
def imgTgt (w : Word) : Nat := (w.extractLsb' 4 3).toNat

/-- A write of IMG_CMD with command `cmd`; a write with another is another row's. -/
def imgCmdForm (cmd : Nat) (q : Req) (s : State) (f : State → State × Nat) : Host.Outcome State Fault Refusal :=
  if imgCmd q.wdata = cmd then ctlAct 0x20000 q s (ctlWrite q true false f) else .next s

/-! ## Loading (R435, R436) -/

/-- A byte count that R429 allows: a multiple of 16, with one section at the least. -/
def imgLenOk (n : Nat) : Bool := n % 16 == 0 && decide (80 ≤ n ∧ n ≤ 33554432)

/-- The code of a LOAD (R436, R445). -/
def State.loadCode (s : State) (k : Nat) : Nat :=
  if 5 ≤ k then rError
  else if s.loadingTarget.isSome || s.targetArmed k then rBusy
  else if !imgLenOk s.img.lenReg.toNat then rError
  else rOk

/-- IMG_LOAD (R435, R436). -/
def execImgLoad (q : Req) (s : State) : Host.Outcome State Fault Refusal :=
  imgCmdForm 1 q s fun s =>
    let k := imgTgt q.wdata
    let c := s.loadCode k
    (if c = rOk then s.modTarget k fun _ => { state := 1, len := s.img.lenReg.toNat, words := [], secs := none } else s, c)

/-- Whether the words of an image so far show a SLOT section in its directory. -/
def showsSlot (ws : List Word) : Bool :=
  let bs := imgBytes (ws.take 144)
  decide (26 ≤ bs.length) && (List.range (min 32 (hdrNsec bs))).any fun i => decide (66 + 16 * i ≤ bs.length) && leAt bs (64 + 16 * i) 2 == 0x09

/-- IMG_DATA_WRITE (R435, R436): one word more of the image that is loading. -/
def execImgDataWrite (q : Req) (s : State) : Host.Outcome State Fault Refusal :=
  ctlAct 0x2000C q s (ctlWrite q true false fun s =>
    match s.loadingTarget with
    | none => (s, rError)
    | some k =>
      let x := s.target k
      if x.len ≤ 4 * x.words.length then (s, rError)
      else if showsSlot x.words && s.swapComing then (s, rBusy)
      else (s.modTarget k fun x => { x with words := x.words ++ [q.wdata] }, rOk))

/-- A load has failed (R435, R446, R450): the target is FAILED and empty. -/
def State.loadFailed (s : State) (k : Nat) (e : ImgFail) : State :=
  ((s.modTarget k fun x => { x with state := 3, words := [], secs := none }).modImg fun i => { i with
    err := e.err, errTgt := k, errType := e.type, errRec := e.record }).imgEvent []

/-- A load has passed every check (R435): READY, with its slot tables in the shadow banks (R144, R437). -/
def State.loadReady (s : State) (k : Nat) (c : Sections) : State :=
  ((s.modTarget k fun x => { x with state := 2, secs := some c }).writeShadow c).imgEvent []

/-- IMAGE_CHECK_COMPLETE (R435): once the last word has come. -/
def execImageCheckComplete (s : State) : Host.Outcome State Fault Refusal :=
  fabAct s fun s =>
    match s.loadingTarget with
    | none => s
    | some k =>
      let x := s.target k
      if 4 * x.words.length = x.len then
        match s.checkImage k x.len x.words with
        | .inl e => s.loadFailed k e
        | .inr c => s.loadReady k c
      else s

/-- IMG_DISCARD (R436, R446). -/
def execImgDiscard (q : Req) (s : State) : Host.Outcome State Fault Refusal :=
  imgCmdForm 5 q s fun s =>
    let k := imgTgt q.wdata
    if 5 ≤ k then (s, rError)
    else if s.targetArmed k then (s, rBusy)
    else
      let s1 := if (s.target k).state = 1 then s.modImg fun i => { i with err := 7, errTgt := k, errType := 0, errRec := 0 } else s
      (s1.modImg fun i => { i with targets := i.targets.del k }, rOk)

/-! ## Arming (R439, R444) -/

/-- The code of a SWITCH (R439). -/
def State.switchCode (s : State) : Nat :=
  if (s.target 0).state ≠ 2 then rError
  else s.drainCode s.img.at_.toNat s.img.drain (!s.img.switches.isEmpty || !s.slotPend.isEmpty)

/-- IMG_SWITCH (R439): a re-shape of every pan of the active image and of the new one. -/
def execImgSwitch (q : Req) (s : State) : Host.Outcome State Fault Refusal :=
  imgCmdForm 2 q s fun s =>
    let c := s.switchCode
    if c = rOk then
      let new := ((s.target 0).secs.map (·.pans)).getD []
      let ps := ((s.img.act.pans ++ new).map (·.id)).eraseDups
      (s.modImg fun i => { i with switches := i.switches ++
        [{ id := .full, ts := i.at_.toNat, d := i.drain, panset := ps, draining := false, win := 0 }] }, rOk)
    else (s, c)

/-- IMG_CANCEL (R439). -/
def execImgCancel (q : Req) (s : State) : Host.Outcome State Fault Refusal :=
  imgCmdForm 3 q s fun s =>
    let was := s.fullPending
    let r := s.cancelSwitch .full
    if was && r.2 == rOk then (r.1.modImg fun i => { i with last := 2 }, rOk) else r

/-- IMG_RESTORE_FACTORY (R444). -/
def execImgRestoreFactory (q : Req) (s : State) : Host.Outcome State Fault Refusal :=
  imgCmdForm 4 q s fun s =>
    if s.img.at_.toNat < s.entryCount.toNat + 16 then (s, rStale)
    else if !s.img.switches.isEmpty || !s.slotPend.isEmpty then (s, rBusy)
    else (s.modImg fun i => { i with factoryAt := some i.at_.toNat }, rOk)

/-! ## Switch-over (R440, R444) -/

/-- The field repair entries become `rep` (R13, R15, R16): a row whose removed column changes is held for its new map. -/
def State.newRepair (s : State) (rep : List (Option Nat)) : State :=
  (List.range 16).foldl (fun s y =>
    let r := s.row y
    let f := nth none rep y
    let col := s.colUnder rep y
    let src := if r.fuse.isSome then 1 else if f.isSome then 2 else 0
    let hold : Option RowHold := if col = r.col then none else some { col := col, src := src, deadline := s.ft + 2 * msFc }
    if f = r.field ∧ hold.isNone ∧ r.hold.isNone then s
    else s.setRow y { r with field := f, src := if col = r.col then src else r.src, hold := hold }) s

/-- Links whose role or far end is no longer what `old` gave go through DOWN with reason 2 (R440). -/
def State.newLinks (s : State) (old : Nat → LinkRec) : State :=
  s.allLinks.foldl (fun s n =>
    let a := old n
    let b := s.linkRec n
    let st := (s.link n).state
    if (a.role ≠ b.role ∨ a.far ≠ b.far) ∧ (1 ≤ st ∧ st ≤ 5 ∨ st = 8) then s.linkDown n 2 else s) s

/-- TRC_PASS changes (R509). -/
def State.setPass (s : State) (b : Bool) : State :=
  if s.start.trcPass = b then s else { s with start := { s.start with trcPass := b } }.emit (.pin "TRC_PASS" b)

/-- Reference mode and the trace set-up of the image take effect (R9, R440, R504, R513): the rake starts afresh, or is off where the sink
is. -/
def State.traceSetup (s : State) : State :=
  let t := s.img.act.trace
  let on := t.sink != 0 && !s.start.rakeBad
  let s1 := { s with refMode := t.refMode }.modRake fun r => { r with
    state := if on then 1 else 0, armed := on, muting := false, wrapped := false, wp := 0, mirrorSeq := 0, postLeft := 0 }
  if t.sink = 2 then s1 else s1.setPass false

/-- Fence route sets in force give way to the image's tables, and R117 starts afresh (R440): a router that is still fenced, the lowest where
there are several (DESIGN CHOICE, log entry 1140), takes its set of the new image, and packets that face it wait for that (R115). -/
def State.newFenceSets (s : State) : State :=
  let s1 : State := { s with
    flt := { s.flt with fenceSet := none, fenceUsed := false, setTiles := [] }
    stops := s.stops.map fun e => (e.1, { e.2 with ro := { e.2.ro with shadowRoute := [], shadowTree := [], setActive := false, setRoute := [] } }) }
  match s1.tiles.find? fun t => (s1.stop t).ro.routerFenced with
  | some t => s1.armFenceSet t
  | none => s1

/-- A full image switches in (R414, R439, R440). -/
def State.commitFull (s : State) (w : Switch) (c : Sections) : State :=
  let field := c.repair.isSome || c.calib.isSome
  let old := s.linkRec
  let r := s.commit w (s.applied c) false fun s => (s.switchIn c (w.ts + w.d)).newFenceSets
  let s1 := r.1.modImg fun i => { i with targets := [], last := 1, factory := i.factory && !field }
  (((s1.newRepair (c.repair.getD [])).newLinks old).traceSetup).imgEvent w.panset

/-- A full image that is due commits (R440). -/
def State.imageCommit (s : State) : State :=
  match s.dueSwitch .full, (s.target 0).secs with
  | some w, some c => s.commitFull w c
  | _, _ => s

/-- IMAGE_COMMIT (R440): at phase 0 of T_c of the full image. -/
def execImageCommit (s : State) : Host.Outcome State Fault Refusal :=
  fabAct s fun s => if s.commitTick .full then s.imageCommit else s

/-- A factory restore takes place: the field data goes back to the fuses' and defaults (R444). -/
def State.factoryTick (s : State) : State :=
  if s.img.factoryAt.isSome then
    ((s.modImg fun i => { i with factoryAt := none, factory := true, act := { i.act with repair := [], calib := [] } }).newRepair []).imgEvent []
  else s

/-- FACTORY_RESTORE_TICK (R444): at phase 0 of the tick named. -/
def execFactoryRestoreTick (s : State) : Host.Outcome State Fault Refusal :=
  fabAct s fun s => if s.img.factoryAt.any s.atTick then s.factoryTick else s

end Sys2Proof.Machine
end

