-- ==== Sys2Proof/Machine/Power.lean ====
section
/-! DEFINITION. The current budget arbiter and the PWR ports (R546 to R562). -/

namespace Sys2Proof.Machine

/-- The power state is changed by `f`. -/
def State.modPwr (s : State) (f : Power → Power) : State := { s with pwr := f s.pwr }

/-! ## Requesters (R546, R547) -/

/-- Link groups of the build, and the links of each (R546). -/
def linkGroups : Build → Nat
  | .hfE => 32
  | .hfS => 64
def groupLinks (b : Build) (g : Nat) : List Nat :=
  match b with
  | .hfE => [2 * g, 2 * g + 1]
  | .hfS => [4 * g, 4 * g + 1, 4 * g + 2, 4 * g + 3]

/-- The requesters that exist, in ascending id (R546). -/
def State.requesters (s : State) : List Nat :=
  (s.tiles.filter fun t => s.clientKind t != 0) ++ (List.range (linkGroups s.build)).map (4096 + ·) ++ (List.range 16).map (8192 + ·) ++ [12288]

/-- The record of a requester in the image in force: floor and weight. -/
def State.pwrRec (s : State) (id : Nat) : Option (Nat × Nat) := (s.img.act.power.find? fun r => r.1 == id).map fun r => (r.2.1, r.2.2.1)

/-- The full-power current of a link group's links. -/
def State.groupFull (s : State) (g : Nat) : Nat := ((groupLinks s.build g).map (Config.fuseLinkCurrent s.start.fuses)).sum

/-- The defaults of R547: floor and weight. -/
def State.pwrDefault (s : State) (id : Nat) : Nat × Nat :=
  match id / 4096 with
  | 0 => (8, 16)
  | 1 => (s.groupFull (id % 4096), 0)
  | 2 => (Config.fuseCuFull s.start.fuses (id % 4096) / 4, 8)
  | _ => (Config.fuseReserve s.start.fuses, 0)

/-- The floor and the weight of a requester. -/
def State.pwrFloor (s : State) (id : Nat) : Nat := ((s.pwrRec id).getD (s.pwrDefault id)).1
def State.pwrWeight (s : State) (id : Nat) : Nat := ((s.pwrRec id).getD (s.pwrDefault id)).2

/-- A link draws its full power (R547): TRAIN to ACTIVE, or TEST. -/
def Link.drawing (l : Link) : Bool := decide (2 ≤ l.state ∧ l.state ≤ 5) || l.state == 8

/-- A combine unit of row `y` has a slot that is not FREE (R547). -/
def State.rowBusy (s : State) (y : Nat) : Bool :=
  (List.range (cols s.build)).any fun x => (s.stop (tileId x y)).cu.slots.any fun e => e.2.state != 0

/-- The requester's entry. -/
def State.pwrReq (s : State) (id : Nat) : PwrReq := Tab.get default s.pwr.reqs id

/-- The demand of a requester (R547). -/
def State.pwrDemand (s : State) (id : Nat) : Nat :=
  let k := id % 4096
  match id / 4096 with
  | 0 => (s.pwrReq id).req
  | 1 => (((groupLinks s.build k).filter fun n => (s.link n).drawing).map (Config.fuseLinkCurrent s.start.fuses)).sum
  | 2 => if s.rowBusy k then Config.fuseCuFull s.start.fuses k else Config.fuseCuIdle s.start.fuses k
  | _ => s.pwrFloor id

/-- The ramp limit in A/µs (R547). -/
def State.ramp (s : State) : Nat :=
  match s.img.act.power with
  | r :: _ => if r.2.2.2 = 0 then 40 else r.2.2.2
  | [] => 40

/-! ## Allocation (R550) -/

/-- A requester's share: id, floor, extra want, weight and what it has been given. -/
structure Share where
  id : Nat
  f : Nat
  e : Nat
  w : Nat
  x : Nat

/-- The requester still takes part. -/
def Share.active (a : Share) : Bool := decide (a.x < a.e ∧ 0 < a.w)

/-- One round: the pool `q` is shared by weight among those who take part, in ascending id. -/
def allocRound (l : List Share) (pool : Nat) : List Share × Nat :=
  let wsum := ((l.filter Share.active).map (·.w)).sum
  l.foldl (fun r a =>
    if a.active then
      let k := min (a.e - a.x) (pool * a.w / wsum)
      (r.1 ++ [{ a with x := a.x + k }], r.2 - k)
    else (r.1 ++ [a], r.2)) ([], pool)

/-- At most `n` rounds. -/
def allocRounds : Nat → List Share → Nat → List Share
  | 0, l, _ => l
  | n + 1, l, pool =>
    if 0 < pool ∧ l.any Share.active = true then
      let r := allocRound l pool
      allocRounds n r.1 r.2
    else l

/-- The targets for a budget: each requester with its target (R550). -/
def State.targets (s : State) (ids : List Nat) (b : Nat) : List (Nat × Nat) :=
  let l : List Share := ids.map fun id =>
    { id := id, f := s.pwrFloor id, e := s.pwrDemand id - s.pwrFloor id, w := s.pwrWeight id, x := 0 }
  (allocRounds 4 l (b - (l.map (·.f)).sum)).map fun a => (a.id, a.f + a.x)

/-! ## Moving the grants (R551) -/

/-- Grants above their targets fall at once. -/
def fall (g : Tab Nat) (ts : List (Nat × Nat)) : Tab Nat := ts.map fun t => (t.1, min (Tab.get 0 g t.1) t.2)

/-- Rises are served in the order given from `left`; with the last requester that received one. -/
def rise (g : Tab Nat) (last : Option Nat) (left : Nat) : List (Nat × Nat) → Tab Nat × Option Nat
  | [] => (g, last)
  | (id, t) :: ts =>
    let k := min (t - Tab.get 0 g id) left
    if k = 0 then rise g last left ts else rise (g.set id (Tab.get 0 g id + k)) (some id) (left - k) ts

/-- The order of the rises: from the first id above the last that received one. -/
def riseOrder (last : Option Nat) (ts : List (Nat × Nat)) : List (Nat × Nat) :=
  match last with
  | none => ts
  | some k => (ts.filter fun t => decide (k < t.1)) ++ ts.filter fun t => decide (t.1 ≤ k)

/-- The grants after an evaluation (R549 to R551, R557): at their floors at the first one and while no budget has been taken. -/
def State.newGrants (s : State) (ids : List Nat) : Tab Nat × Option Nat :=
  let floors : Tab Nat := ids.map fun id => (id, s.pwrFloor id)
  if !s.pwr.started || !s.pwr.valid then (floors, s.pwr.lastRise)
  else
    let g0 : Tab Nat := ids.map fun id => (id, match Tab.get? s.pwr.reqs id with | some r => r.grant | none => s.pwrFloor id)
    let ts := s.targets ids s.pwr.budget.toNat
    rise (fall g0 ts) s.pwr.lastRise (s.ramp * 4) (riseOrder s.pwr.lastRise ts)

/-! ## Delivery (R552, R557) -/

/-- The payload of a PWR message (R552). -/
def pwrBytes (dir id use_ amt floor : Nat) (slow : Bool) : List Byte :=
  bytesOf 16 (dir * 2 ^ 124 + id % 65536 * 2 ^ 96 + use_ % 65536 * 2 ^ 80 + amt % 65536 * 2 ^ 64 + floor % 8 * 2 ^ 61 + b2n slow * 2 ^ 60)

/-- A grant message to the stop at `t`. -/
def State.pwrSend (s : State) (t : Nat) : State :=
  let r := s.pwrReq t
  let g := if s.clientKind t = 0 then 0 else r.grant
  let slow := s.clientKind t != 0 && r.slow
  (s.cSend ctlTile (s.blockMsg ctlTile 0xD s.node t 0 (pwrBytes 2 t 0 g s.pwr.sfloor slow))).modPwr fun p => { p with
    reqs := if s.clientKind t = 0 then p.reqs else p.reqs.set t { r with sentG := r.grant, sentSlow := r.slow } }

/-- Grant messages to every stop whose G, SFLOOR or SLOW has changed since the last, those that lower a grant first; none moves while
the chip is held (R552, R557). -/
def State.sendGrants (s : State) : State :=
  if s.running then
    let due (t : Nat) : Bool :=
      let r := s.pwrReq t
      s.pwr.sfloor != s.pwr.sentFloor || (s.clientKind t != 0 && (r.grant != r.sentG || r.slow != r.sentSlow))
    let lowers (t : Nat) : Bool := s.clientKind t != 0 && decide ((s.pwrReq t).grant < (s.pwrReq t).sentG)
    let ts := s.tiles.filter due
    (((ts.filter lowers) ++ ts.filter fun t => !lowers t).foldl (fun s t => s.pwrSend t) s).modPwr fun p => { p with sentFloor := p.sfloor }
  else s

/-! ## Over budget (R555, R556) -/

/-- The accounted draw: what the cores report, and what types 1 to 3 are granted. -/
def State.accounted (s : State) (ids : List Nat) : Nat :=
  (ids.map fun id => if id < 4096 then (s.pwrReq id).use_ else (s.pwrReq id).grant).sum

/-- A swap is under way: the receiver still maps a logical lane to a lane that has failed (R350). -/
def Link.swapping (l : Link) : Bool := (l.lane l.rx0).rxst == 3 || (l.lane l.rx1).rxst == 3

/-- A link whose spare lanes are to be in low power (R553, R555); a spare that a swap has woken stays awake. -/
def State.spareSleeps (s : State) (n : Nat) : Bool :=
  let id := 4096 + (match s.build with | .hfE => n / 2 | .hfS => n / 4)
  (s.pwr.laneSlp || decide ((s.pwrReq id).grant < s.pwrDemand id)) && (s.link n).rxSpare != 3 && !(s.link n).swapping &&
    (s.link n).swapDue.isNone

/-- Spare lanes go into low power, or leave it (R553, R555). -/
def State.sleepSpares (s : State) : State :=
  let l := (s.allLinks.filter s.spareSleeps).map fun n => (n, (s.link n).rxSpare)
  s.modPwr fun p => { p with asleep := l }

/-- The three steps by the count of evaluations over budget and not over it (R555). -/
def State.overSteps (s : State) (ids : List Nat) (now : Bool) : State :=
  s.modPwr fun p =>
    let o := if now then p.overRun + 1 else 0
    let u := if now then 0 else p.underRun + 1
    let slow (id : Nat) (r : PwrReq) : PwrReq := if id < 4096 then { r with slow := now && decide (r.grant < r.use_) } else r
    { p with
      overNow := now, overRun := o, underRun := u
      reqs := ids.map fun id => (id, slow id (Tab.get default p.reqs id))
      sfloor := if now then (if 2 ≤ o then min 7 (p.sfloor + 1) else p.sfloor) else p.sfloor - 1
      laneSlp := if now then p.laneSlp || decide (4 ≤ o) else p.laneSlp && decide (u < 8) }

/-- The cycles of 16 in which a held row's combine units may combine (R553). -/
def State.cuShare (s : State) (y : Nat) : Nat :=
  let g := (s.pwrReq (8192 + y)).grant
  let d := s.pwrDemand (8192 + y)
  if g < d then max 1 (16 * g / d) else 16

/-- An evaluation (R550 to R557). -/
def State.evalPower (s : State) : State :=
  let ids := s.requesters
  let r := s.newGrants ids
  let s1 := s.modPwr fun p => { p with
    started := true, lastRise := r.2, reqs := ids.map fun id => (id, { Tab.get default p.reqs id with grant := Tab.get 0 r.1 id }) }
  let floors := (ids.map s.pwrFloor).sum
  let a := s1.accounted ids
  let b := s.pwr.budget.toNat
  let s2 := s1.overSteps ids (s.pwr.valid && decide (b < a))
  let short := s.pwr.valid && decide (b < floors)
  let s3 := s2.modPwr fun p => { p with
    short := short, acct := a, granted := (ids.map fun id => Tab.get 0 r.1 id).sum
    cuK := ((List.range 16).map fun y => (y, s2.cuShare y)) }
  let s4 := if short then s3.raiseBlk 2 0x0A01 0 0 else s3
  let s5 := if 0 < s4.pwr.overRun ∧ s4.pwr.overRun % 64 = 0 then s4.raiseBlk 2 0x0A01 0 0 else s4
  s5.sleepSpares.sendGrants

/-- POWER_EVALUATE (R550): at phase 0 of every tick whose count is a multiple of 500, in a harvest too (R557). -/
def execPowerEvaluate (s : State) : Host.Outcome State Fault Refusal :=
  runAct s fun s => if s.now % 500 = 0 ∧ s.tide.phase = 0 then s.evalPower else s

/-- BUDGET_VALUE (R31, R549): 1 to 16,384 is taken; another is counted and leaves the budget as it is. Where the crossing is `full`, the
value overwrites the tail and the overrun flag is set. -/
def execBudgetValue (b : BitVec 16) (full : Bool) (s : State) : Host.Outcome State Fault Refusal :=
  runAct s fun s0 =>
    if s0.shut .budget then s0
    else
      let s := if full then { s0 with ctrl := { s0.ctrl with xstat := s0.ctrl.xstat ||| 2 } } else s0
      let s1 := s.input (unitId uBlock 2) 2 b.toNat 0
      if 1 ≤ b.toNat ∧ b.toNat ≤ 16384 then s1.modPwr fun p => { p with valid := true, budget := b.setWidth 15 }
      else s1.modPwr fun p => { p with badVal := inc8 p.badVal }

/-! ## PWR ports (R552) -/

/-- The PWR port of a tile is changed by `f`. -/
def State.modPort (s : State) (t : Nat) (f : PwrPort → PwrPort) : State :=
  s.modPwr fun p => { p with ports := p.ports.set t (f (Tab.get default p.ports t)) }

/-- Words that waited in the crossings reach their stops after the thaw (R493). -/
def State.presentPorts (s : State) : State :=
  s.modPwr fun p => { p with ports := p.ports.map fun e => (e.1, { e.2 with word := (e.2.fifo.getLast?).getD e.2.word, fifo := [] }) }

/-- CORE_POWER_REQUEST (R31, R552): while the chip is held the word waits in the crossing, whose newest word overwrites the second. While it
runs, a word that finds the crossing `full` overwrites its tail and is the one that the stop takes. -/
def execCorePowerRequest (t : Nat) (w : Word) (full : Bool) (s : State) : Host.Outcome State Fault Refusal :=
  if tileOk s.build t then
    runAct s fun s =>
      if s.clientKind t = 0 || s.shut (.pwr t) then s
      else if s.running then
        (s.modPort t fun p => { p with word := w }).modStop t fun st => { st with xst := if full then st.xst ||| 4 else st.xst }
      else if (Tab.get default s.pwr.ports t).fifo.length < 2 then s.modPort t fun p => { p with fifo := p.fifo ++ [w] }
      else (s.modPort t fun p => { p with fifo := p.fifo.take 1 ++ [w] }).modStop t fun st => { st with xst := st.xst ||| 4 }
  else .fault (.noSuchTile t)

/-- PWR_REQUEST_FORWARD (R552): the latest word, where it has changed, and not within 250 tk of the last. -/
def execPwrRequestForward (t : Nat) (s : State) : Host.Outcome State Fault Refusal :=
  atTile t s fun s =>
    let p := Tab.get default s.pwr.ports t
    if p.word ≠ p.sent ∧ p.nextAt ≤ s.now then
      (s.modPort t fun p => { p with sent := p.word, nextAt := s.now + 250 }).cSend t
        (s.blockMsg t 0xD s.node ctlTile 0 (pwrBytes 1 t (p.word.extractLsb' 16 16).toNat (p.word.extractLsb' 0 16).toNat 0 false))
    else s

/-- The fields of a PWR message (R552). -/
def pwrVal (m : CMsg) : Nat := leAt m.data 0 16

/-- A request reaches the arbiter: the draw that the core reports and what it asks for. -/
def State.pwrRequested (s : State) (v : Nat) : State :=
  let id := bits v 111 96
  if id < 4096 then
    let r := (Tab.get? s.pwr.reqs id).getD { (default : PwrReq) with grant := s.pwrFloor id }
    s.modPwr fun p => { p with reqs := p.reqs.set id { r with use_ := bits v 95 80, req := bits v 79 64 } }
  else s

/-- Whether an event is a grant on the PWR port of tile `t`. -/
def isGrantTo (t : Nat) : OutEv → Bool
  | .pwrGrant u _ => u == t
  | _ => false

/-- The newest grant in the PWR crossing of tile `t` is overwritten (R31): the core never sees it. -/
def State.dropGrant (s : State) (t : Nat) : State :=
  { s with out := (s.out.reverse.eraseP (isGrantTo t)).reverse }

/-- A grant reaches its stop: G and SLOW on the PWR port, and the sluice's floor (R122, R394, R552). Where the crossing is `full`, the grant
overwrites its tail and sets the overrun flag (R31). -/
def State.pwrGranted (s : State) (t v : Nat) (full : Bool) : State :=
  let s1 := s.modSl t fun sl => { sl with floorNext := bits v 63 61 }
  if s.clientKind t = 0 || s.shut (.pwr t) then s1
  else
    let s2 := if full then (s1.dropGrant t).modStop t fun st => { st with xst := st.xst ||| 2 } else s1
    s2.emit (.pwrGrant t (BitVec.ofNat 32 (b2n (bit v 60) * 2 ^ 31 + bits v 79 64)))

/-- PWR_GRANT_RECEIVED (R552): a PWR message at its tile; the arbiter, which sits at the control port's tile, takes the requests. `full` is
the PWR crossing's (R31). -/
def execPwrGrantReceived (t : Nat) (m : CMsg) (full : Bool) (s : State) : Host.Outcome State Fault Refusal :=
  atTile t s fun s =>
    let v := pwrVal m
    if m.hdr.mkind = 0xD ∧ m.hdr.plen = 16 ∧ m.hdr.dtile.toNat = t then
      if bits v 127 124 = 2 ∧ bits v 111 96 = t then s.pwrGranted t v full
      else if bits v 127 124 = 1 ∧ t = ctlTile then s.pwrRequested v
      else s
    else s

end Sys2Proof.Machine
end

