-- ==== Sys2Proof/Machine/Harvest.lean ====
section
/-! DEFINITION. Harvest and the rake: requests, the flood, the cut and the thaw (R486 to R499), and the records' way from their sources
to a sink (R500 to R509, R514, R528). -/

namespace Sys2Proof.Machine

/-! ## Requests (R486 to R488, R498) -/

/-- A write of HRV_CTL with the bit `b` set; a write without it is another row's. -/
def hrvCtlForm (b : Bool) (q : Req) (s : State) (f : State → State × Nat) : Host.Outcome State Fault Refusal :=
  if b then ctlAct 0x60000 q s (ctlWrite q true true f) else .next s

/-- The code of HRV_CTL.REQ (R486). -/
def State.hrvReqCode (s : State) (pod : Bool) : Nat :=
  if s.hrv.at_.toNat < s.entryCount.toNat + s.lead pod then rStale else if s.hrv.state = 2 ∨ s.hrv.tpend = true then rBusy else rOk

/-- HRV_REQ (R486, R487). -/
def execHrvReq (q : Req) (s : State) : Host.Outcome State Fault Refusal :=
  hrvCtlForm (q.wdata.getLsbD 31) q s fun s =>
    let pod := q.wdata.getLsbD 29
    let c := s.hrvReqCode pod
    (if c = rOk then s.hrvOriginate 1 pod s.hrv.at_.toNat else s, c)

/-- The code of HRV_CTL.THAW (R498). -/
def State.hrvThawCode (s : State) : Nat :=
  let d := (s.hrv.at_ - s.hrv.th).toNat
  if s.hrv.state = 3 then rBusy
  else if s.hrv.state ≠ 2 then rError
  else if d % 64 ≠ 0 ∨ 2 ^ 30 ≤ d then rError
  else if s.hrv.at_.toNat < s.entryCount.toNat + s.lead s.hrv.pod then rStale
  else if s.hrv.tpend then rBusy
  else rOk

/-- A thaw is pending for tick `t` (R498); one of pod scope is flooded. A flooded thaw whose tick has passed is taken at the next tick
(DESIGN CHOICE, log entry 1135). -/
def State.thawSet (s : State) (pod : Bool) (t origin req : Nat) : State :=
  let s1 := s.modHrv fun h => { h with tpend := true, tt := BitVec.ofNat 64 t, thawAt := max t (s.now + 1) }
  if pod then s1.flood (floodMsg 2 origin req t) else s1

/-- HRV_THAW (R498): a thaw takes the origin's next request id. -/
def execHrvThaw (q : Req) (s : State) : Host.Outcome State Fault Refusal :=
  hrvCtlForm (q.wdata.getLsbD 30 && !q.wdata.getLsbD 31) q s fun s =>
    let c := s.hrvThawCode
    let req := s.hrv.ownReq + 1
    (if c = rOk then
      (s.modHrv fun h => { h with ownReq := req, seen := h.seen ++ [{ origin := s.node, req := req.toNat, kind := 2 }] }).thawSet
        s.hrv.pod s.hrv.at_.toNat s.node req.toNat
     else s, c)

/-- The level of HARVEST_N as it enters the fabric clock domain changes (R490, R514, R519). -/
def State.pinLevel (s : State) (low : Bool) : State :=
  if s.hrv.pinLow = low then s else (s.input uHrv 3 (b2n !low) 0).modHrv fun h => { h with pinLow := low }

/-- HARVEST_PIN (R486, R505): the pin has been low for `low` fc. Its eighth is the fall that may trigger the rake. -/
def execHarvestPin (low : Nat) (s : State) : Host.Outcome State Fault Refusal :=
  runAct s fun s =>
    if low = 0 then s
    else
      let s1 := s.pinLevel true
      let s2 := if low = 8 then s1.rakeTrigger 4 else s1
      if 8 ≤ low ∧ s.hrv.pinReq = true ∧ s.hrv.state = 0 ∧ s.hrv.driving = false then s2.hrvOriginate 2 true (s.now + s.podLead) else s2

/-- HARVEST_N_RELEASE (R490, R514): the net rises when no chip drives it. -/
def execHarvestNRelease (s : State) : Host.Outcome State Fault Refusal :=
  runAct s fun s => if s.hrv.driving then s else s.pinLevel false

/-- Kind, origin, request id and tick of a keeper HARVEST (R488). -/
def hrvKind (k : KMsg) : Nat := leAt k.data 0 1
def hrvOrigin (k : KMsg) : Nat := leAt k.data 1 2
def hrvReqId (k : KMsg) : Nat := leAt k.data 3 1
def hrvTick (k : KMsg) : Nat := leAt k.data 4 8

/-- A keeper HARVEST of kind `kind` is taken once (R488); it is an input of the run (R514). -/
def hrvMsg (n kind : Nat) (k : KMsg) (s : State) (f : State → State) : Host.Outcome State Fault Refusal :=
  atLink n s fun s =>
    let x : Seen := { origin := hrvOrigin k, req := hrvReqId k, kind := kind }
    if k.ktype = 0x0B ∧ hrvKind k = kind ∧ s.hrv.seen.contains x = false then
      f ((s.modHrv fun h => { h with seen := h.seen ++ [x] }).input uHrv 5 (x.origin * 256 + x.req) (hrvTick k))
    else s

/-- HARVEST_FREEZE_MSG (R487, R488). -/
def execHarvestFreezeMsg (n : Nat) (k : KMsg) (s : State) : Host.Outcome State Fault Refusal :=
  hrvMsg n 1 k s fun s => s.hrvRequest 5 true (hrvTick k) (hrvOrigin k) (hrvReqId k)

/-- HARVEST_THAW_MSG (R498): the first thaw that a FROZEN chip takes stands. -/
def execHarvestThawMsg (n : Nat) (k : KMsg) (s : State) : Host.Outcome State Fault Refusal :=
  hrvMsg n 2 k s fun s =>
    if s.hrv.state = 2 ∧ s.hrv.tpend = false then s.thawSet true (hrvTick k) (hrvOrigin k) (hrvReqId k) else s

/-- HARVEST_FLOOD_REPEAT (R488): what was flooded goes once more, 64 tk later. -/
def execHarvestFloodRepeat (s : State) : Host.Outcome State Fault Refusal :=
  runAct s fun s =>
    let due := s.hrv.repeats.filter fun r => decide (r.2 ≤ s.now)
    due.foldl (fun s r => s.floodNow r.1) (s.modHrv fun h => { h with repeats := h.repeats.filter fun r => !decide (r.2 ≤ s.now) })

/-! ## The cut (R491 to R494) -/

/-- The captures start afresh at the freeze edge (R494, R522): each settles 150 + d + 16 fc later. -/
def State.freshCaptures (s : State) : Tab Capture :=
  s.allLinks.map fun n => (n, { (default : Capture) with deadline := some (s.fc + 166 + (match Tab.get? s.tide.ldly n with | some d => d.dly.toNat | none => 0)) })

/-- A HARVEST record of the harvest in force (R500). -/
def State.hrvEvent (s : State) (ev : Nat) : State := s.hrvRecord s.hrv.src s.node s.hrv.reqid.toNat ev

/-- HARVEST_FREEZE (R463, R491): at T_h the fabric is held; where a fault's action asked for it, the block is stopped. -/
def execHarvestFreeze (s : State) : Host.Outcome State Fault Refusal :=
  runAct s fun s =>
    if s.hrv.state = 1 ∧ s.atTick s.hrv.th.toNat then
      let s1 := (s.modHrv fun h => { h with state := 2, captures := s.freshCaptures }).hrvEvent 2
      if s.flt.stopDue then s1.stopNow.hrvEvent 4 else s1
    else s

/-- CAPTURE_SETTLED (R494). -/
def execCaptureSettled (n : Nat) (s : State) : Host.Outcome State Fault Refusal :=
  atLink n s fun s =>
    if dueBy (s.capture n).deadline s.fc then s.modHrv fun h => { h with captures := h.captures.set n { s.capture n with settled := true, deadline := none } }
    else s

/-! ## The thaw (R416, R495, R499) -/

/-- Actions scheduled by tick (R57), each with its tick. -/
def State.tickActions (s : State) : List (Nat × (State → State)) :=
  (s.img.switches.map fun w => (w.ts, fun s : State => s.drainStart w.id)) ++
  (s.img.switches.map fun w => (w.ts + w.d, fun s : State => if w.id == .full then s.imageCommit else s.panCommit w.id)) ++
  (match s.img.factoryAt with | some t => [(t, State.factoryTick)] | none => []) ++
  (match s.flt.fenceSet with | some x => [(x.2, State.fenceSetTick)] | none => []) ++
  (s.flt.wires.filterMap fun w => w.swapAt.map fun t => (t, fun s : State => s.wireSwap w.t w.port w.plane w.group))

/-- An action takes its place by tick, behind those of the same tick. -/
def insertTick (x : Nat × (State → State)) : List (Nat × (State → State)) → List (Nat × (State → State))
  | [] => [x]
  | y :: ys => if x.1 < y.1 then x :: y :: ys else y :: insertTick x ys

/-- The actions whose tick fell in the freeze, from tick `th` on, are taken in tick order, before any frozen traffic moves (R416, R495). -/
def State.takeTicks (s : State) (th : Nat) : State :=
  (((s.tickActions.filter fun a => decide (th ≤ a.1 ∧ a.1 ≤ s.now)).foldl (fun l a => insertTick a l) []).foldl (fun s a => a.2 s) s)

/-- A slot swap whose tick fell in the freeze is made at the first multiple of 64 at or after the thaw (R495). -/
def State.deferSwap (s : State) : State := { s with slotPend := s.slotPend.map fun x => (max x.1 s.now, x.2) }

/-- Link `n` takes what its capture holds, in order of arrival, with the send times of its CIRC frames moved by `delta` fc, and then
the capture summary (R494, R499). -/
def State.releaseCapture (s : State) (delta n : Nat) : State :=
  let c := s.capture n
  let s1 := c.frames.foldl (fun s f => s.takeFrame n f delta)
    (s.modHrv fun h => { h with captures := h.captures.set n { c with frames := [], ack := none, nak := false, cred := none } })
  let s2 := match c.ack with | some a => s1.takeAck n a | none => s1
  let s3 := match c.cred with | some v => s2.takeCredit n v.1 v.2 | none => s2
  if c.nak then s3.replayAll n else s3

/-- A deferred action of the collector is taken (R495). -/
def State.runDeferred (s : State) : Deferred → State
  | .escalate e => s.escalate e
  | .act unit action cls code => s.takeAction unit action cls code

/-- Links that left ACTIVE during the freeze are declared lost (R495). -/
def State.declareDue (s : State) : State := s.allLinks.foldl (fun s n => if (s.link n).ll.lossDue then (s.declareLost n).capsExit n else s) s

/-- HARVEST_N is released at the thaw tick (R490). -/
def State.releasePin (s : State) : State :=
  if s.hrv.driving then (s.modHrv fun h => { h with driving := false }).emit (.pin "HARVEST_N" true) else s

/-- The thaw (R499); the grants that the freeze held back go with it (R557). -/
def State.thaw (s : State) : State :=
  let delta := 4 * (s.hrv.tt - s.hrv.th).toNat
  let due := s.hrv.deferred
  let s1 := (s.hrvEvent 3).releasePin.modHrv fun h => { h with
    state := 0, pod := false, tpend := false, src := 0, reqid := 0, th := 0, tt := 0, thawAt := 0, deferred := [] }
  let s2 := s1.allLinks.foldl (fun s n => s.releaseCapture delta n) (s1.takeTicks s.hrv.th.toNat).deferSwap
  (due.foldl (fun s d => s.runDeferred d) s2.declareDue).presentPorts.sendGrants

/-- HARVEST_THAW (R499). -/
def execHarvestThaw (s : State) : Host.Outcome State Fault Refusal :=
  runAct s fun s => if s.hrv.state = 2 ∧ s.hrv.tpend = true ∧ s.atTick s.hrv.thawAt then s.thaw else s

/-! ## RAKE registers with an effect (R504, R505, R528) -/

/-- A write of a HRV or RAKE register that a window with DBG may write (R417, R521, R523, R528). -/
def dbgWrite (q : Req) (f : State → State × Nat) (s : State) : State :=
  if s.hasDbg q.win.toNat then ctlWrite q false true f s else s.replyW q rDenied

/-- The rake is rearmed (R504, R525): an OFF rake stays off. -/
def State.rearm (s : State) : State :=
  s.modRake fun r => { r with
    state := if r.state = 0 then 0 else 1, wp := 0, wrapped := false, tposVld := false, tpos := 0, muting := false, armed := true, postLeft := 0 }

/-- A write of RAKE_CTL (R523): REARM, through window 0 only, and TRIG. -/
def State.rakeCtl (s : State) (q : Req) : State × Nat :=
  let rearm := q.wdata.getLsbD 28 && q.win == 0
  let s1 := if rearm then s.rearm else s
  (if q.wdata.getLsbD 29 then s1.rakeTrigger 0 else s1, rOk)

/-- RAKE_TRIG (R505): a write of RAKE_CTL.TRIG. The other sources fire in the commands that are their events: a watchpoint hit, a
harvest that becomes PENDING, a fault logged and the fall of HARVEST_N; a command that names one is no event of its own. -/
def execRakeTrig (src : Nat) (q : Option Req) (s : State) : Host.Outcome State Fault Refusal :=
  match q with
  | some q => if src = 0 ∧ q.wdata.getLsbD 29 = true then ctlAct 0x70000 q s (dbgWrite q fun s => s.rakeCtl q) else .next s
  | none => .next s

/-- RAKE_REARM (R504). -/
def execRakeRearm (q : Req) (s : State) : Host.Outcome State Fault Refusal :=
  if q.wdata.getLsbD 28 && !q.wdata.getLsbD 29 then ctlAct 0x70000 q s (ctlWrite q true true fun s => s.rakeCtl q) else .next s

/-- RAKE_MARK_WRITE (R528). -/
def execRakeMarkWrite (q : Req) (s : State) : Host.Outcome State Fault Refusal :=
  ctlAct 0x70020 q s (dbgWrite q fun s => (s.trace uHrv 0x03 (some 0) q.wdata.toNat q.win.toNat 0 [], rOk))

/-! ## From a source to the rake (R501, R506) -/

/-- The time word of a record. -/
def timeOf (r : TrRec) : Word64 := BitVec.ofNat 64 (leAt r 0 8)

/-- Records of 32 bytes enter the rake's buffer of 256, or are lost at it. -/
def Rake.take (r : Rake) (bs : TrRec) : Rake :=
  let rs := chunks 32 bs
  if r.buf.length + rs.length ≤ 256 then { r with buf := r.buf ++ rs }
  else { r with lost := satAdd r.lost rs.length, ownLost := some (lostSpan rs.length (timeOf bs) (timeOf bs) r.ownLost) }

/-- The rake reports its own losses as soon as it has room (R506). -/
def State.rakeGap (s : State) : State :=
  if s.rake.ownLost.isSome && decide (s.rake.buf.length < 256) then
    s.modRake fun r => { r with buf := r.buf ++ gapRecs s.timeWord uHrv r.ownLost, gaps := inc8 r.gaps, ownLost := none }
  else s

/-- The STATE record of an emission that comes next leaves its unit when the unit's buffer has room (R497, R500). -/
def State.scanFeed (s : State) : State :=
  match s.hrv.scanTodo with
  | (u, a, b, ws) :: rest =>
    if (Tab.get [] s.rake.bufs u).length < 15 then
      (s.modHrv fun h => { h with scanTodo := rest }).trace u 0x0A (some 6) a b 0 (rawRecs (ws.flatMap fun w => bytesOf 4 w.toNat))
    else s
  | [] => s

/-- The source whose record the trace ring brings next: the manual gives no rule but that of arrival (log entry 43). -/
def Rake.pick (r : Rake) (fc : Nat) : Option (Nat × List TrRec) :=
  match r.bufs.filter fun e => !e.2.isEmpty with
  | [] => none
  | [x] => some x
  | xs => xs[Config.ringPick fc xs.length % xs.length]?

/-- One record, with the raw records that belong to it, goes from a source's buffer to the rake's (R501). -/
def State.ringMove (s : State) : State :=
  match s.rake.pick s.fc with
  | some (u, r :: rs) => s.modRake fun k => Rake.take { k with bufs := k.bufs.set u rs } r
  | _ => s

/-- RAKE_RECORD_SEND (R501): a FROZEN rake takes none. -/
def execRakeRecordSend (s : State) : Host.Outcome State Fault Refusal :=
  runAct s fun s => if s.rake.state = 1 ∨ s.rake.state = 2 then s.scanFeed.ringMove.rakeGap else s

/-! ## Sinks (R503 to R508) -/

/-- The rake is FROZEN: what it still held is not of the window that it keeps. -/
def Rake.freeze (r : Rake) : Rake := { r with state := 3, buf := [], bufs := [], lostBy := [], ownLost := none, postLeft := 0 }

/-- `n` records have gone to the sink: in CENTRE mode the last of the post-trigger count freezes the rake (R504). -/
def Rake.sent (r : Rake) (n : Nat) : Rake :=
  let r1 := { r with buf := r.buf.drop n, postLeft := r.postLeft - n }
  if r.state = 2 ∧ r.postLeft ≤ n then r1.freeze else r1

/-- How many records the next unit of `n` records to the sink carries, if it may go: all `n`, or the last of a CENTRE window. -/
def Rake.ready (r : Rake) (n : Nat) : Option Nat :=
  let k := if r.state = 2 then min n r.postLeft else n
  if (r.state = 1 ∨ r.state = 2) ∧ 0 < k ∧ k ≤ r.buf.length then some k else none

/-- The write pointer after `k` records (R504): a STOP rake is FROZEN at the region's end, another wraps. -/
def Rake.advance (r : Rake) (mode size k : Nat) : Rake :=
  if r.wp.toNat + k < size then { r with wp := r.wp + BitVec.ofNat 31 k }
  else if mode = 0 then Rake.freeze { r with wp := BitVec.ofNat 31 size }
  else { r with wp := 0, wrapped := true }

/-- RAKE_SINK_WRITE (R503, R504): a WRITE of 256 bytes from the M-port of the rake's tile. -/
def execRakeSinkWrite (s : State) : Host.Outcome State Fault Refusal :=
  atTile ctlTile s fun s =>
    let t := s.img.act.trace
    match s.rake.ready (min 8 (s.regionRecs - s.rake.wp.toNat)) with
    | some k =>
      if t.sink = 1 then
        let rs := s.rake.buf.take k
        let orig : MOrig := .rake k (timeOf (nth [] rs 0)) (timeOf (nth [] rs (k - 1)))
        let s1 := (s.mpEnter ctlTile orig .write (t.base + 32 * s.rake.wp.toNat) (32 * k) rs.flatten).mpPump ctlTile
        s1.modRake fun r => (r.advance t.mode s.regionRecs k).sent k
      else s
    | none => s

/-- The CWHDR record of the next own codeword (R500, R507). -/
def State.cwhdr (s : State) : TrRec :=
  recBytes s.timeWord 0 (s.node % 4096 * 16 + s.rake.pos.toNat) 0 (s.rake.own % 2 ^ 32) 0 0

/-- Own codewords among the slots before this one, of 64 (R508). -/
def Rake.share64 (r : Rake) : Bool := decide ((r.slots.filter id).length < r.share.toNat)

/-- A slot has gone, with an own codeword or without one. -/
def Rake.slot (r : Rake) (mine : Bool) : Rake := { r with slots := (mine :: r.slots).take 63 }

/-- A slot that upstream leaves empty: an own codeword, of a CWHDR and 19 records, within the share (R507, R508). -/
def State.ownSlot (s : State) : State :=
  match s.rake.ready 19 with
  | some k =>
    if s.rake.share64 then
      let bs := slice (s.cwhdr ++ (s.rake.buf.take k).flatten) 0 640
      (s.emit (.trace bs)).modRake fun r => Rake.sent { (r.slot true) with own := r.own + 1 } k
    else s.modRake fun r => r.slot false
  | none => s.modRake fun r => r.slot false

/-- TRACE_CODEWORD_SLOT (R507 to R509): what came from upstream goes first; the lanes are sending, so the chip is in the chain. -/
def execTraceCodewordSlot (up : Option (List Byte)) (s : State) : Host.Outcome State Fault Refusal :=
  runAct s fun s =>
    if s.img.act.trace.sink = 2 then
      let s1 := (s.modRake fun r => { r with
        txup := true, rxlock := r.rxlock || up.isSome
        up := match up with | some c => if r.up.length < 8 then r.up ++ [c] else r.up | none => r.up }).setPass true
      match s1.rake.up with
      | c :: cs => (s1.emit (.trace c)).modRake fun r => { (r.slot false) with up := cs }
      | [] => s1.ownSlot
    else s

end Sys2Proof.Machine
end

