-- ==== Sys2Proof/Machine/Checks.lean ====
section
/-! DEFINITION. The check units: the CRC, register feed, the scan engine, claims and saving (R531 to R545). -/

namespace Sys2Proof.Machine

/-! ## Computation (R531) -/

/-- mask(W) (R531). -/
def chkMask (w : Nat) : BitVec 64 := BitVec.ofNat 64 (2 ^ w - 1)

/-- The bits of a byte from the least upward, the reflection of its order. -/
def reflect8 (b : Byte) : Byte := BitVec.ofNat 8 ((List.range 8).foldl (fun a i => 2 * a + b2n (b.getLsbD i)) 0)

/-- V with its W bits reflected (R531). -/
def reflectW (v : BitVec 64) (w : Nat) : BitVec 64 :=
  BitVec.ofNat 64 ((List.range w).foldl (fun a i => 2 * a + b2n (v.getLsbD i)) 0)

/-- One step of the remainder with the input bit `t`. -/
def chkBit (w : Nat) (p v : BitVec 64) (t : Bool) : BitVec 64 :=
  let top := v.getLsbD (w - 1) != t
  let v1 := (v <<< 1) &&& chkMask w
  if top then v1 ^^^ (p &&& chkMask w) else v1

/-- One byte is fed, its most significant bit first after the reflection (R531). -/
def Check.feedByte (c : Check) (b : Byte) : Check :=
  let b1 := if c.refin then reflect8 b else b
  { c with v := [7, 6, 5, 4, 3, 2, 1, 0].foldl (fun v i => chkBit c.w c.p v (b1.getLsbD i)) c.v }

/-- Bytes are fed in order (R532). -/
def Check.feed (c : Check) (bs : List Byte) : Check := bs.foldl Check.feedByte c

/-- The result (R531). -/
def Check.result (c : Check) : BitVec 64 := (if c.refout then reflectW c.v c.w else c.v) ^^^ (c.x &&& chkMask c.w)

/-! ## Access -/

/-- Check unit `u` is changed by `f`. -/
def State.modCheck (s : State) (u : Nat) (f : Check → Check) : State := { s with chk := s.chk.set u (f (s.check u)) }

/-- A command of check unit `u`. -/
def atCheck (u : Nat) (r : Host.Outcome State Fault Refusal) : Host.Outcome State Fault Refusal :=
  if u < 8 then r else .fault (.noSuchUnit u)

/-- The byte offset of register `k` of unit `u` (R531, R594). -/
def chkOfs (u k : Nat) : Nat := 0x80000 + 0x80 * u + k

/-- A write to a unit (R534, R541): by a window with the right that has claimed it, and, where the register may not change under a
scan, while none is in progress. -/
def chkWrite (u : Nat) (q : Req) (quiet : Bool) (f : State → State × Nat) (s : State) : State :=
  let c := s.check u
  dbgWrite q (fun s => if c.owner ≠ some q.win.toNat ∨ (quiet && c.state == 2) = true then (s, rBusy) else f s) s

/-- V becomes `v`, as far as the width goes, and an ERROR is left (R531, R537). -/
def Check.setV (c : Check) (v : BitVec 64) : Check := { c with v := v &&& chkMask c.w, state := if c.state = 3 then 0 else c.state }

/-- A scan in progress is ended: the unit is IDLE (R537). -/
def Check.abort (c : Check) : Check := if c.state = 2 then { c with state := 0, reads := [] } else c

/-! ## CHK_CTL (R535, R540 to R542) -/

/-- The range of a START lies wholly in a window, with right R, of a pan bound to the window (R324, R535). -/
def State.scanRight (s : State) (w : Nat) (c : Check) : Bool :=
  w == 0 || c.len == 0 || s.img.act.pans.any fun p => s.mayPan w p.id && p.allows c.scanAt.toNat c.len.toNat 0

/-- `CLAIM`, `RELEASE`, `INIT`, `START`, `ABORT`, `REFIN`, `REFOUT` and `WIDTH` of a write (R542). -/
def chkClaimBit (w : Word) : Bool := w.getLsbD 31
def chkReleaseBit (w : Word) : Bool := w.getLsbD 30
def chkInitBit (w : Word) : Bool := w.getLsbD 29
def chkStartBit (w : Word) : Bool := w.getLsbD 28
def chkAbortBit (w : Word) : Bool := w.getLsbD 27
def chkWidth (w : Word) : Nat := (w.extractLsb' 0 7).toNat

/-- The write changes a parameter that CHK_CTL holds. -/
def Check.ctlChanges (c : Check) (w : Word) : Bool := c.w != chkWidth w || c.refin != w.getLsbD 17 || c.refout != w.getLsbD 16

/-- The code of a START (R535). -/
def State.startCode (s : State) (c : Check) : Nat :=
  if s.build = .hfS ∨ c.len = 0 ∨ s.ownMem c.scanAt.toNat c.len.toNat = false then rError else if c.state = 2 then rBusy else rOk

/-- The code of a CHK_CTL write by a window with the right (R534, R535, R541, R542). -/
def State.chkCtlCode (s : State) (q : Req) (c : Check) : Nat :=
  let w := q.wdata
  let win := q.win.toNat
  let other := match c.owner with | some o => o != win | none => false
  let held := c.owner == some win || (chkClaimBit w && !other)
  if chkStartBit w && !s.scanRight win c then rDenied
  else if !held && !(win == 0 && chkReleaseBit w && !chkClaimBit w) then rBusy
  else if chkWidth w = 0 ∨ 64 < chkWidth w then rError
  else if held && c.state == 2 && (c.ctlChanges w || chkInitBit w) then rBusy
  else if held && chkStartBit w then s.startCode c
  else rOk

/-- What a START does to its unit (R535, R536). -/
def Check.start (c : Check) : Check :=
  { c with state := 2, next := c.scanAt.toNat, stop := c.scanAt.toNat + c.len.toNat, done := 0, reads := [], alive := c.alive + 1 }

/-- What an accepted CHK_CTL write by the holder does: the claim, ABORT, the parameters, INIT, START and RELEASE, in that order. -/
def Check.ctl (c : Check) (win : Nat) (w : Word) : Check :=
  let c1 := if chkClaimBit w then { c with owner := some win, alive := c.alive + 1 } else c
  let c2 := if chkAbortBit w then c1.abort else c1
  let c3 := if c2.ctlChanges w then
    { c2 with w := chkWidth w, refin := w.getLsbD 17, refout := w.getLsbD 16, v := c2.v &&& chkMask (chkWidth w), alive := c2.alive + 1 } else c2
  let c4 := if chkInitBit w then { (c3.setV c3.i) with alive := c3.alive + 1 } else c3
  let c5 := if chkStartBit w then c4.start else c4
  if chkReleaseBit w then { (if win = 0 then c5.abort else c5) with owner := none } else c5

/-- A write of CHK_CTL (R542). Window 0 may release a unit that it does not hold, and then does nothing else to it (R541). -/
def State.chkCtl (s : State) (u : Nat) (q : Req) : State × Nat :=
  let c := s.check u
  let k := s.chkCtlCode q c
  if k ≠ rOk then (s, k)
  else if c.owner = some q.win.toNat ∨ chkClaimBit q.wdata = true then (s.modCheck u fun c => c.ctl q.win.toNat q.wdata, rOk)
  else (s.modCheck u fun c => { c.abort with owner := none }, rOk)

/-- A write of CHK_CTL whose row is the one of the bit `b`. -/
def chkCtlForm (u : Nat) (q : Req) (b : Bool) (s : State) : Host.Outcome State Fault Refusal :=
  atCheck u (if b then ctlAct (chkOfs u 0x00) q s (dbgWrite q fun s => s.chkCtl u q) else .next s)

/-- CHK_CLAIM (R541). -/
def execChkClaim (u : Nat) (q : Req) (s : State) : Host.Outcome State Fault Refusal := chkCtlForm u q (chkClaimBit q.wdata) s

/-- CHK_RELEASE (R541). -/
def execChkRelease (u : Nat) (q : Req) (s : State) : Host.Outcome State Fault Refusal :=
  chkCtlForm u q (chkReleaseBit q.wdata && !chkClaimBit q.wdata) s

/-- CHK_INIT (R531). -/
def execChkInit (u : Nat) (q : Req) (s : State) : Host.Outcome State Fault Refusal :=
  chkCtlForm u q (chkInitBit q.wdata && !chkClaimBit q.wdata && !chkReleaseBit q.wdata) s

/-- CHK_START (R535). -/
def execChkStart (u : Nat) (q : Req) (s : State) : Host.Outcome State Fault Refusal :=
  chkCtlForm u q (chkStartBit q.wdata && !chkClaimBit q.wdata && !chkReleaseBit q.wdata && !chkInitBit q.wdata) s

/-- CHK_ABORT (R537). -/
def execChkAbort (u : Nat) (q : Req) (s : State) : Host.Outcome State Fault Refusal :=
  chkCtlForm u q (chkAbortBit q.wdata && !chkClaimBit q.wdata && !chkReleaseBit q.wdata && !chkInitBit q.wdata && !chkStartBit q.wdata) s

/-! ## Register feed (R533) -/

/-- `n` bytes of a write are fed from the least significant upward, and keep the unit for `n` fc (R532, R533). -/
def State.chkFeed (s : State) (u n : Nat) (v : Word) : State × Nat :=
  (s.modCheck u fun c => { (c.feed (bytesOf n v.toNat)) with busy := s.fc + n }, rOk)

/-- CHK_DATA8 (R533). -/
def execChkData8 (u : Nat) (q : Req) (s : State) : Host.Outcome State Fault Refusal :=
  atCheck u (ctlAct (chkOfs u 0x28) q s (chkWrite u q true fun s => s.chkFeed u 1 q.wdata))

/-- CHK_DATA16 (R533). -/
def execChkData16 (u : Nat) (q : Req) (s : State) : Host.Outcome State Fault Refusal :=
  atCheck u (ctlAct (chkOfs u 0x2C) q s (chkWrite u q true fun s => s.chkFeed u 2 q.wdata))

/-- CHK_DATA32 (R533). -/
def execChkData32 (u : Nat) (q : Req) (s : State) : Host.Outcome State Fault Refusal :=
  atCheck u (ctlAct (chkOfs u 0x30) q s (chkWrite u q true fun s => s.chkFeed u 4 q.wdata))

/-! ## Saving and restoring (R539) -/

/-- A read of a HRV, RAKE or CHK register (R417, R541): window 0, or a window with DBG. -/
def dbgRead (q : Req) (f : State → State × Word) (s : State) : State :=
  if s.hasDbg q.win.toNat then
    let r := f s
    r.1.reply q.win.toNat q.tag rOk r.2
  else s.replyW q rDenied

/-- A read of CHK_VAL_LO captures V and CHK_DONE for the window (R539). -/
def State.chkValLo (s : State) (u w : Nat) : State × Word :=
  let v := (s.check u).v
  (s.modCheck u fun c => { c with capHi := c.capHi.set w (v.extractLsb' 32 32), capDone := c.capDone.set w c.done }, v.extractLsb' 0 32)

/-- CHK_VAL_READ (R539). -/
def execChkValRead (u : Nat) (q : Req) (s : State) : Host.Outcome State Fault Refusal :=
  atCheck u (ctlRead (chkOfs u 0x20) q s (dbgRead q fun s => s.chkValLo u q.win.toNat))

/-- V with one half written. -/
def halfSet (v : BitVec 64) (hi : Bool) (w : Word) : BitVec 64 :=
  if hi then w ++ (v.extractLsb' 0 32) else (v.extractLsb' 32 32) ++ w

/-- CHK_VAL_WRITE (R537, R539, R540). -/
def execChkValWrite (u : Nat) (hi : Bool) (q : Req) (s : State) : Host.Outcome State Fault Refusal :=
  atCheck u (ctlAct (chkOfs u (if hi then 0x24 else 0x20)) q s (chkWrite u q true fun s =>
    (s.modCheck u fun c => { (c.setV (halfSet c.v hi q.wdata)) with alive := c.alive + 1 }, rOk)))

/-! ## The scan engine (R536 to R538) -/

/-- The unit's next READ may issue: a scan is in progress, fewer than four are outstanding, and bytes are left. -/
def Check.wantsRead (c : Check) : Bool :=
  c.state == 2 && decide ((c.reads.filter fun r => r.got.isNone).length < 4) && decide (c.next < c.stop)

/-- The unit that the engine serves next: the first after the one served last that wants a READ. -/
def State.scanNext (s : State) : Option Nat := ((List.range 8).map fun i => (s.chkPtr + 1 + i) % 8).find? fun u => (s.check u).wantsRead

/-- SCAN_READ_ISSUE (R536): a READ of at most 256 bytes within one granule, from the M-port of the control port's tile. -/
def execScanReadIssue (s : State) : Host.Outcome State Fault Refusal :=
  atTile ctlTile s fun s =>
    match s.scanNext with
    | none => s
    | some u =>
      let c := s.check u
      let n := min (256 - c.next % 256) (c.stop - c.next)
      let s1 := s.modCheck u fun c => { c with
        next := c.next + n, issued := c.issued + 1, reads := c.reads ++ [{ tag := BitVec.ofNat 8 c.issued, addr := c.next, got := none }] }
      (({ s1 with chkPtr := u }).mpEnter ctlTile (.scan u (c.issued % 256)) .read c.next n []).mpPump ctlTile

/-- Returned data is fed in address order, as far as it has come; an ERROR in its turn ends the scan; `fuel` bounds the READs. -/
def State.scanFeedData (s : State) (u : Nat) : Nat → State
  | 0 => s
  | f + 1 =>
    match (s.check u).reads with
    | r :: rest =>
      match r.got with
      | none => s
      | some none =>
        (s.modCheck u fun c => { c with state := 3, reads := [] }).raiseBlk 4 0x0C01 u (r.addr % 2 ^ 32)
      | some (some d) =>
        (s.modCheck u fun c => { (c.feed d) with done := c.done + BitVec.ofNat 32 d.length, reads := rest }).scanFeedData u f
    | [] => if (s.check u).next = (s.check u).stop then s.modCheck u fun c => { c with state := 0 } else s

/-- SCAN_READ_RETURN (R536, R537): the answer of a READ whose scan has ended is discarded. -/
def execScanReadReturn (u : Nat) (tag : BitVec 8) (ok : Bool) (data : List Byte) (s : State) : Host.Outcome State Fault Refusal :=
  atCheck u (fabAct s fun s =>
    let c := s.check u
    if c.state = 2 then
      (s.modCheck u fun c => { c with reads := c.reads.map fun r =>
        if r.tag == tag && r.got.isNone then { r with got := some (if ok then some data else none) } else r }).scanFeedData u (c.reads.length + 1)
    else s)

end Sys2Proof.Machine
end

