-- ==== Sys2Proof/Machine/Relay.lean ====
section
/-! DEFINITION. The relay buffer of a re-send tile: taking a higher tree's message, its egress send and the answer upward (R234,
R397 to R399). -/

namespace Sys2Proof.Machine

/-- The relay record of a message's key. -/
def State.relayOf (s : State) (t : Nat) (k : Key) : Option Relay := (s.stop t).co.relays.find? fun r => r.key == k

/-- The relay record of a key becomes `r`. -/
def State.setRelay (s : State) (t : Nat) (r : Relay) : State :=
  s.modCo t fun c => { c with relays := (c.relays.filter fun x => x.key != r.key) ++ [r] }

/-- Relay entries in use (R398). -/
def State.relayUsed (s : State) (t : Nat) : Nat := ((s.stop t).co.relays.map (·.need)).sum

/-- The egress tree of a message at a re-send tile; which of several is open (log entry 40). -/
def State.egressTree (s : State) (t : Nat) (h : THdr) : Nat :=
  let l := s.egressTrees t h
  nth 0 l (Config.egressTree t h.coll.toNat (treeOf h.w6) % max 1 l.length)

/-- The packets of a relayed message in order, as bytes. -/
def Relay.bytes (r : Relay) : List Byte :=
  ((List.range r.need).filterMap fun i => r.pkts.find? fun p => p.hdr.pidx.toNat == i).flatMap fun p => slice p.data 0 p.hdr.plen.toNat

/-- The egress message of a relayed one (R397, R399): the tile is its origin. -/
def State.egressMsg (s : State) (t : Nat) (r : Relay) : Msg :=
  let h := r.hdr
  let d := r.bytes
  { (default : Msg) with
    hdr := { h with
      stile := BitVec.ofNat 9 t, snode := BitVec.ofNat 12 s.node, dmode := 2, dnode := BitVec.ofNat 12 s.node, dtile := 0, e2e := 0, e2eseq := 0, resend := 0
      addr := 0, w6 := BitVec.ofNat 64 r.tree }
    owner := .relay t, len := d.length, data := d, mc := some (Mcast.start (trNodes (s.treeEntry t r.tree))) }

/-- A message that is whole in the relay buffer starts its egress send (R397), or a round to the targets that failed before
(R399). -/
def State.relaySend (s : State) (t : Nat) (r : Relay) : State :=
  let m := s.egressMsg t r
  let uid := (s.stop t).si.nextUid
  match r.mseq with
  | none =>
    let q := (s.stop t).si.rseq
    (s.setRelay t { r with uid := uid, mseq := some q }).addRed t m
  | some q =>
    let s := s.modCo t fun c => { c with rounds := inc8 c.rounds }
    let m1 := { m with uid := uid, issued := true, again := true, hdr := { m.hdr with mseq := q } }
    if r.retry.isEmpty then (s.setRelay t { r with uid := uid }).addMsg t { m1 with todo := List.range m1.pcnt }
    else
    let c : Mcast := { Mcast.start 0 with collecting := false }
    ((s.setRelay t { r with uid := uid, retry := [] }).addMsg t { m1 with mc := some c }).mcSend t { m1 with mc := some c } c r.retry

/-- A packet goes into its message's relay entries; with the last one the egress send starts. -/
def State.relayPut (s : State) (t : Nat) (r : Relay) (p : Pkt) : State :=
  if r.pkts.any fun x => x.hdr.pidx == p.hdr.pidx then s
  else
    let r1 := { r with pkts := r.pkts ++ [p] }
    if r1.pkts.length ≥ r1.need then s.relaySend t r1 else s.setRelay t r1

/-- A message that the relay buffer has no entries for is refused as an ejection that cannot be taken (R129, R398). -/
def State.relayRefuse (s : State) (t : Nat) (h : THdr) : State :=
  (s.modCo t fun c => { c with refusals := inc8 c.refusals }).ejectFail t h

/-- The answer upward (R399): to the higher tree's collector while its record is open, else to the higher origin. -/
def State.relayAnswer (s : State) (t : Nat) (h : THdr) (code : Nat) : State :=
  match s.answerTile h with
  | some c => if (s.stop c).si.records.any fun x => x.isOf h then s.answerMcast t h code else if code = 0 then s.ack t h else s.nack t h code
  | none => if code = 0 then s.ack t h else s.nack t h code

/-- The relay entries a message needs are free. -/
def State.relayRoom (s : State) (t n : Nat) : Bool := decide (s.relayUsed t + n ≤ 32)

/-- A message that has been answered upward comes again (R399). -/
def State.relayRepeat (s : State) (t : Nat) (r : Relay) (p : Pkt) : State :=
  let code := r.code.getD 0
  if code = nNotReady ∨ code = nIncomplete then
    if s.relayRoom t p.hdr.pcnt.toNat then
      s.relayPut t { r with hdr := p.hdr, pkts := [], need := p.hdr.pcnt.toNat, code := none, told := false } p
    else s.relayRefuse t p.hdr
  else if p.hdr.last = 1 then s.relayAnswer t p.hdr code
  else s

/-- RESEND_TILE_TAKE (R398): RED_DOWN and COLL_CTL only (R397). -/
def execResendTileTake (t : Nat) (p : Pkt) (s : State) : Host.Outcome State Fault Refusal :=
  atTile t s fun s =>
    if (p.hdr.type = tRedDown ∨ p.hdr.type = tCtl) ∧ p.hdr.vc = 3 ∧ !(s.egressTrees t p.hdr).isEmpty then
      s.collForm t p fun s =>
        if !countOk p.hdr then s.boundsFail t p.hdr
        else
          match s.relayOf t (keyOf p.hdr) with
          | some r =>
            if r.told then
              if (s.stop t).si.keyState (keyOf p.hdr) s.ft = some true then s.relayRepeat t r p
              else if s.relayRoom t p.hdr.pcnt.toNat then
                s.relayPut t { (default : Relay) with key := keyOf p.hdr, hdr := p.hdr, need := p.hdr.pcnt.toNat, tree := s.egressTree t p.hdr } p
              else s.relayRefuse t p.hdr
            else if r.pkts.length < r.need then s.relayPut t r p
            else s
          | none =>
            if s.relayRoom t p.hdr.pcnt.toNat then
              s.relayPut t { (default : Relay) with key := keyOf p.hdr, hdr := p.hdr, need := p.hdr.pcnt.toNat, tree := s.egressTree t p.hdr } p
            else s.relayRefuse t p.hdr
    else s

/-- EGRESS_COMPLETE (R399): the higher tree is answered once, and the relay entries are freed. -/
def execEgressComplete (t mseq : Nat) (s : State) : Host.Outcome State Fault Refusal :=
  atTile t s fun s =>
    match (s.stop t).co.relays.find? fun r => (r.mseq.map (·.toNat)) == some mseq && r.code.isSome && !r.told with
    | some r =>
      let s1 := s.dropMsg t r.uid
      let s2 := (s1.setRelay t { r with pkts := [], need := 0, told := true }).modSi t fun si => si.closeKey r.key true s.ft
      s2.relayAnswer t r.hdr (r.code.getD 0)
    | none => s

end Sys2Proof.Machine
end

