-- ==== Sys2Proof/Machine/Startup.lean ====
section
/-! DEFINITION. Start-up, block reset and client reset (R563 to R577, R588). -/

namespace Sys2Proof.Machine

/-! ## Block reset (R563, R564, R568, R569, R574) -/

/-- The output pins go to their states in reset (R574). -/
def State.pinsOff (s : State) : State :=
  let s1 := s.setPass false
  let s2 := if s1.errLow then s1.emit (.pin "ERR_N" true) else s1
  if s2.hrv.driving then s2.emit (.pin "HARVEST_N" true) else s2

/-- The block in reset (R568): everything but the build, the record of its outputs, and what the fuses last gave the step of the
silicon. -/
def State.cleared (s : State) (phase cause : Nat) (porst : Bool) : State :=
  { State.reset with
    build := s.build, silicon := s.silicon, out := s.pinsOff.out
    start := { (default : Start) with phase := phase, cause := cause, porst := porst } }

/-- PORST_ASSERT (R563, R574). -/
def execPorstAssert (s : State) : Host.Outcome State Fault Refusal := act s fun s => s.cleared 0 0 true

/-- PORST_RELEASE (R564): the phases run from FUSE. -/
def execPorstRelease (s : State) : Host.Outcome State Fault Refusal :=
  phaseAct 0 s fun s => { s with start := { s.start with phase := 1, porst := false } }

/-- A failed start-up (R564, R566). -/
def State.failStart (s : State) : State :=
  { s with start := { s.start with phase := 6, fuseErr := s.start.fuseErr || s.start.phase == 1, pllErr := s.start.pllErr || s.start.phase == 2 } }

/-- The final fuse word is the CRC-32 of the others (R364, R564). -/
def fuseCrcOk (ws : List Word) : Bool :=
  match ws.getLast? with
  | some c => crc32 (ws.dropLast.flatMap fun w => bytesOf 4 w.toNat) == c
  | none => false

/-- A row's factory entry, where the fuses hold a valid one of the build (R13, R443). -/
def fuseEntry (b : Build) (ws : List Word) (y : Nat) : Option Nat := (Config.fuseRow ws y).filter fun c => decide (c < pcols b)

/-- What the fuses give the block (R7, R13, R443, R476). -/
def State.takeFuses (s : State) (ws : List Word) : State :=
  let row (y : Nat) : Row :=
    match fuseEntry s.build ws y with
    | some c => { (default : Row) with fuse := some c, col := c, src := 1 }
    | none => { (default : Row) with col := pcols s.build - 1 }
  { s with
    silicon := Config.fuseStep ws, rows := (List.range 16).map fun y => (y, row y), flt := { s.flt with ftest := Config.fuseFaultTest ws }
    start := { s.start with phase := 2, fuses := ws } }

/-- FUSE_READ_COMPLETE (R564). -/
def execFuseReadComplete (ws : List Word) (s : State) : Host.Outcome State Fault Refusal :=
  phaseAct 1 s fun s => if fuseCrcOk ws then s.takeFuses ws else s.failStart

/-- CLOCK_LOCKED (R41, R564): the tide count starts at 0. -/
def execClockLocked (s : State) : Host.Outcome State Fault Refusal :=
  act s fun s => if s.start.phase = 2 then { s with fc := 0, ft := 0, tide := Tide.init, start := { s.start with phase := 3 } } else s

/-- STARTUP_PHASE_TIMEOUT (R564): the bound of the phase has passed; in QTRAIN `wires` are those that have not trained, each of which is
reported by its two physical tiles (R27). -/
def execStartupPhaseTimeout (wires : List (Nat × Nat)) (s : State) : Host.Outcome State Fault Refusal :=
  .next (match s.start.phase with
    | 1 | 2 => { s with start := s.failStart.start }
    | 3 =>
      let r := (if wires.isEmpty then [(0, 0)] else wires).foldl (fun s w => s.raise (unitId uBlock 5) 0x0101 w.2 w.1 0) s
      { r with pending := s.pending, build := s.build, fc := s.fc, ft := s.ft, tide := s.tide, start := { s.start with phase := 4 } }
    | 4 => { s with start := { s.start with phase := 5 } }
    | _ => s)

/-! ## Self-test (R565) -/

/-- Counts of BLK_STAT (R575). -/
def State.bistSpared (s : State) : State := { s with start := { s.start with bistSpare := inc8 s.start.bistSpare } }
def State.bistFaulted (s : State) : State := { s with start := { s.start with bistFault := inc8 s.start.bistFault } }

/-- A queue whose entry row failed (R286, R474, R565): a spare row replaces it, or it loses one. -/
def State.rowFailed (s : State) (t k : Nat) : State :=
  if (s.stop t).q.spares > 0 then (s.modQ t fun b => { b with spares := b.spares - 1 }).bistSpared
  else (s.rowGone t k).bistFaulted

/-- The outcome of one failed part (R565). -/
def State.selfFail (s : State) : SelfFail → State
  | .storeBank t bank => if s.spareFree t bank then (s.takeover t bank).bistSpared else (s.takeover t bank).bistFaulted
  | .storeSpare t g => s.modCu t fun c => { c with badSpares := c.badSpares ++ [g] }
  | .queueRow t k => s.rowFailed t k
  | .stopSram t => (s.raiseAt t uT 0x0310 0 0).bistFaulted
  | .linkBuffer n => (s.raise (unitId uLink n) 0x0311 0 0 0).bistFaulted
  | .rakeBuffer => ({ s with start := { s.start with rakeBad := true } }.raiseBlk 3 0x0312 0 0).bistFaulted

/-- A failed part is one that the build has. -/
def State.failOk (s : State) : SelfFail → Bool
  | .storeBank t k => tileOk s.build t && decide (4 * k < nSlots s.build)
  | .storeSpare t g => tileOk s.build t && decide (32 * g < nSlots s.build)
  | .queueRow t k => tileOk s.build t && decide (k < 16)
  | .stopSram t => tileOk s.build t
  | .linkBuffer n => decide (n < nLinks s.build)
  | .rakeBuffer => true

/-- Spare banks that failed are known before a spare is asked for (R565). -/
def isSpareFail : SelfFail → Bool
  | .storeSpare _ _ => true
  | _ => false

/-- SELFTEST_COMPLETE (R564, R565): the block is READY. -/
def execSelftestComplete (fails : List SelfFail) (s : State) : Host.Outcome State Fault Refusal :=
  phaseAct 4 s fun s =>
    let fs := fails.filter s.failOk
    ((fs.filter isSpareFail) ++ fs.filter fun f => !isSpareFail f).foldl State.selfFail { s with start := { s.start with phase := 5 } }

/-! ## FLT_RST (R569, R576) -/

/-- A write of FLT_RST: the reset begins 64 fc after the write. -/
def State.fltRst (s : State) (q : Req) : State × Nat :=
  if q.wdata.extractLsb' 0 16 ≠ 0x52E5 then (s, rError)
  else if q.wdata.getLsbD 31 then ({ s with start := { s.start with resetAt := some (s.start.resetAt.getD (s.fc + 64)) } }, rOk)
  else (s, rOk)

/-- FLT_RST_WRITE (R569, R576). -/
def execFltRstWrite (q : Req) (s : State) : Host.Outcome State Fault Refusal := ctlAct 0x40024 q s (ctlWrite q true true fun s => s.fltRst q)

/-- BLOCK_RESET_START (R569). -/
def execBlockResetStart (s : State) : Host.Outcome State Fault Refusal :=
  if dueBy s.start.resetAt s.fc then act s fun s => s.cleared 1 1 false else .next s

/-! ## Client reset (R568, R571, R573, R577, R588) -/

/-- A queue of a client that is reset: RESET, with the base and size of a ring at their reset values. -/
def Queue.clientReset (q : Queue) : Queue :=
  let r := (Queue.reset q).getD q
  { r with base := 0, size := 0, wrLap := false, wrOfs := 0, rdLap := false, rdOfs := 0, writes := [] }

/-- Whose messages a client reset leaves alone: those of the tile's CU, group roots and relay buffer. -/
def MsgOwner.tileOwn : MsgOwner → Bool
  | .relay _ | .partialOf _ | .control _ _ | .down _ _ => true
  | .desc | .copyOf _ | .member _ | .contrib _ _ | .counts _ => false

/-- What a client reset clears at its stop. -/
def Stop.clientReset (st : Stop) : Stop :=
  let gone := (st.si.msgs.filter fun m => !m.owner.tileOwn).map (·.uid)
  { st with
    cmdq := [], msgq := []
    q := { st.q with qs := st.q.qs.map fun e => (e.1, e.2.clientReset), alive := [], disp := [] }
    cr := { st.cr with reqs := [], held := [] }
    co := { st.co with waiting := [] }
    rt := { st.rt with prio := 0, prioNext := [] }
    si := { st.si with
      msgs := st.si.msgs.filter fun m => m.owner.tileOwn, circ := st.si.circ.filter fun c => !gone.contains c.uid
      asms := [], reads := st.si.reads.filter fun r => !gone.contains r.uid, rxlim := 0, rstBusy := true, rstCount := inc8 st.si.rstCount } }

/-- A client reset (R571): its live collectives are reported lost, and TILE_LOST goes out. -/
def State.clientReset (s : State) (t : Nat) : State :=
  (((s.modStop t Stop.clientReset).collClientLost t).tileLost t).emit (.crstBusy t true)

/-- CLIENT_RESET (R571, R577, R588): by STOP_RST.CLIENT, or by a pulse on CRST_REQ, which a reset that is running ignores. -/
def execClientReset (t : Nat) (src : CrstSrc) (s : State) : Host.Outcome State Fault Refusal :=
  atTile t s fun s =>
    match src with
    | .pin => if (s.stop t).si.rstBusy then s else s.clientReset t
    | .reg m =>
      if (regData m).getLsbD 31 then
        stopWrite t 0x904 m s fun s => if (s.stop t).si.rstBusy then (s, rBusy) else (s.clientReset t, rOk)
      else s

/-- CLIENT_RESET_DONE (R571, R588). -/
def execClientResetDone (t : Nat) (s : State) : Host.Outcome State Fault Refusal :=
  atTile t s fun s =>
    if (s.stop t).si.rstBusy then (s.modSi t fun si => { si with rstBusy := false }).emit (.crstBusy t false) else s

end Sys2Proof.Machine
end

