-- ==== Sys2Proof/Machine/Waits.lean ====
section
/-! DEFINITION. The waits that a stop presents (R512, R529). -/

namespace Sys2Proof.Machine

/-- A wait: KIND with the fields of D0, the awaited node and tile, and the extra field of D1 (R512). -/
structure WaitEntry where
  kind : Nat
  fields : Nat
  node : Nat
  tile : Nat
  extra : Nat
  deriving DecidableEq, Repr, Inhabited

/-- STOP_WAIT_D0 and STOP_WAIT_D1 of an entry (R512). -/
def WaitEntry.d0 (e : WaitEntry) : Word := BitVec.ofNat 4 e.kind ++ BitVec.ofNat 28 e.fields
def WaitEntry.d1 (e : WaitEntry) : Word := BitVec.ofNat 12 e.node ++ BitVec.ofNat 9 e.tile ++ BitVec.ofNat 11 e.extra

/-- The party behind an output: the neighbour, the tile itself behind the SI port, or the far node of a ring port (R512). -/
def State.behind (s : State) (t o : Nat) : Nat × Nat :=
  match neighbour s.build t o with
  | some u => (s.node, u)
  | none => match (linksOf s.build t)[o - 5]? with
    | some n => if 5 ≤ o then (s.farNode n, 0) else (s.node, t)
    | none => (s.node, t)

/-- A wait of kind 1 (R512). -/
def State.vcWait (s : State) (t plane idx o since : Nat) : WaitEntry :=
  let w := s.behind t o
  { kind := 1, fields := plane * 2 ^ 26 + idx * 2 ^ 20 + slotCode o * 65536 + min 65535 (s.ft - since), node := w.1, tile := w.2, extra := 0 }

/-- The outputs that a buffered packet waits for: those that have not granted it. -/
def State.waitsFor (s : State) (t : Nat) (p : BufPkt) : List Nat :=
  if p.cands.isEmpty then (p.branches.filter fun b => !b.won).map (·.port) else [(s.pickOut t p).getD (nth 0 p.cands 0)]

/-- T-plane requesters that wait (R512). -/
def State.tWaits (s : State) (t : Nat) : List WaitEntry :=
  (List.range 52).flatMap fun i =>
    match ((s.stop t).rt.buf (i / 4) (i % 4)).pkts.head? with
    | some p => (s.waitsFor t p).map fun o => s.vcWait t 0 i o p.since
    | none => []

/-- C-plane VCs that wait (R512). -/
def State.cWaits (s : State) (t : Nat) : List WaitEntry :=
  (List.range 26).filterMap fun k =>
    let b := (s.stop t).c.buf k
    if b.flits.isEmpty || b.granted then none else some (s.vcWait t 2 (4 * (k / 2) + k % 2) b.dest b.since)

/-- µs since a backoff of the `k`-th refusal began that ends at `due` (R89). -/
def State.waited (s : State) (k due : Nat) : Nat := min 65535 ((s.ft + backoffFc k - due) / usFc)

/-- Messages that wait to be sent again after NOTREADY to a queue (R512). -/
def State.queueWaits (s : State) (t : Nat) : List WaitEntry :=
  ((s.stop t).si.msgs.filterMap fun m => match m.backoff with
    | some d =>
      if m.hdr.type = tRing then
        some { kind := 2, fields := (m.hdr.addr.extractLsb' 26 5).toNat * 2 ^ 23 + s.waited m.notReady d, node := m.hdr.dnode.toNat,
               tile := m.hdr.dtile.toNat, extra := 0 }
      else none
    | none => none) ++
  (s.stop t).cr.reqs.filterMap fun r => match r.backoff with
    | some d =>
      if r.op = 5 then
        some { kind := 2, fields := r.msg.hdr.index.toNat * 2 ^ 23 + s.waited r.notReady d, node := r.msg.hdr.dnode.toNat,
               tile := r.msg.hdr.dtile.toNat, extra := 0 }
      else none
    | none => none

/-- The host of a plan node's child under a plan (R512). -/
def State.childHost (s : State) (g : Group) (p : Plan) (c : Child) : Nat × Nat :=
  if c.member then
    match s.pan? g.pan with
    | some r => (r.rank (nth 0 (s.members g) c.index)).getD (0, 0)
    | none => (0, 0)
  else ((p.nodes.find? fun n => n.pnode == c.index).map fun n => (n.node, n.tile)).getD (0, 0)

/-- Head slots that await their due child (R512). -/
def State.collWaits (s : State) (t : Nat) : List WaitEntry :=
  (List.range (nSlots s.build)).filterMap fun k =>
    let x := s.slot t k
    if x.state = 1 then
      let host := match s.groupOf x.key.coll with
        | some g =>
          let p := s.planAt t g
          match p.nodeOf x.key.pnode (g.stripeOf x.key.seg) with
          | some n => (match n.children[x.next]? with | some c => s.childHost g p c | none => (0, 0))
          | none => (0, 0)
        | none => (0, 0)
      some { kind := 3, fields := x.key.coll * 4096 + x.key.pnode % 4096, node := host.1, tile := host.2, extra := x.next }
    else none

/-- Acquires that back off after LOST (R512). -/
def State.lockWaits (s : State) (t : Nat) : List WaitEntry :=
  (s.stop t).cr.reqs.filterMap fun r => match r.lostDue with
    | some d => some { kind := 4, fields := s.waited r.losts d, node := r.msg.hdr.dnode.toNat, tile := r.msg.hdr.dtile.toNat,
                       extra := r.msg.hdr.index.toNat }
    | none => none

/-- Every wait of a stop, in the order of R512. -/
def State.waits (s : State) (t : Nat) : List WaitEntry :=
  s.tWaits t ++ s.cWaits t ++ s.queueWaits t ++ s.collWaits t ++ s.lockWaits t

end Sys2Proof.Machine
end

