-- ==== Sys2Proof/Machine/Regs.lean ====
section
/-! DEFINITION. What every register reads: the pages of the block's units, of a stop and of a link (R7, R8, R23, R24, R36, R37, R59 to R66,
R96 to R99, R135 to R140, R161 to R167, R198, R222 to R227, R266 to R270, R298 to R306, R326 to R330, R354 to R362, R386 to R392,
R402, R403, R420 to R428, R445 to R450, R476 to R485, R516 to R530, R542 to R545, R558 to R562, R575 to R578, R600). An offset that
a page does not list has no register. -/

namespace Sys2Proof.Machine

/-- A register's word from its fields, width and value, the highest first. -/
def pack (l : List (Nat × Nat)) : Word := BitVec.ofNat 32 (l.foldl (fun a e => a * 2 ^ e.1 + e.2 % 2 ^ e.1) 0)

/-- Half `hi` of a 64-bit register. -/
def half64 (v : BitVec 64) (hi : Bool) : Word := v.extractLsb' (if hi then 32 else 0) 32

/-- A signed value saturated to `n` bits, in two's complement, and whether it saturated (R49). -/
def satS (n : Nat) (v : Int) : Nat × Bool :=
  let c := clampI (-(2 ^ (n - 1) : Int)) (2 ^ (n - 1) - 1) v
  ((c % (2 ^ n : Int)).toNat, decide (c ≠ v))

/-! ## BLK (R7, R8, R37, R166, R167, R198, R392, R575, R600) -/

/-- BLK_STAT (R575). -/
def State.blkStat (s : State) : Word :=
  pack [(3, s.start.phase), (1, b2n s.start.fuseErr), (1, b2n s.start.pllErr), (2, s.start.cause), (1, b2n s.img.act.loaded), (8, 0),
    (8, s.start.bistSpare.toNat), (8, s.start.bistFault.toNat)]

/-- BLK_ATTN of a window (R600). -/
def State.blkAttn (s : State) (w : Nat) : Word := pack [(3, w), (21, 0), (4, s.attn w), (4, 0)]

/-- The registers of the BLK page. -/
def State.blkVal (s : State) (w o : Nat) : Option Word :=
  match o with
  | 0x000 => some s.blkId
  | 0x004 => some (pack [(9, nLinks s.build), (7, nSlices s.build), (5, pcols s.build), (5, 16), (6, 0)])
  | 0x008 => some s.blkStat
  | 0x00C => some (s.blkAttn w)
  | 0x020 => some (pack [(24, 0), (1, b2n s.qtrainOk), (1, b2n s.phaseLost), (3, 0), (3, s.ctrl.xstat.toNat)] &&& 0xC7)
  | 0x040 => some (half64 s.ctrl.slotAt false)
  | 0x044 => some (half64 s.ctrl.slotAt true)
  | 0x048 => some (pack [(22, 0), (1, b2n s.slotBank), (1, b2n s.swapComing), (8, 0)])
  | 0x050 => some (s.ctrl.nlost.setWidth 32)
  | _ => if 0x080 ≤ o ∧ o < 0x0C0 then some (fmtWord s.img.act.formats ((o - 0x080) / 4)) else none

/-! ## TIDE (R59 to R66) -/

/-- TIDE_LDLY_n (R65). -/
def State.ldlyWord (s : State) (n : Nat) : Word :=
  match Tab.get? s.tide.ldly n with
  | some d =>
    let o := satS 12 d.ofs
    pack [(1, 1), (1, b2n o.2), (1, b2n (decide (65535 < d.dly ∨ d.dly < 0))), (1, 0), (12, o.1), (16, (clampI 0 65535 d.dly).toNat)]
  | none => 0

/-- The registers of the TIDE page. -/
def State.tideVal (s : State) (w o : Nat) : Option Word :=
  let t := s.tide
  match o with
  | 0x000 => some (half64 t.count false)
  | 0x004 => some (Tab.get 0 t.nowHi w)
  | 0x008 => some (pack [(16, (t.accErr % 65536).toNat), (8, 0), (1, b2n t.oob), (1, b2n t.sat), (1, b2n t.onBackup), (3, t.depth.toNat), (2, t.state.toNat)])
  | 0x00C => some 0
  | 0x010 => some (half64 t.load false)
  | 0x014 => some (half64 t.load true)
  | 0x018 => some (pack [(16, (satS 16 t.ofs).1), (1, b2n (satS 16 t.ofs).2), (2, 0), (13, (t.trim % 8192).toNat)])
  | 0x01C => some t.cfg.word
  | 0x020 => some (half64 t.stepBits false)
  | 0x024 => some (Tab.get 0 t.stepHi w)
  | _ => if 0x400 ≤ o ∧ (o - 0x400) / 4 < nLinks s.build then some (s.ldlyWord ((o - 0x400) / 4)) else none

/-! ## IMG (R445 to R450) -/

/-- Bytes that the LOADING target has received (R450). -/
def State.imgRcvd (s : State) : Nat := match s.loadingTarget with | some k => 4 * (s.target k).words.length | none => 0

/-- The registers of the IMG page. -/
def State.imgVal (s : State) (o : Nat) : Option Word :=
  let i := s.img
  match o with
  | 0x000 | 0x00C => some 0
  | 0x004 => some (pack [(1, b2n s.fullPending), (1, b2n i.factory), (3, 0), (3, i.errTgt), (4, i.err), (10, 0), (2, (s.target 4).state),
      (2, (s.target 3).state), (2, (s.target 2).state), (2, (s.target 1).state), (2, (s.target 0).state)])
  | 0x008 => some i.lenReg
  | 0x010 => some (half64 i.at_ false)
  | 0x014 => some (half64 i.at_ true)
  | 0x018 => some (pack [(2, i.last), (14, i.drain), (16, 0)])
  | 0x01C => some (BitVec.ofNat 32 i.act.seq)
  | 0x020 => some (pack [(16, i.errType), (16, min 65535 i.errRec)])
  | 0x024 => some (BitVec.ofNat 32 s.imgRcvd)
  | _ => none

/-! ## PAN (R420 to R428, R578) -/

/-- The selected pan's record, where the pan includes this die. -/
def State.selPan (s : State) (w : Nat) : Option PanRec := (s.pan? (s.panWin w).sel.toNat).filter s.panHere

/-- PAN_SHAPE, PAN_NODES and PAN_STAT of a window's selected pan (R421 to R423). -/
def State.panShape (s : State) (w : Nat) : Word :=
  match s.selPan w with
  | some p => pack [(1, 1), (1, b2n p.ringC), (1, b2n p.ringY), (1, b2n p.ringX), (10, 0), (5, p.x1), (4, p.y1), (5, p.x0), (4, p.y0)]
  | none => 0
def State.panNodesWord (s : State) (w : Nat) : Word :=
  match s.selPan w with
  | some p => pack [(3, 0), (13, p.nodes.length), (4, 0), (12, p.nodes.idxOf s.node)]
  | none => 0
def State.panStat (s : State) (w : Nat) : Word :=
  let id := (s.panWin w).sel.toNat
  let drain := s.img.switches.any fun x => x.draining && x.panset.contains id
  let st := match s.selPan w with | some p => (if drain then 2 else 1, p.tiles) | none => (0, 0)
  pack [(2, st.1), (5, 0), (9, st.2), (8, (Tab.get 0 s.pans.late id).toNat), (8, (Tab.get 0 s.pans.foreign id).toNat)]

/-- PAN_SW_STAT of the stage that a window's PAN_ARM selects (R426). -/
def State.panSwStat (s : State) (w : Nat) : Word :=
  let k := (s.panWin w).stage
  let x : SwStat := Tab.get default s.img.swStat k
  let sw := s.img.switches.find? fun x => x.id == .stage k
  pack [(1, b2n sw.isSome), (1, b2n (sw.any (·.draining))), (6, 0), (4, x.last), (4, 0), (8, x.aborted.toNat), (8, x.failed.toNat)]

/-- PAN_BIND_w_k (R427). -/
def State.panBind (s : State) (o : Nat) : Word := (Tab.get 0 s.pans.bind ((o - 0x100) / 0x20)).extractLsb' (32 * ((o % 0x20) / 4)) 32

/-- The registers of the PAN page as window `w` sees them. -/
def State.panVal (s : State) (w o : Nat) : Option Word :=
  let x := s.panWin w
  match o with
  | 0x000 => some (x.sel.setWidth 32)
  | 0x004 => some (s.panShape w)
  | 0x008 => some (s.panNodesWord w)
  | 0x00C => some (s.panStat w)
  | 0x010 => some (half64 x.arm false)
  | 0x014 => some (half64 x.arm true)
  | 0x018 => some (pack [(2, 0), (14, x.drain), (14, 0), (2, x.stage)])
  | 0x01C => some (s.panSwStat w)
  | 0x020 => some (pack [(1, 0), (1, b2n (s.img.switches.any fun y => y.id == .reset x.rstPan.toNat)), (22, 0), (8, x.rstPan.toNat)])
  | _ =>
    if 0x120 ≤ o ∧ o < 0x200 then some (s.panBind o)
    else if 0x200 ≤ o ∧ o < 0x220 then some ((s.rights ((o - 0x200) / 4)).setWidth 32)
    else none

/-! ## FLT (R476 to R482, R576) -/

/-- A word of a record (R478). -/
def FltRec.word (r : FltRec) (k : Nat) : Word :=
  match k with
  | 0 => pack [(2, r.state), (2, r.cls), (4, r.action), (8, 0), (16, r.code)]
  | 1 => pack [(16, r.count), (16, r.unit)]
  | 2 => r.detV
  | 3 => pack [(16, r.detT), (16, r.detN)]
  | 4 => r.tick
  | _ => pack [(16, r.lastCode), (16, 0)]

/-- Records of the log that meet `p`. -/
def Flt.count (f : Flt) (p : FltRec → Bool) : Nat := ((List.range 64).filter fun e => p (f.entry e)).length

/-- The registers of the FLT page as window `w` sees them. -/
def State.fltVal (s : State) (w o : Nat) : Option Word :=
  let f := s.flt
  let sel := Tab.get 0 f.sel w
  let r := f.entry (sel.extractLsb' 0 6).toNat
  match o with
  | 0x000 => some (pack [(1, b2n f.stopped), (1, b2n f.degraded), (1, b2n s.errLow), (1, b2n f.fclass), (1, b2n f.ftest), (3, 0), (8, f.lost.toNat),
      (1, 0), (7, f.count fun r => r.state == 1), (1, 0), (7, f.count FltRec.handling)])
  | 0x004 => some sel
  | 0x008 => some (if s.inScope w r then r.word (sel.extractLsb' 8 3).toNat else 0)
  | 0x00C | 0x024 => some 0
  | 0x010 => some (BitVec.ofNat 32 f.escTime)
  | 0x014 => some (BitVec.ofNat 32 f.quietTime)
  | 0x018 => some (f.recov.setWidth 32)
  | 0x01C => some (f.injUnit.setWidth 32)
  | 0x020 => some (f.injCode.setWidth 32)
  | _ => none

/-! ## PWR (R558 to R562) -/

/-- The highest step in force (R559): 1 slow, 2 sluice, 3 lanes. -/
def Power.step (p : Power) : Nat := if p.laneSlp then 3 else if 0 < p.sfloor then 2 else if p.overNow then 1 else 0

/-- The registers of the PWR page as window `w` sees them. -/
def State.pwrPage (s : State) (w o : Nat) : Option Word :=
  let p := s.pwr
  let id := (Tab.get 0x3000 p.sel w).toNat
  let r := s.pwrReq id
  match o with
  | 0x000 => some (pack [(1, b2n p.valid), (16, 0), (15, p.budget.toNat)])
  | 0x004 => some (pack [(1, b2n p.overNow), (1, b2n p.short), (2, p.step), (3, p.sfloor), (1, b2n p.laneSlp), (8, p.badVal.toNat), (16, 0)])
  | 0x008 => some (pack [(16, min 65535 p.acct), (16, min 65535 p.granted)])
  | 0x00C => some (BitVec.ofNat 32 s.ramp)
  | 0x010 => some (BitVec.ofNat 32 id)
  | 0x014 => some (pack [(16, min 65535 (s.pwrDemand id)), (16, min 65535 r.grant)])
  | 0x018 => some (pack [(16, min 65535 (s.pwrFloor id)), (8, s.pwrWeight id), (7, 0), (1, b2n r.slow)])
  | _ => none

/-! ## HRV and RAKE (R516 to R528) -/

/-- Every link's capture has settled (R494, R519). -/
def Harvest.settled (h : Harvest) : Bool := !h.captures.isEmpty && h.captures.all fun c => c.2.settled

/-- The registers of the HRV page. -/
def State.hrvVal (s : State) (o : Nat) : Option Word :=
  let h := s.hrv
  match o with
  | 0x000 | 0x028 => some 0
  | 0x004 => some (half64 h.at_ false)
  | 0x008 => some (half64 h.at_ true)
  | 0x00C => some (pack [(1, b2n h.pinReq), (1, b2n h.autoScope), (14, 0), (16, s.podLead)])
  | 0x010 => some (pack [(2, h.state), (1, b2n h.pod), (1, b2n h.tpend), (1, b2n h.lateF), (1, b2n h.whit), (1, b2n !h.pinLow), (1, b2n h.settled),
      (4, h.src), (4, h.wnum), (8, h.absorb.toNat), (8, h.reqid.toNat)])
  | 0x014 => some (half64 h.th false)
  | 0x018 => some (half64 h.th true)
  | 0x01C => some (half64 h.tt false)
  | 0x020 => some (half64 h.tt true)
  | 0x024 => some (h.scanUnit.setWidth 32)
  | 0x02C => some (pack [(1, 0), (1, b2n h.scanAll), (29, 0), (1, b2n !h.scanTodo.isEmpty)])
  | _ => none

/-- The registers of the RAKE page. -/
def State.rakeVal (s : State) (o : Nat) : Option Word :=
  let r := s.rake
  match o with
  | 0x000 => some (pack [(2, r.state), (30, 0)])
  | 0x004 => some (r.srcs.setWidth 32)
  | 0x008 => some (r.trig.setWidth 32)
  | 0x00C => some r.mute
  | 0x010 => some (BitVec.ofBool r.wrapped ++ r.wp)
  | 0x014 => some (BitVec.ofBool r.tposVld ++ r.tpos)
  | 0x018 => some (r.lost ++ r.gaps ++ r.xtrig)
  | 0x01C => some (BitVec.ofBool r.txup ++ BitVec.ofBool r.rxlock ++ (0 : BitVec 18) ++ r.pos ++ (0 : BitVec 1) ++ r.share)
  | 0x020 => some 0
  | _ => none

/-! ## CHK (R542 to R545) -/

/-- CHK_STAT of a unit (R543). -/
def State.chkStat (s : State) (c : Check) : Word :=
  pack [(2, if c.state = 0 ∧ s.fc < c.busy then 1 else c.state), (1, b2n c.owner.isSome), (3, c.owner.getD 0), (4, c.alive.toNat),
    (1, b2n (c.state == 2 && decide (2 ≤ s.hrv.state))), (21, 0)]

/-- The registers of a check unit as window `w` sees them. -/
def State.chkReg (s : State) (c : Check) (w k : Nat) : Option Word :=
  match k with
  | 0x00 => some (pack [(14, 0), (1, b2n c.refin), (1, b2n c.refout), (9, 0), (7, c.w)])
  | 0x04 => some (s.chkStat c)
  | 0x08 => some (half64 c.p false)
  | 0x0C => some (half64 c.p true)
  | 0x10 => some (half64 c.i false)
  | 0x14 => some (half64 c.i true)
  | 0x18 => some (half64 c.x false)
  | 0x1C => some (half64 c.x true)
  | 0x20 => some (half64 c.v false)
  | 0x24 => some (Tab.get 0 c.capHi w)
  | 0x28 | 0x2C | 0x30 => some 0
  | 0x34 => some (c.scanAt.extractLsb' 0 32)
  | 0x38 => some ((c.scanAt.extractLsb' 32 16).setWidth 32)
  | 0x3C => some c.len
  | 0x40 => some (half64 c.result false)
  | 0x44 => some (half64 c.result true)
  | 0x48 => some ((Tab.get? c.capDone w).getD c.done)
  | _ => none

/-- The registers of the CHK page: unit u at 0x80 × u. -/
def State.chkVal (s : State) (w o : Nat) : Option Word := if o < 0x400 then s.chkReg (s.check (o / 0x80)) w (o % 0x80) else none

/-! ## MEM and SPARE (R24, R326 to R329, R484, R485) -/

/-- MEM_SLICE_STAT of the selected slice (R329). -/
def State.sliceStat (s : State) (sl : Nat) : Word :=
  let a := s.attach sl
  pack [(1, b2n a.alive), (1, b2n a.timeout), (1, b2n a.ovr), (5, 0), (8, a.errcnt.toNat), (6, 0), (10, min 1023 a.queue.length)]

/-- The registers of the MEM page, which an HF-S die does not have (R393). -/
def State.memVal (s : State) (o : Nat) : Option Word :=
  if s.build = .hfS then none
  else match o with
    | 0x000 => some (BitVec.ofNat 32 s.img.act.memS)
    | 0x004 => some (s.ctrl.memLost ++ s.ctrl.memSlice ++ s.ctrl.memDropped ++ s.ctrl.memCorr)
    | 0x008 => some s.ctrl.sliceSel
    | 0x00C => some (s.sliceStat s.ctrl.sliceSel.toNat)
    | _ => none

/-- SPARE_MAP_y (R24). -/
def Row.word (r : Row) : Word :=
  pack [(1, b2n r.hole.isSome), (1, b2n (r.fuse.isSome && r.field.isSome)), (1, b2n r.fuse.isSome), (1, b2n r.field.isSome), (2, r.src),
    (5, r.hole.getD 0), (5, r.field.getD 0), (3, 0), (5, r.fuse.getD 0), (3, 0), (5, r.col)]

/-- The registers of the SPARE page. -/
def State.spareVal (s : State) (o : Nat) : Option Word :=
  if o < 0x40 then some (s.row (o / 4)).word
  else if o < 0x80 then some ((Tab.get 0 s.flt.fenced ((o - 0x40) / 4)).setWidth 32)
  else if o = 0x80 then
    some (pack [(1, b2n s.flt.degraded), (7, 0), (8, s.flt.nWires.toNat), (8, min 255 (s.allLinks.filter fun n => (s.link n).half).length),
      (5, ((List.range 16).filter fun y => (s.row y).hole.isSome).length), (3, 0)])
  else none

/-! ## The STOP page -/

/-- STOP_ID (R23). -/
def State.stopId (s : State) (t : Nat) : Word :=
  let px := s.physX (tileX t) (tileY t)
  pack [(2, 0), (2, quadrant s.build px (tileY t)), (5, tileX t), (4, tileY t), (5, px), (4, tileY t), (10, 0)]

/-- STOP_XSTAT (R36). -/
def State.xstatWord (s : State) (t : Nat) : Word := pack [(16, 0), (16, (s.stop t).xst.toNat)] &&& 0xFF0E ||| BitVec.ofNat 32 (b2n (s.stop t).alive)

/-- STOP_RT_DATA (R136). -/
def Routes.data (r : Routes) : Word :=
  let i := (r.rtIdx.extractLsb' 0 12).toNat
  match (r.rtIdx.extractLsb' 30 2).toNat with
  | 0 => (Tab.get 0 r.route i).setWidth 32
  | 1 => Tab.get 0 r.egress i
  | _ => Tab.get 0 r.tree i

/-- STOP_FENCE (R137). -/
def State.fenceWord (s : State) (t : Nat) : Word :=
  let r := (s.stop t).ro
  let dead (p : Nat) : Nat := b2n ((neighbour s.build t p).isSome && s.deadOut t p)
  pack [(8, r.fnack.toNat), (8, r.noroute.toNat), (7, 0), (1, b2n r.setActive), (1, dead 0), (1, dead 1), (1, dead 2), (1, dead 3), (3, 0), (1, b2n r.clientFenced)]

/-- A register of the sluice's thresholds `from_` upward (R139): 0 until an image has loaded them. -/
def State.thrWord (s : State) (l : List Nat) (a : Bool) : Word :=
  if s.img.act.loaded then
    if a then pack [(8, nth 0 l 3), (8, nth 0 l 2), (8, nth 0 l 1), (8, nth 0 l 0)] else pack [(8, 0), (8, nth 0 l 6), (8, nth 0 l 5), (8, nth 0 l 4)]
  else 0

/-- The output that STOP_SLOT_IDX selects (R163). -/
def State.slotSel (s : State) (t : Nat) : OutPort :=
  let r := (s.stop t).rt
  match slotPort s.build t (r.slotIdx.extractLsb' 28 4).toNat with
  | some p => r.outp p
  | none => OutPort.init

/-- STOP_SLOT_DATA (R164). -/
def State.slotData (s : State) (t : Nat) : Word :=
  let i := (s.stop t).rt.slotIdx
  ((s.slotSel t).bank (s.slotBank != i.getLsbD 27)).entry (i.extractLsb' 0 8).toNat

/-- STOP_SLOT_STAT (R165). -/
def State.slotStat (s : State) (t : Nat) : Word :=
  let r := (s.stop t).rt
  let off := (portsOf s.build t).any fun p => ((r.outp p).bank s.slotBank).entries.any fun e => s.ceased t p e.2
  pack [(8, r.cdrop.toNat), (8, r.mispl.toNat), (3, 0), (5, (s.slotSel t).tbal), (7, 0), (1, b2n off)]

/-- Slots of a tile's store in a state (R224). -/
def State.slotsIn (s : State) (t : Nat) (p : Slot → Bool) : Nat := ((List.range (nSlots s.build)).filter fun k => p (s.slot t k)).length

/-- STOP_CU_CAP (R224). -/
def State.cuCap (s : State) (t : Nat) : Word :=
  let c := (s.stop t).cu
  pack [(1, b2n c.laneSpare.isSome), (1, b2n c.fenced), (3, 0), (9, s.slotsIn t fun x => x.state != 5), (9, s.slotsIn t fun x => x.state == 0),
    (9, s.slotsIn t fun x => x.state == 4)]

/-- A word of a slot's record (R227). -/
def State.slotWord (s : State) (t k i : Nat) : Word :=
  let x := s.slot t k
  if x.state = 0 then 0
  else match i with
    | 0 => pack [(3, x.state), (1, b2n x.proxy), (12, x.key.pnode), (16, x.key.coll)]
    | 1 => pack [(3, 0), (9, x.next), (20, x.key.seg)]
    | 2 => pack [(8, x.saf.toNat), (8, if x.state = 2 then x.child else (s.holdsOf t x.key).length), (16, x.acw.toNat)]
    | _ => x.sig

/-- The registers of the combine unit (R222 to R227). -/
def State.cuVal (s : State) (t o : Nat) : Option Word :=
  let c := (s.stop t).cu
  match o with
  | 0x400 => let g := s.cuCfg t; some (pack [(8, 0), (8, g.1), (8, g.2.1), (8, g.2.2)])
  | 0x404 => some (c.nbusy ++ c.nbyp ++ c.nproxy ++ c.ndup)
  | 0x408 => some (s.cuCap t)
  | 0x40C => some (c.corr ++ c.uncor ++ c.laneerr ++ c.nospare ++ BitVec.ofNat 4 (min 15 c.spared.length))
  | 0x410 => some c.slotIdx
  | 0x414 => some (s.slotWord t (c.slotIdx.extractLsb' 0 8).toNat (c.slotIdx.extractLsb' 8 2).toNat)
  | _ => none

/-- The registers of collectives and the relay buffer (R266 to R270, R403). -/
def State.coVal (s : State) (t o : Nat) : Option Word :=
  let c := (s.stop t).co
  match o with
  | 0x500 => some (pack [(11, 0), (5, c.roots.length), (3, 0), (5, c.live.length), (4, 0), (4, c.lastst.toNat)])
  | 0x504 => some (c.replays ++ c.mism ++ c.aborts ++ c.takeovers)
  | 0x508 => some (BitVec.ofNat 32 c.gsel)
  | 0x50C => some (Tab.get 0 c.cseqs c.gsel)
  | 0x510 => some 0
  | 0x804 => some (pack [(8, c.refusals.toNat), (8, c.rounds.toNat), (10, 0), (6, s.relayUsed t)])
  | _ => none

/-- The registers of queues and locks (R298 to R306); a ring register under a register queue replies ERROR (R299). -/
def State.qVal (s : State) (t o : Nat) : Option (Nat × Word) :=
  let b := (s.stop t).q
  let q := s.queue t b.sel
  let l := (s.stop t).lk
  let k := (Tab.get Lock.init l.locks l.sel)
  let ring (w : Word) : Option (Nat × Word) := some (if b.sel < 16 then (rError, 0) else (rOk, w))
  match o with
  | 0x600 => some (rOk, 0)
  | 0x604 => some (rOk, BitVec.ofNat 32 b.sel)
  | 0x608 => some (rOk, pack [(2, q.state), (1, b2n q.disp), (1, 0), (8, q.epoch.toNat), (6, 0), (7, if b.sel < 16 then q.depth else 0), (7, if b.sel < 16 then q.entries.length else 0)])
  | 0x60C => ring (q.base.extractLsb' 0 32)
  | 0x610 => ring ((q.base.extractLsb' 32 8).setWidth 32)
  | 0x614 => ring (q.size.setWidth 32)
  | 0x618 => ring (pack [(1, b2n q.wrLap), (31, q.wrOfs)])
  | 0x61C => ring (pack [(1, b2n q.rdLap), (31, q.rdOfs)])
  | 0x620 => some (rOk, b.notready ++ b.refused ++ b.skip ++ b.repeats)
  | 0x630 => some (rOk, BitVec.ofNat 32 l.sel)
  | 0x634 => some (rOk, pack [(2, k.state), (1, b2n k.orph), (13, 0), (16, k.gen.toNat)])
  | 0x638 => some (rOk, if k.state = 0 then 0 else pack [(11, 0), (12, k.node), (9, k.tile)])
  | 0x63C => some (rOk, l.grant ++ l.ogrant ++ l.lost ++ l.orphaned)
  | _ => none

/-- A word of a command record (R530). -/
def CmdRec.word (r : CmdRec) (k : Nat) : Word :=
  match k with
  | 0 => r.ctag
  | 1 => pack [(4, r.dkind), (24, 0), (4, r.code)]
  | 2 => r.start.tick
  | 3 => r.fin.tick
  | 4 => r.fin.c0
  | 5 => r.fin.c1
  | 6 => r.fin.c2
  | _ => pack [(16, min 65535 r.fin.c3.toNat), (16, min 65535 r.fin.c4.toNat)]

/-- The debug registers of a stop (R529, R530). -/
def State.probeVal (s : State) (t o : Nat) : Option Word :=
  let p := (s.stop t).pb
  let ws := s.waits t
  let e := (ws.take 64)[p.waitSel.toNat]?
  match o with
  | 0xA00 => some p.waitSel
  | 0xA04 => some (pack [(1, b2n (decide (64 < ws.length))), (24, 0), (7, min 64 ws.length)])
  | 0xA08 => some ((e.map WaitEntry.d0).getD 0)
  | 0xA0C => some ((e.map WaitEntry.d1).getD 0)
  | 0xB00 => some p.recSel
  | 0xB04 => some ((p.recs[(p.recSel.extractLsb' 0 4).toNat]?.map fun r => r.word (p.recSel.extractLsb' 8 3).toNat).getD 0)
  | _ => none

/-- The registers of the message side of the SI (R96 to R99, R391). -/
def State.siVal (s : State) (t o : Nat) : Option Word :=
  let si := (s.stop t).si
  match o with
  | 0x100 => some (BitVec.ofNat 32 si.rxlim)
  | 0x104 => some (BitVec.ofNat 32 (si.rxlim / 2 ^ 32))
  | 0x108 => some (pack [(8, si.incomplete.toNat), (8, si.bounds.toNat), (8, si.killed.toNat), (3, 0), (5, si.robUsed)])
  | 0x10C => some (pack [(8, si.resent.toNat), (8, si.undeliv.toNat), (8, si.notready.toNat), (1, 0), (7, si.inflight)])
  | 0x110 => some (pack [(10, 0), (6, si.asms.length), (16, si.mseq.toNat)])
  | 0x114 => some (pack [(8, si.e2eDup.toNat), (8, si.e2eUnchk.toNat), (11, 0), (5, si.e2eWins.length)])
  | 0x224 => some (pack [(8, si.mcTimeout.toNat), (8, si.ejdrop.toNat), (8, si.brdrop.toNat), (3, 0), (5, si.records.length)])
  | 0x904 => some (pack [(1, 0), (1, b2n si.rstBusy), (22, 0), (8, si.rstCount.toNat)])
  | _ => none

/-- The registers of the router and its tables, the sluice and the M-port (R23, R36, R135 to R139, R161 to R165, R330, R402, R483). -/
def State.rtVal (s : State) (t o : Nat) : Option Word :=
  let st := s.stop t
  match o with
  | 0x000 => some (s.stopId t)
  | 0x004 => some (s.xstatWord t)
  | 0x200 => some st.ro.rtIdx
  | 0x204 => some st.ro.data
  | 0x208 => some (s.fenceWord t)
  | 0x210 => some (pack [(8, st.sl.metric.toNat), (8, st.sl.peak.toNat), (5, 0), (3, st.sl.floor), (1, 0), (3, st.sl.eff), (1, 0), (3, st.sl.level)])
  | 0x214 => some (s.thrWord s.img.act.up true)
  | 0x218 => some (s.thrWord s.img.act.up false)
  | 0x21C => some (s.thrWord s.img.act.dn true)
  | 0x220 => some (s.thrWord s.img.act.dn false)
  | 0x300 => some st.rt.prio
  | 0x304 => some st.rt.arb
  | 0x308 => some st.rt.slotIdx
  | 0x30C => some (s.slotData t)
  | 0x310 => some (s.slotStat t)
  | 0x700 => if s.build = .hfS then none else
      some (pack [(8, st.mp.winviol.toNat), (8, st.mp.err.toNat), (3, 0), (9, st.mp.reqs.length), (4, min 15 (st.mp.balance s.ft / 256))])
  | 0x800 => some (BitVec.ofNat 32 (s.clientKind t))
  | 0x900 => some 0
  | _ => none

/-- What a register of the stop at `t` reads, with its code; none where the page has no register at the offset. -/
def State.stopVal (s : State) (t o : Nat) : Option (Nat × Word) :=
  match s.qVal t o with
  | some r => some r
  | none => (((((s.rtVal t o).orElse fun _ => s.siVal t o).orElse fun _ => s.cuVal t o).orElse fun _ => s.coVal t o).orElse fun _ => s.probeVal t o).map fun w => (rOk, w)

/-- The RC fields of a stop's register are cleared by its read (R5). -/
def State.stopClear (s : State) (t o : Nat) : State :=
  match o with
  | 0x108 => s.modSi t fun si => { si with incomplete := 0, bounds := 0, killed := 0 }
  | 0x10C => s.modSi t fun si => { si with resent := 0, undeliv := 0, notready := 0 }
  | 0x114 => s.modSi t fun si => { si with e2eDup := 0, e2eUnchk := 0 }
  | 0x208 => s.modRo t fun r => { r with fnack := 0, noroute := 0 }
  | 0x210 => s.modSl t fun sl => { sl with peak := 0 }
  | 0x224 => s.modSi t fun si => { si with mcTimeout := 0, ejdrop := 0, brdrop := 0 }
  | 0x310 => s.modRt t fun r => { r with cdrop := 0, mispl := 0 }
  | 0x404 => s.modCu t fun c => { c with nbusy := 0, nbyp := 0, nproxy := 0, ndup := 0 }
  | 0x40C => s.modCu t fun c => { c with corr := 0, uncor := 0, laneerr := 0 }
  | 0x504 => s.modCo t fun c => { c with replays := 0, mism := 0, aborts := 0, takeovers := 0 }
  | 0x620 => s.modQ t fun q => { q with notready := 0, refused := 0, skip := 0, repeats := 0 }
  | 0x63C => s.modStop t fun st => { st with lk := { st.lk with grant := 0, ogrant := 0, lost := 0, orphaned := 0 } }
  | 0x700 => s.modMp t fun m => { m with winviol := 0, err := 0 }
  | 0x804 => s.modCo t fun c => { c with refusals := 0, rounds := 0 }
  | _ => s

/-! ## The LINK page -/

/-- LINK_STAT (R355). -/
def Link.statWord (l : Link) : Word :=
  pack [(4, l.state), (4, l.reason), (2, l.rx0), (2, l.rx1), (2, l.tx0), (2, l.tx1), (1, b2n l.kpr.locked), (1, b2n l.half), (2, min 3 l.attempts), (12, 0)]

/-- LINK_LANE_n (R356): the codes in force, or those written with OVR. -/
def Lane.word (x : Lane) : Word :=
  let c := if x.ovr then x.next.getD (x.ctle, x.pre, x.post) else (x.ctle, x.pre, x.post)
  pack [(2, x.rxst), (2, x.txst), (1, b2n x.cwlock), (1, b2n x.ovr), (5, c.1.toNat), (5, 0), (4, c.2.1.toNat), (5, c.2.2.toNat), (7, x.main.toNat)]

/-- The registers of a link's page. -/
def State.linkVal (s : State) (n o : Nat) : Option Word :=
  let l := s.link n
  let ll := l.ll
  match o with
  | 0x000 => some (pack [(1, b2n l.en), (1, b2n l.expect), (1, 0), (1, b2n l.spareEn), (2, l.loop), (2, l.preset), (3, 0), (1, b2n l.expVld), (12, l.expNode.toNat), (8, l.expLink.toNat)])
  | 0x004 => some l.statWord
  | 0x008 => some (l.lane 0).word
  | 0x00C => some (l.lane 1).word
  | 0x010 => some (l.lane 2).word
  | 0x014 => some (l.corrLim ++ l.uncLim ++ (0 : BitVec 8))
  | 0x020 => some ((l.lane 0).corr ++ (l.lane 0).uncor)
  | 0x024 => some ((l.lane 1).corr ++ (l.lane 1).uncor)
  | 0x028 => some ((l.lane 2).corr ++ (l.lane 2).uncor)
  | 0x030 => some (pack [(2, l.pat), (19, 0), (3, l.gen.toNat), (1, 0), (3, l.chkEn.toNat), (1, 0), (3, l.mask fun x => x.plock)])
  | 0x034 => some (l.lane 0).prbsErr
  | 0x038 => some (l.lane 1).prbsErr
  | 0x03C => some (l.lane 2).prbsErr
  | 0x040 => some (l.kpr.crcErr ++ l.kpr.badMsg ++ l.kpr.resend ++ l.kpr.comma)
  | 0x044 => some (pack [(1, b2n l.farVld), (3, 0), (8, l.farLink.toNat), (12, l.farNode.toNat), (8, l.farRole.toNat)])
  | 0x050 => some (pack [(3, (s.linkRec n).role), (9, 0), (4, ll.rlim.toNat), (16, ll.rto.toNat)])
  | 0x054 => some (pack [(1, b2n ll.lost), (1, b2n (s.circOff n)), (1, b2n !ll.relays.isEmpty), (2, 0), (1, b2n ll.toRx), (1, b2n ll.ovrRx), (1, b2n ll.ovrEv),
      (1, 0), (7, ll.replay.length), (6, 0), (10, ll.nextSeq.toNat)])
  | 0x058 => some (ll.crcErr ++ ll.replayCnt ++ ll.nakSent ++ ll.cdrop)
  | 0x05C => some (pack [(22, 0), (10, if s.build = .hfS then 0 else (s.linkRec n).circ)])
  | 0x060 => some (pack [(8, Tab.get 0 ll.credit 3), (8, Tab.get 0 ll.credit 2), (8, Tab.get 0 ll.credit 1), (8, Tab.get 0 ll.credit 0)])
  | 0x064 => some (pack [(16, 0), (8, Tab.get 0 ll.credit 5), (8, Tab.get 0 ll.credit 4)])
  | 0x070 => let c := s.capture n
    some (pack [(1, b2n c.settled), (7, c.capt), (8, c.late.toNat), (8, c.ovf.toNat), (8, 0)])
  | _ => none

/-- The RC fields of a link's register are cleared by its read (R5). -/
def State.linkClear (s : State) (n o : Nat) : State :=
  let fec (k : Nat) : State := s.modLink n fun l => l.modLane k fun x => { x with corr := 0, uncor := 0 }
  let prbs (k : Nat) : State := s.modLink n fun l => l.modLane k fun x => { x with prbsErr := 0 }
  match o with
  | 0x020 => fec 0
  | 0x024 => fec 1
  | 0x028 => fec 2
  | 0x034 => prbs 0
  | 0x038 => prbs 1
  | 0x03C => prbs 2
  | 0x040 => s.modKpr n fun k => { k with crcErr := 0, badMsg := 0, resend := 0, comma := 0 }
  | 0x058 => s.modLl n fun l => { l with crcErr := 0, replayCnt := 0, nakSent := 0, cdrop := 0 }
  | _ => s

end Sys2Proof.Machine
end

