-- ==== Sys2Proof/Machine/Scan.lean ====
section
/-! DEFINITION. The scan of a unit's state through HRV_SCAN_DATA and as STATE records (R496, R497, R521). -/

namespace Sys2Proof.Machine

/-- The words of a page's registers between two offsets, in offset order. -/
def pageWords (f : Nat → Option Word) (from_ to_ : Nat) : List Word := (List.range ((to_ - from_) / 4)).filterMap fun i => f (from_ + 4 * i)

/-- The stop registers of a type of tile unit (R454, R496): those that the unit's chapter defines. -/
def tileUnitWords (s : State) (t ty : Nat) : List Word :=
  let f (o : Nat) : Option Word := (s.stopVal t o).map (·.2)
  match ty with
  | 0 => pageWords f 0x200 0x224 ++ pageWords f 0x300 0x314
  | 1 => pageWords f 0x700 0x704
  | 2 => []
  | 3 => pageWords f 0x000 0x008 ++ pageWords f 0x100 0x118 ++ pageWords f 0x224 0x228 ++ pageWords f 0x500 0x514 ++ pageWords f 0x800 0x808 ++
      pageWords f 0x900 0x908 ++ pageWords f 0xA00 0xA10 ++ pageWords f 0xB00 0xB08
  | 4 => pageWords f 0x400 0x418
  | 5 => pageWords f 0x600 0x624
  | _ => pageWords f 0x630 0x640

/-- The page registers of a block unit, as window `w` sees them. -/
def blockUnitWords (s : State) (w i : Nat) : List Word :=
  match i with
  | 0 => pageWords (s.tideVal w) 0 0x600
  | 1 => pageWords s.imgVal 0 0x40 ++ pageWords (s.panVal w) 0 0x220
  | 2 => pageWords (s.pwrPage w) 0 0x20
  | 3 => pageWords s.hrvVal 0 0x30 ++ pageWords s.rakeVal 0 0x24
  | 4 => pageWords (s.chkVal w) 0 0x400
  | 5 => []
  | 6 => pageWords (s.blkVal w) 0 0x0C0
  | _ => pageWords (s.fltVal w) 0 0x28 ++ pageWords s.spareVal 0 0x84

/-- Whether the die has a unit (R454). -/
def State.hasUnit (s : State) (u : Nat) : Bool :=
  let i := u % 4096
  match u / 4096 with
  | 0 | 1 | 2 | 3 | 4 | 5 | 6 => (s.logicalIdx i).isSome
  | 7 | 8 => decide (i < nLinks s.build)
  | 9 => decide (i < nSlices s.build)
  | 10 => decide (i < 8)
  | _ => false

/-- Region 1 of a unit: the page words that its chapters define (R496). -/
def State.unitRegs (s : State) (w u : Nat) : List Word :=
  let i := u % 4096
  match u / 4096 with
  | 7 => pageWords (s.linkVal i) 0 0x050
  | 8 => pageWords (s.linkVal i) 0x050 0x074
  | 9 => [s.sliceStat i]
  | 10 => blockUnitWords s w i
  | ty => match s.logicalIdx i with | some t => tileUnitWords s t ty | none => []

/-- The further regions of a unit by its type (R496). -/
def unitRegions (ty : Nat) : List Nat :=
  match ty with
  | 0 => [2, 3, 7, 8, 12, 15]
  | 1 | 2 => [2, 12, 15]
  | 3 => [9, 12, 15]
  | 4 => [5, 15]
  | 5 => [4, 15]
  | 6 => [6, 15]
  | 8 => [2, 3, 10, 11, 15]
  | _ => [15]

/-- The regions of a unit's stream, each with its words; one that holds nothing is left out. -/
def State.scanRegions (s : State) (w u : Nat) : List (Nat × List Word) :=
  ((1, s.unitRegs w u) :: (unitRegions (u / 4096)).map fun r => (r, Config.scanRegion s u r)).filter fun r => !r.2.isEmpty

/-- A unit's scan stream (R496): the head word, and each region behind its header. -/
def State.scanStream (s : State) (w u : Nat) : List Word :=
  if s.hasUnit u then
    let rs := s.scanRegions w u
    pack [(16, u), (16, rs.length)] :: rs.flatMap fun r => pack [(8, r.1), (24, r.2.length)] :: r.2
  else []

/-- SCAN_DATA_READ (R496, R521): the next word of the stream, 0 after the last; BUSY but in a freeze. -/
def execScanDataRead (q : Req) (s : State) : Host.Outcome State Fault Refusal :=
  ctlRead 0x60028 q s fun s =>
    if s.hasDbg q.win.toNat && decide (s.hrv.state < 2) then s.replyW q rBusy
    else dbgRead q (fun s =>
      (s.modHrv fun h => { h with scanPos := h.scanPos + 1 }, nth 0 (s.scanStream q.win.toNat s.hrv.scanUnit.toNat) s.hrv.scanPos)) s

/-- SCAN_SEL_WRITE (R521): the read restarts at the head word of the unit. -/
def execScanSelWrite (q : Req) (s : State) : Host.Outcome State Fault Refusal :=
  ctlAct 0x60024 q s (dbgWrite q fun s => (s.modHrv fun h => { h with scanUnit := q.wdata.extractLsb' 0 16, scanPos := 0 }, rOk))

/-- Every unit of the die (R454). -/
def State.allUnits (s : State) : List Nat :=
  ((List.range 7).flatMap fun ty => s.tiles.map fun t => unitId ty (s.phys t)) ++ (s.allLinks.map (unitId uPhy)) ++ (s.allLinks.map (unitId uLink)) ++
  ((List.range (nSlices s.build)).map (unitId uSlice)) ++ (List.range 8).map (unitId uBlock)

/-- The STATE records of a unit (R497, R500): a record carries at most 255 raw records of a region, with the word's place in it. -/
def State.stateRecs (s : State) (w u : Nat) : List (Nat × Nat × Nat × List Word) :=
  if s.hasUnit u then
    (s.scanRegions w u).flatMap fun r =>
      (List.range (ceilDiv r.2.length 2040)).map fun i => 
        (u, r.1 * 2 ^ 24 + min 2040 (r.2.length - 2040 * i), 2040 * i, (r.2.drop (2040 * i)).take 2040)
  else []

/-- A write of HRV_SCAN_CTL (R497, R521): ALL is stored, and TRACE begins an emission, in a freeze and to a trace port. -/
def State.scanCtl (s : State) (q : Req) : State × Nat :=
  let all := q.wdata.getLsbD 30
  if q.wdata.getLsbD 31 then
    if s.hrv.state < 2 ∨ s.hrv.scanTodo ≠ [] then (s, rBusy)
    else if s.img.act.trace.sink ≠ 2 then (s, rError)
    else
      let us := if all then s.allUnits else [s.hrv.scanUnit.toNat]
      (s.modHrv fun h => { h with scanAll := all, scanTodo := us.flatMap (s.stateRecs q.win.toNat) }, rOk)
  else (s.modHrv fun h => { h with scanAll := all }, rOk)

/-- SCAN_TRACE (R497): a write of HRV_SCAN_CTL. -/
def execScanTrace (q : Req) (s : State) : Host.Outcome State Fault Refusal := ctlAct 0x6002C q s (dbgWrite q fun s => s.scanCtl q)

end Sys2Proof.Machine
end

