-- ==== Sys2Proof/Machine/Writes.lean ====
section
/-! DEFINITION. What a write of a register without a command of its own does: the block's pages, a stop's page and a link's page
(R5, R36, R37, R62, R66, R96, R135, R163, R166, R226, R268, R299, R304, R328, R329, R357, R386, R387, R392, R420, R424 to R428, R447 to R449,
R468, R477, R480, R482, R517 to R519, R524, R527, R529, R530, R534, R541, R544, R545, R562, R578). -/

namespace Sys2Proof.Machine

/-! ## The block's pages -/

/-- A write to the BLK page (R37, R166, R392). -/
def State.blkWrite (s : State) (o : Nat) (w : Word) : State × Nat :=
  match o with
  | 0x020 => ({ s with ctrl := { s.ctrl with xstat := s.ctrl.xstat &&& ~~~ (w.extractLsb' 0 8) } }, rOk)
  | 0x040 => ({ s with ctrl := { s.ctrl with slotAt := halfSet s.ctrl.slotAt false w } }, rOk)
  | 0x044 => ({ s with ctrl := { s.ctrl with slotAt := halfSet s.ctrl.slotAt true w } }, rOk)
  | 0x050 =>
    let v := w.extractLsb' 0 16
    if v = 0 then (s, rError) else ({ s with ctrl := { s.ctrl with nlost := v } }, rOk)
  | _ => (s, rOk)

/-- A write to the TIDE page (R60, R62). -/
def State.tideWrite (s : State) (o : Nat) (w : Word) : State × Nat :=
  match o with
  | 0x008 => (tideStatWrite s (w.getLsbD 7) (w.getLsbD 6), rOk)
  | 0x010 => (s.modTide fun t => { t with load := halfSet t.load false w }, rOk)
  | 0x014 => (s.modTide fun t => { t with load := halfSet t.load true w }, rOk)
  | _ => (s, rOk)

/-- A write to the IMG page (R447 to R449). -/
def State.imgWrite (s : State) (o : Nat) (w : Word) : State × Nat :=
  match o with
  | 0x000 => (s, rError)
  | 0x008 => (s.modImg fun i => { i with lenReg := w }, rOk)
  | 0x010 => (s.modImg fun i => { i with at_ := halfSet i.at_ false w }, rOk)
  | 0x014 => (s.modImg fun i => { i with at_ := halfSet i.at_ true w }, rOk)
  | 0x018 => (s.modImg fun i => { i with drain := (w.extractLsb' 16 14).toNat }, rOk)
  | _ => (s, rOk)

/-- Word `k` of a 256-bit set is replaced. -/
def set256 (v : BitVec 256) (k : Nat) (w : Word) : BitVec 256 :=
  let m : BitVec 256 := (0xFFFFFFFF : BitVec 256) <<< (32 * k)
  (v &&& ~~~ m) ||| (w.setWidth 256 <<< (32 * k))

/-- A write to the PAN page by window `n`, which may write there (R420, R424 to R428, R578). -/
def State.panPageWrite (s : State) (n o : Nat) (w : Word) : State × Nat :=
  match o with
  | 0x000 => (s.modPanWin n fun x => { x with sel := w.extractLsb' 0 8 }, rOk)
  | 0x010 => (s.modPanWin n fun x => { x with arm := halfSet x.arm false w }, rOk)
  | 0x014 => (s.modPanWin n fun x => { x with arm := halfSet x.arm true w }, rOk)
  | 0x018 => (s.modPanWin n fun x => { x with drain := armDrain w, stage := armStage w }, rOk)
  | 0x020 => (s.modPanWin n fun x => { x with rstPan := w.extractLsb' 0 8 }, rOk)
  | _ =>
    if 0x120 ≤ o ∧ o < 0x200 then
      let k := (o - 0x100) / 0x20
      ({ s with pans := { s.pans with bind := s.pans.bind.set k (set256 (Tab.get 0 s.pans.bind k) ((o % 0x20) / 4) w) } }, rOk)
    else if 0x204 ≤ o ∧ o < 0x220 then
      ({ s with pans := { s.pans with rights := s.pans.rights.set ((o - 0x200) / 4) (w.extractLsb' 0 3) } }, rOk)
    else (s, rOk)

/-- Whether a window may write a register of the PAN page (R417, R420, R427, R428, R578). -/
def State.panWrRight (s : State) (n o : Nat) (w : Word) : Bool :=
  n == 0 ||
  (if o = 0x000 then s.mayPan n (w.toNat % 256)
   else if o = 0x020 then s.armRight n [w.toNat % 256]
   else decide (o < 0x100))

/-- A write to the FLT page (R477, R480, R482). -/
def State.fltWrite (s : State) (n o : Nat) (w : Word) : State × Nat :=
  match o with
  | 0x004 => if 5 < (w.extractLsb' 8 3).toNat then (s, rError) else (s.modFlt fun f => { f with sel := f.sel.set n (w &&& 0x73F) }, rOk)
  | 0x010 => if w.toNat % 65536 = 0 then (s, rError) else (s.modFlt fun f => { f with escTime := w.toNat % 65536 }, rOk)
  | 0x014 => if w.toNat % 65536 = 0 then (s, rError) else (s.modFlt fun f => { f with quietTime := w.toNat % 65536 }, rOk)
  | 0x01C => if !s.flt.ftest || s.refMode then (s, rDenied) else (s.modFlt fun f => { f with injUnit := w.extractLsb' 0 16 }, rOk)
  | 0x020 =>
    if !s.flt.ftest || s.refMode then (s, rDenied)
    else if (faultRow (w.toNat % 65536)).isNone then (s, rError)
    else (s.modFlt fun f => { f with injCode := w.extractLsb' 0 16 }, rOk)
  | _ => (s, rOk)

/-- A write to the PWR page (R562). -/
def State.pwrWrite (s : State) (n o : Nat) (w : Word) : State × Nat :=
  if o = 0x010 then
    (if s.requesters.contains (w.toNat % 65536) then (s.modPwr fun p => { p with sel := p.sel.set n (w &&& 0xFFFF) }, rOk) else (s, rError))
  else (s, rOk)

/-- A write to the HRV page (R517 to R519). -/
def State.hrvWrite (s : State) (o : Nat) (w : Word) : State × Nat :=
  match o with
  | 0x004 => (s.modHrv fun h => { h with at_ := halfSet h.at_ false w }, rOk)
  | 0x008 => (s.modHrv fun h => { h with at_ := halfSet h.at_ true w }, rOk)
  | 0x00C => (s.modHrv fun h => { h with pinReq := w.getLsbD 31, autoScope := w.getLsbD 30 }, rOk)
  | 0x010 => (s.modHrv fun h => { h with lateF := h.lateF && !w.getLsbD 27, whit := h.whit && !w.getLsbD 26 }, rOk)
  | _ => (s, rOk)

/-- A write to the RAKE page (R524, R527). -/
def State.rakeWrite (s : State) (o : Nat) (w : Word) : State × Nat :=
  match o with
  | 0x004 => (s.modRake fun r => { r with srcs := w.extractLsb' 0 7 }, rOk)
  | 0x008 => (s.modRake fun r => { r with trig := w.extractLsb' 0 5 }, rOk)
  | 0x00C => (s.modRake fun r => { r with mute := w &&& 0x7F }, rOk)
  | 0x01C =>
    let n := (w.extractLsb' 0 7).toNat
    if n = 0 ∨ 64 < n then (s, rError) else (s.modRake fun r => { r with pos := w.extractLsb' 8 4, share := w.extractLsb' 0 7 }, rOk)
  | _ => (s, rOk)

/-- A parameter of a check unit (R540, R544, R545): its write counts as a use of the unit. -/
def Check.paramWrite (c : Check) (k : Nat) (w : Word) : Check :=
  let up (c : Check) : Check := { c with alive := c.alive + 1 }
  match k with
  | 0x08 => up { c with p := halfSet c.p false w }
  | 0x0C => up { c with p := halfSet c.p true w }
  | 0x10 => up { c with i := halfSet c.i false w }
  | 0x14 => up { c with i := halfSet c.i true w }
  | 0x18 => up { c with x := halfSet c.x false w }
  | 0x1C => up { c with x := halfSet c.x true w }
  | 0x34 => { c with scanAt := c.scanAt.extractLsb' 32 16 ++ w }
  | 0x38 => { c with scanAt := w.extractLsb' 0 16 ++ c.scanAt.extractLsb' 0 32 }
  | 0x3C => { c with len := w }
  | _ => c

/-- A write to a check unit's register `k` (R533, R534, R539 to R545). -/
def State.chkPage (s : State) (u k : Nat) (q : Req) : State :=
  match k with
  | 0x00 => dbgWrite q (fun s => s.chkCtl u q) s
  | 0x20 | 0x24 => chkWrite u q true (fun s => (s.modCheck u fun c => { (c.setV (halfSet c.v (k == 0x24) q.wdata)) with alive := c.alive + 1 }, rOk)) s
  | 0x28 => chkWrite u q true (fun s => s.chkFeed u 1 q.wdata) s
  | 0x2C => chkWrite u q true (fun s => s.chkFeed u 2 q.wdata) s
  | 0x30 => chkWrite u q true (fun s => s.chkFeed u 4 q.wdata) s
  | _ => chkWrite u q (decide (k < 0x20)) (fun s => (s.modCheck u fun c => c.paramWrite k q.wdata, rOk)) s

/-- A write to the MEM page (R328, R329). -/
def State.memWrite (s : State) (o : Nat) (w : Word) : State × Nat :=
  match o with
  | 0x008 => if 96 ≤ w.toNat % 128 then (s, rError) else ({ s with ctrl := { s.ctrl with sliceSel := w &&& 0x7F } }, rOk)
  | 0x00C => (s.modAttach s.ctrl.sliceSel.toNat fun a => { a with timeout := a.timeout && !w.getLsbD 30, ovr := a.ovr && !w.getLsbD 29 }, rOk)
  | _ => (s, rOk)

/-! ## A stop's page -/

/-- A tile's member of a group (R268). -/
def State.groupHere (s : State) (t : Nat) (g : Group) : Bool :=
  match s.pan? g.pan with
  | some p => (s.members g).any fun r => p.rank r == some (s.node, t)
  | none => false

/-- A 41-bit limit with one half written (R96); a tile without a client keeps its limit of 0 (R394). -/
def State.limWrite (s : State) (t : Nat) (v : Nat) : State × Nat :=
  if 2 ^ 40 < v ∨ s.clientKind t = 0 then (s, rError) else (s.modSi t fun si => { si with rxlim := v }, rOk)

/-- How many entries a table that STOP_RT_IDX selects has (R135). -/
def tabSize (tab : Nat) : Nat := match tab with | 0 => 512 | 1 => 4096 | 2 => 256 | _ => 0

/-- A write of the register at offset `o` of a stop's page, where no command of its own does it (R36, R96, R135, R163, R226, R268, R299,
R304, R529, R530). -/
def State.stopPageWrite (s : State) (t o : Nat) (w : Word) : State × Nat :=
  match o with
  | 0x004 => (s.modStop t fun st => { st with xst := st.xst &&& ~~~ (w.extractLsb' 0 16) }, rOk)
  | 0x100 => s.limWrite t ((s.stop t).si.rxlim / 2 ^ 32 * 2 ^ 32 + w.toNat)
  | 0x104 => s.limWrite t (w.toNat % 512 * 2 ^ 32 + (s.stop t).si.rxlim % 2 ^ 32)
  | 0x200 =>
    if tabSize (w.extractLsb' 30 2).toNat ≤ (w.extractLsb' 0 12).toNat then (s, rError) else (s.modRo t fun r => { r with rtIdx := w &&& 0xC0000FFF }, rOk)
  | 0x308 =>
    if (slotPort s.build t (w.extractLsb' 28 4).toNat).isNone then (s, rError) else (s.modRt t fun r => { r with slotIdx := w &&& 0xF80000FF }, rOk)
  | 0x410 =>
    if s.build = .hfE ∧ 32 ≤ (w.extractLsb' 0 8).toNat then (s, rError) else (s.modCu t fun c => { c with slotIdx := w &&& 0x3FF }, rOk)
  | 0x508 =>
    let g := w.toNat % 1024
    if s.img.act.groups.any fun x => x.id == g && s.groupHere t x then (s.modCo t fun c => { c with gsel := g }, rOk) else (s, rError)
  | 0x600 => (s, rError)
  | 0x604 => (s.modQ t fun q => { q with sel := w.toNat % 32 }, rOk)
  | 0x630 => (s.modStop t fun st => { st with lk := { st.lk with sel := w.toNat % 64 } }, rOk)
  | 0x618 => if (s.stop t).q.sel < 16 then (s, rError) else (s, rOk)
  | 0xA00 => (s.modPb t fun p => { p with waitSel := w &&& 0x3F }, rOk)
  | 0xB00 => (s.modPb t fun p => { p with recSel := w &&& 0x70F }, rOk)
  | _ => (s, rOk)

/-! ## A link's page -/

/-- A write of the register at offset `o` of a link's page, where no command of its own does it (R357, R386, R387). -/
def State.linkPageWrite (s : State) (n o : Nat) (w : Word) : State × Nat :=
  match o with
  | 0x014 =>
    if w.extractLsb' 16 16 = 0 ∨ w.extractLsb' 8 8 = 0 then (s, rError)
    else (s.modLink n fun l => { l with corrLim := w.extractLsb' 16 16, uncLim := w.extractLsb' 8 8 }, rOk)
  | 0x050 =>
    if w.extractLsb' 16 4 = 0 ∨ (w.extractLsb' 0 16).toNat < 256 then (s, rError)
    else (s.modLl n fun l => { l with rlim := w.extractLsb' 16 4, rto := w.extractLsb' 0 16 }, rOk)
  | 0x054 =>
    (s.modLl n fun l => { l with toRx := l.toRx && !w.getLsbD 26, ovrRx := l.ovrRx && !w.getLsbD 25, ovrEv := l.ovrEv && !w.getLsbD 24 }, rOk)
  | _ => (s, rOk)

end Sys2Proof.Machine
end

