-- ==== Sys2Proof/Machine/Ports.lean ====
section
/-! DEFINITION. The control port: a request decoded, checked and performed at the control tile or sent on to a stop or a link, the access
there, its answer, and the requests that waited behind it (R417, R495, R591 to R600). -/

namespace Sys2Proof.Machine

/-- The chip is FROZEN or STOPPED (R495). -/
def State.held (s : State) : Bool := decide (2 ≤ s.hrv.state)

/-! ## Reads of the block's pages (R417, R495, R594, R595) -/

/-- What the register at byte offset `o` of a window reads, among the pages served at the control tile (R594). -/
def State.blockVal (s : State) (w o : Nat) : Option Word :=
  let k := o % 0x10000
  match o / 0x10000 with
  | 0 => s.blkVal w k
  | 1 => s.tideVal w k
  | 2 => s.imgVal k
  | 3 => s.panVal w k
  | 4 => s.fltVal w k
  | 5 => s.pwrPage w k
  | 6 => s.hrvVal k
  | 7 => s.rakeVal k
  | 8 => s.chkVal w k
  | 9 => s.memVal k
  | 10 => s.spareVal k
  | _ => none

/-- Whether window `w` may read the register (R417, R420, R541). -/
def State.blockRdOk (s : State) (w o : Nat) : Bool :=
  if 0x60000 ≤ o ∧ o < 0x90000 then s.hasDbg w
  else if o = 0x30004 ∨ o = 0x30008 ∨ o = 0x3000C then w == 0 || s.mayPan w (s.panWin w).sel.toNat
  else true

/-- The bit of window `w` is cleared. -/
def clearBit8 (v : BitVec 8) (w : Nat) : BitVec 8 := v &&& ~~~ BitVec.ofNat 8 (2 ^ w)

/-- The RC fields of a register of the block's pages are cleared by its read (R5, R600). -/
def State.blockClear (s : State) (w o : Nat) : State :=
  match o with
  | 0x0000C => { s with ctrl := { s.ctrl with imgEvt := clearBit8 s.ctrl.imgEvt w, qcEvt := clearBit8 s.ctrl.qcEvt w } }
  | 0x3000C =>
    let id := (s.panWin w).sel.toNat
    { s with pans := { s.pans with late := s.pans.late.set id 0, foreign := s.pans.foreign.set id 0 } }
  | 0x40000 => s.errEdge (s.modFlt fun f => { f with lost := 0, lostUF := false })
  | 0x50004 => s.modPwr fun p => { p with badVal := 0 }
  | 0x60010 => s.modHrv fun h => { h with absorb := 0 }
  | 0x70018 => s.modRake fun r => { r with lost := 0, gaps := 0, xtrig := 0 }
  | 0x90004 => { s with ctrl := { s.ctrl with memLost := 0, memSlice := 0, memDropped := 0, memCorr := 0 } }
  | 0x9000C => s.modAttach s.ctrl.sliceSel.toNat fun a => { a with errcnt := 0 }
  | _ => s

/-- A capture of a check unit's count is used up by its read (R539). -/
def State.doneRead (s : State) (w o : Nat) : State :=
  if 0x80000 ≤ o ∧ o < 0x80400 ∧ o % 0x80 = 0x48 then s.modCheck ((o - 0x80000) / 0x80) fun c => { c with capDone := c.capDone.del w } else s

/-- A read of a register of the block's pages: the reply leaves, and then what the read clears is cleared; nothing is cleared in a freeze
(R495). -/
def State.blockRead (s : State) (q : Req) : State :=
  let w := q.win.toNat
  let o := qOfs q
  match s.blockVal w o with
  | none => s.replyW q rAbsent
  | some v =>
    if s.blockRdOk w o then
      let s1 := (s.reply w q.tag rOk v).doneRead w o
      if s.held then s1 else s1.blockClear w o
    else s.replyW q rDenied

/-- BLK_ATTN_READ (R600). -/
def execBlkAttnRead (q : Req) (s : State) : Host.Outcome State Fault Refusal := ctlRead 0x0000C q s fun s => s.blockRead q

/-! ## Writes of the block's pages -/

/-- A write of a register of the block's pages that has no command of its own (R417, R495, R595). -/
def State.blockWrite (s : State) (q : Req) : State :=
  let n := q.win.toNat
  let o := qOfs q
  let k := o % 0x10000
  let w := q.wdata
  if (s.blockVal n o).isNone then s.replyW q rAbsent
  else
    match o / 0x10000 with
    | 0 => ctlWrite q true false (fun s => s.blkWrite k w) s
    | 1 => ctlWrite q true true (fun s => s.tideWrite k w) s
    | 2 => ctlWrite q true false (fun s => s.imgWrite k w) s
    | 3 => panWrite q (s.panWrRight n k w) (fun s => s.panPageWrite n k w) s
    | 4 => ctlWrite q (k != 0x004) true (fun s => s.fltWrite n k w) s
    | 5 => ctlWrite q false true (fun s => s.pwrWrite n k w) s
    | 6 => ctlWrite q true true (fun s => s.hrvWrite k w) s
    | 7 => if k = 0x000 then dbgWrite q (fun s => (s, rOk)) s else ctlWrite q true true (fun s => s.rakeWrite k w) s
    | 8 => s.chkPage (k / 0x80) (k % 0x80) q
    | 9 => ctlWrite q true false (fun s => s.memWrite k w) s
    | _ => ctlWrite q true false (fun s => (s, rOk)) s

/-! ## Accesses of STOP and LINK pages (R594, R595, R598, R599) -/

/-- The place that a STOP or LINK page offset names: none where no unit is behind it. -/
def State.pagePlace (s : State) (o : Nat) : Option RegPlace :=
  if 0x100000 ≤ o ∧ o < 0x300000 then
    match s.logicalIdx ((o - 0x100000) / 0x1000) with
    | some t => if (s.stop t).ro.routerFenced then none else some (.stop t)
    | none => none
  else if 0x400000 ≤ o ∧ o < 0x500000 then
    (if (o - 0x400000) / 0x1000 < nLinks s.build then some (.link ((o - 0x400000) / 0x1000)) else none)
  else none

/-- What the register there reads, with its code. -/
def State.pageVal (s : State) (p : RegPlace) (o : Nat) : Option (Nat × Word) :=
  match p with
  | .stop t => s.stopVal t o
  | .link n => (s.linkVal n o).map fun v => (rOk, v)

/-- Whether window `w` may read or write there (R417). -/
def State.pageOk (s : State) (p : RegPlace) (wr : Bool) (w o : Nat) : Bool :=
  match p with
  | .stop t => if wr then s.stopWrOk w t o else s.stopRdOk w t
  | .link _ => if wr then w == 0 else s.hasDbg w

/-- The tile that serves the page (R20, R598). -/
def State.pageTile (s : State) : RegPlace → Nat
  | .stop t => t
  | .link n => linkTile s.build n

/-- The payload of a REG_RD or REG_WR (R598). -/
def regReqBytes (q : Req) : List Byte :=
  bytesOf 16 (q.win.toNat * 2 ^ 125 + q.wofs.toNat * 2 ^ 103 + q.tag.toNat * 2 ^ 97 + q.wdata.toNat)

/-- A REG_RD or REG_WR goes to the page's tile, and the request waits for its answer, 20 µs at most (R598). -/
def State.pageSend (s : State) (wr : Bool) (q : Req) (t : Nat) : State :=
  let s1 : State := { s with ctrl := { s.ctrl with
    line := s.ctrl.line ++ [.wait { win := q.win.toNat, tag := q.tag, wofs := q.wofs, wr := wr, deadline := s.fc + 20 * usFc }] } }
  s1.cSend ctlTile (s1.blockMsg ctlTile (if wr then 0xA else 0x9) s1.node t 0 (regReqBytes (if wr then q else { q with wdata := 0 })))

/-- An access of a STOP or LINK page: in a freeze a write is refused and a read is served through the scan path, with no RC field
cleared (R495, R599). -/
def State.pageAccess (s : State) (wr : Bool) (q : Req) : State :=
  let w := q.win.toNat
  let o := qOfs q % 0x1000
  match s.pagePlace (qOfs q) with
  | none => s.replyW q rAbsent
  | some p =>
    match s.pageVal p o with
    | none => s.replyW q rAbsent
    | some v =>
      if !s.pageOk p wr w o then s.replyW q rDenied
      else if s.held then (if wr then s.replyW q rBusy else s.reply w q.tag v.1 v.2)
      else s.pageSend wr q (s.pageTile p)

/-! ## The access at a stop or a link -/

/-- REG_RD_RECEIVED (R598): the value read, and its RC fields cleared. -/
def execRegRdReceived (at_ : RegPlace) (m : CMsg) (s : State) : Host.Outcome State Fault Refusal :=
  let o := regOfs m
  let answer (t : Nat) (s : State) (clear : State → State) : State :=
    match s.pageVal at_ o with
    | none => s.regAns t m rAbsent 0
    | some v => if s.pageOk at_ false (regWin m) o then (clear s).regAns t m v.1 v.2 else s.regAns t m rDenied 0
  match at_ with
  | .stop t => atTile t s fun s => if isKind m 0x9 && regPage m == 0x100 + s.phys t then answer t s (fun s => s.stopClear t o) else s
  | .link n => atLinkFab n s fun s => if isKind m 0x9 && regPage m == 0x400 + n then answer (linkTile s.build n) s (fun s => s.linkClear n o) else s

/-- A write of a stop's register as its own command, or as this chapter's table of pages has it. -/
def stopRegWrite (t : Nat) (m : CMsg) (s : State) : Host.Outcome State Fault Refusal :=
  let d := regData m
  let host : QSrc := .host (regWin m) m
  let sel := (s.stop t).q.sel
  match regOfs m with
  | 0x300 => execStopPrioWrite t m s
  | 0x304 => execStopArbWrite t m s
  | 0x510 => execStopCollAbortWrite t m s
  | 0x600 =>
    let k := d.toNat % 32
    match (d.extractLsb' 8 3).toNat with
    | 1 => execQueueOpen t k host s
    | 2 => execQueueClose t k host s
    | 3 => execQueueReset t k host s
    | 4 => execQueuePause t k host s
    | 5 => execQueueResume t k host s
    | _ => atTile t s fun s => stopWrite t 0x600 m s fun s => s.stopPageWrite t 0x600 d
  | 0x60C => execRingSet t sel host (.baseLo d) s
  | 0x610 => execRingSet t sel host (.baseHi d) s
  | 0x614 => execRingSet t sel host (.size d) s
  | 0x61C => execRingRdWrite t sel host (d.getLsbD 31) (d.toNat % 2 ^ 31) s
  | 0x900 =>
    if d.getLsbD 31 then execFenceRouterWrite t m s
    else if d.getLsbD 30 then execFenceClientWrite t m s
    else if d.getLsbD 29 then execUnfenceClient t m s
    else atTile t s fun s => stopWrite t 0x900 m s fun s => (s, rOk)
  | 0x904 =>
    if d.getLsbD 31 then execClientReset t (.reg m) s else atTile t s fun s => stopWrite t 0x904 m s fun s => (s, rOk)
  | o => atTile t s fun s => if (s.stopVal t o).isNone then s.regAns t m rAbsent 0 else stopWrite t o m s fun s => s.stopPageWrite t o d

/-- A write of a link's register. -/
def linkRegWrite (n : Nat) (m : CMsg) (s : State) : State :=
  match regOfs m with
  | 0x000 => linkCtlWrite n m s
  | 0x008 => linkLaneWrite n 0 m s
  | 0x00C => linkLaneWrite n 1 m s
  | 0x010 => linkLaneWrite n 2 m s
  | 0x030 => linkPrbsWrite n m s
  | o => if (s.linkVal n o).isNone then s.regAns (linkTile s.build n) m rAbsent 0 else linkWrite n o m s fun s => s.linkPageWrite n o (regData m)

/-- REG_WR_RECEIVED (R598). -/
def execRegWrReceived (at_ : RegPlace) (m : CMsg) (s : State) : Host.Outcome State Fault Refusal :=
  match at_ with
  | .stop t =>
    if !(tileOk s.build t) then .fault (.noSuchTile t)
    else if isKind m 0xA && regPage m == 0x100 + s.phys t then stopRegWrite t m s else .next s
  | .link n => atLinkFab n s fun s => if isKind m 0xA && regPage m == 0x400 + n then linkRegWrite n m s else s

/-! ## The requests (R593, R595) -/

/-- A write of a register of TIDE (R43, R57, R60 to R66). -/
def tideRegWrite (q : Req) (s : State) : Host.Outcome State Fault Refusal :=
  match qOfs q with
  | 0x1000C => tideReq true 0x00C q s fun s => tideCmd s q (q.wdata.getLsbD 0) (q.wdata.getLsbD 1)
  | 0x1001C => execTideCfgWrite q s
  | o => tideReq true (o - 0x10000) q s fun s => s.blockWrite q

/-- REGISTER_WRITE (R595): a write of any register, those with commands of their own as those commands perform it. -/
def execRegisterWrite (q : Req) (s : State) : Host.Outcome State Fault Refusal :=
  let o := qOfs q
  let w := q.wdata
  let plain := ctlAct o q s fun s => s.blockWrite q
  if 0x100000 ≤ o then ctlAct o q s fun s => s.pageAccess true q
  else if 0x10000 ≤ o ∧ o < 0x20000 then tideRegWrite q s
  else
    match o with
    | 0x00048 => if w.getLsbD 0 then execSlotArm q s else if w.getLsbD 1 then execSlotCancel q s else plain
    | 0x20000 =>
      match imgCmd w with
      | 1 => execImgLoad q s
      | 2 => execImgSwitch q s
      | 3 => execImgCancel q s
      | 4 => execImgRestoreFactory q s
      | 5 => execImgDiscard q s
      | _ => plain
    | 0x2000C => execImgDataWrite q s
    | 0x30018 => if w.getLsbD 31 then execPanArmGo q s else if w.getLsbD 30 then execPanArmCancel q s else plain
    | 0x30020 => if w.getLsbD 31 then execPanResetArm q s else plain
    | 0x4000C => if clrAll w then execFltClrAll q s else if clrAct w then execFltClrAct q s else execFltClrClear q s
    | 0x40020 => if w.getLsbD 31 then execFltInjGo q s else plain
    | 0x40024 => execFltRstWrite q s
    | 0x60000 => if w.getLsbD 31 then execHrvReq q s else if w.getLsbD 30 then execHrvThaw q s else plain
    | 0x60024 => execScanSelWrite q s
    | 0x6002C => execScanTrace q s
    | 0x70000 => if w.getLsbD 29 then execRakeTrig 0 (some q) s else if w.getLsbD 28 then execRakeRearm q s else plain
    | 0x70020 => execRakeMarkWrite q s
    | _ => plain

/-- REGISTER_READ (R595): a read of any register. -/
def execRegisterRead (q : Req) (s : State) : Host.Outcome State Fault Refusal :=
  let o := qOfs q
  if 0x100000 ≤ o then ctlRead o q s fun s => s.pageAccess false q
  else if o = 0x10000 then execTideNowRead q s
  else if o = 0x10020 then execTideStepRead q s
  else if o = 0x60028 then execScanDataRead q s
  else if 0x80000 ≤ o ∧ o < 0x80400 ∧ o % 0x80 = 0x20 then execChkValRead ((o - 0x80000) / 0x80) q s
  else ctlRead o q s fun s => s.blockRead q

/-! ## Answers (R593, R598) -/

/-- The request at the front of the line is performed, judged as it entered (R56, R59, R417, R593), while those behind it stand aside. -/
def State.performTodo (s : State) (wr : Bool) (q : Req) (e : Entry) (rest : List CtlSlot) : State :=
  let s1 : State := { s with ctrl := { s.ctrl with line := [], entry := some e } }
  match (if wr then execRegisterWrite q s1 else execRegisterRead q s1) with
  | .next t => { t with ctrl := { t.ctrl with line := t.ctrl.line ++ rest, entry := none } }
  | _ => s

/-- The requests that no longer wait behind another are performed, in order, up to the next one that must wait (R593). -/
def State.release (s : State) : Nat → State
  | 0 => s
  | k + 1 =>
    match s.ctrl.line with
    | .todo wr q e :: rest => if s.ctlStalls q then s else (s.performTodo wr q e rest).release k
    | _ => s

/-- What the control port does of itself in one fc: a request that a check unit held goes on as the unit is free (R533, R593). -/
def State.ctlCycle (s : State) : State :=
  { s.release 8 with pending := s.pending, build := s.build, fc := s.fc, ft := s.ft }

/-- An outcome's state, with the requests behind performed. -/
def released (r : Host.Outcome State Fault Refusal) : Host.Outcome State Fault Refusal :=
  match r with
  | .next s => .next (s.release 8)
  | r => r

/-- The oldest request has its reply. -/
def State.answered (s : State) (r : RegWait) (code : Nat) (data : Word) : State :=
  { s with ctrl := { s.ctrl with line := s.ctrl.line.drop 1 } }.reply r.win r.tag code data

/-- The code and the data of a REG_ANS (R598). -/
def regAnsCode (m : CMsg) : Nat := leAt m.data 4 1 % 16

/-- A REG_ANS belongs to the access that waits (R598). -/
def RegWait.isOf (r : RegWait) (m : CMsg) : Bool :=
  r.win == regWin m && r.tag.toNat == leAt m.data 0 16 / 2 ^ 97 % 64 && r.wofs.toNat == leAt m.data 0 16 / 2 ^ 103 % 2 ^ 22

/-- REG_ANS_RECEIVED (R598): an answer that no access waits for is discarded. -/
def execRegAnsReceived (m : CMsg) (s : State) : Host.Outcome State Fault Refusal :=
  released (atTile ctlTile s fun s =>
    match s.ctrl.line with
    | .wait r :: _ => if isKind m 0xB && r.isOf m then s.answered r (regAnsCode m) (if r.wr then 0 else regData m) else s
    | _ => s)

/-- REG_ANSWER_TIMEOUT (R595, R598): the access that waits is answered ERROR. -/
def execRegAnswerTimeout (s : State) : Host.Outcome State Fault Refusal :=
  released (runAct s fun s =>
    match s.ctrl.line with
    | .wait r :: _ => if r.deadline ≤ s.fc then s.answered r rError 0 else s
    | _ => s)

end Sys2Proof.Machine
end

