-- ==== Sys2Proof/Machine/Clients.lean ====
section
/-! DEFINITION. A fabric cycle as it passes: what waits in the crossings of the tiles' ports and for the register-queue blocks goes on
(R31, R283) and in the control port (R593), the M-plane arbitrates (R309), the links send their codewords (R334), and the tide count moves (R38, R55). -/

namespace Sys2Proof.Machine

/-! ## What waits in a tile's crossings -/

/-- The state an outcome leaves; one that stops leaves `s`. -/
def State.after (s : State) : Host.Outcome State Fault Refusal → State
  | .next u => u
  | _ => s

/-- The SI of tile `t` performs the descriptor that its crossing gives it. -/
def State.takeCmd (s : State) (t : Nat) (d : Desc) : State :=
  match d.kind with
  | 2 => s.dscMwrite t d
  | 3 => s.dscColl t d
  | 4 => s.dscMread t d
  | 5 => s.dscRingmsg t d
  | 6 => s.dscMcast t d
  | _ => s.dscPut t d

/-- The request `i` of a client at tile `t`, as its crossing gives it to the stop. A tile that a row remap has moved keeps what its own
crossings hold, so the number of the tile is the one it has now. -/
def clientReq (t : Nat) (i : Instr) (s : State) : Host.Outcome State Fault Refusal :=
  match i with
  | .queueOpen _ k src => execQueueOpen t k src s
  | .queueClose _ k src => execQueueClose t k src s
  | .queueReset _ k src => execQueueReset t k src s
  | .queuePause _ k src => execQueuePause t k src s
  | .queueResume _ k src => execQueueResume t k src s
  | .queuePop _ k tag fixed bad => execQueuePop t k tag fixed bad s
  | .ringSet _ k src f => execRingSet t k src f s
  | .ringRdWrite _ k src lap ofs => execRingRdWrite t k src lap ofs s
  | .msgQsend _ r => execMsgQsend t r s
  | .msgLockAcq _ r => execMsgLockAcq t r s
  | .msgLockRel _ r => execMsgLockRel t r s
  | .mpRead _ r => execMpRead t r s
  | .mpWrite _ r => execMpWrite t r s
  | .atomicAdd _ r => execAtomicAdd t r s
  | .atomicCas _ r => execAtomicCas t r s
  | .atomicXchg _ r => execAtomicXchg t r s
  | .mpFence _ tag len => execMpFence t tag len s
  | _ => .next s

/-- The stage of R283 at which a request of the MSG port acts at the register-queue block: 1 a command, 2 a pop, 0 none of the two. -/
def msgStage : Instr → Nat
  | .queueOpen _ _ _ | .queueClose _ _ _ | .queueReset _ _ _ | .queuePause _ _ _ | .queueResume _ _ _ => 1
  | .queuePop _ _ _ _ _ => 2
  | _ => 0

/-- The CMD port takes the descriptor at the head of its crossing, where it may. -/
def State.cmdPump (s : State) (t : Nat) : State :=
  match (s.stop t).cmdq with
  | d :: rest =>
    let s1 := s.modStop t fun st => { st with cmdq := [] }
    if s1.cmdReady t then (s1.takeCmd t d).modStop t fun st => { st with cmdq := st.cmdq ++ rest } else s
  | [] => s

/-- The MSG port takes the request at the head of its crossing, where it may. -/
def State.msgPump (s : State) (t : Nat) : State :=
  match (s.stop t).msgq with
  | i :: rest =>
    let s1 := s.modStop t fun st => { st with msgq := [] }
    if s1.msgReady t (msgStage i) then (s1.after (clientReq t i s1)).modStop t fun st => { st with msgq := st.msgq ++ rest } else s
  | [] => s

/-- The M-port takes the request at the head of its crossing, where it may. -/
def State.mpTake (s : State) (t : Nat) : State :=
  match (s.stop t).mpq with
  | i :: rest =>
    let s1 := s.modStop t fun st => { st with mpq := [] }
    if s1.mpReady t then (s1.after (clientReq t i s1)).modStop t fun st => { st with mpq := st.mpq ++ rest } else s
  | [] => s

/-! ## What waits for the register-queue block (R283) -/

/-- Whether what waits is an arrival, the third stage of an fc; what else waits is a host command. -/
def isArrival : Instr → Bool
  | .qsendArrive _ _ => true
  | _ => false

/-- The first element that `p` holds of, and the list without it. -/
def takeFirst {α : Type} (p : α → Bool) : List α → Option (α × List α)
  | [] => none
  | x :: l => if p x then some (x, l) else (takeFirst p l).map fun r => (r.1, x :: r.2)

/-- The register-queue block takes the host command that has waited longest. -/
def State.qHost (s : State) (t : Nat) : State :=
  match takeFirst (fun i => !isArrival i) (s.stop t).q.wait with
  | some (i, rest) => if s.qFree t 1 then let s1 := s.modQ t fun q => { q with wait := rest }; s1.after (clientReq t i s1) else s
  | none => s

/-- The register-queue block decides the arrival that has waited longest. -/
def State.qNext (s : State) (t : Nat) : State :=
  match takeFirst isArrival (s.stop t).q.wait with
  | some (.qsendArrive _ m, rest) =>
    if s.qFree t 3 then ((s.modQ t fun q => { q with wait := rest }).qTurn t 3).qArrive t m else s
  | _ => s

/-- The MSG port and the register-queue block in one fc (R283): a command, the MSG port's before the host's, then a pop, then an arrival. -/
def State.queueCycle (s : State) (t : Nat) : State :=
  match (s.stop t).msgq with
  | i :: _ => if msgStage i = 2 then ((s.qHost t).msgPump t).qNext t else ((s.msgPump t).qHost t).qNext t
  | [] => (s.qHost t).qNext t

/-! ## A fabric cycle -/

/-- Whether something waits at a stop for the next fabric cycle. -/
def Stop.waits (st : Stop) : Bool := !st.cmdq.isEmpty || !st.msgq.isEmpty || !st.mpq.isEmpty || !st.q.wait.isEmpty

/-- What the tile's ports and its register-queue block do in one fc. -/
def State.tileCycle (s : State) (t : Nat) : State :=
  if (s.stop t).ro.routerFenced then s else ((s.cmdPump t).queueCycle t).mpTake t

/-- What the fabric does of itself in one fc. -/
def State.fabCycle (s : State) : State :=
  ((s.stops.filter fun e => e.2.waits).foldl (fun s e => s.tileCycle e.1) s).mCycle

/-- What the units do of themselves in one fc, beside the clocks: a harvest holds the fabric, and not the links' PHYs (R491). -/
def State.cycleWork (s : State) : State :=
  if s.ready then
    let s1 := if s.running then s.fabCycle else s
    let u := (s1.links.map (·.1)).foldl State.lanesSend s1
    State.ctlCycle { u with pending := s.pending, build := s.build, fc := s.fc, ft := s.ft, tide := s.tide }
  else s

/-- `k` fabric cycles of one tick pass, and the units do their work of each. -/
def State.cycles : State → Nat → State
  | s, 0 => s
  | s, k + 1 => ((s.elapse 1).setCount s.tide.count (s.tide.phase + 1)).cycleWork.cycles k

/-- Phase 0 of the next tick: the count advances by one, or takes the master's load (R38, R55). -/
def State.nextTick (s : State) : State := if s.tide.loadPend then loadCount s else s.setCount (s.tide.count + 1) 0

/-- The fabric cycles up to and with the next phase 0 pass. -/
def tick (s : State) : State := ((s.cycles (3 - s.tide.phase)).elapse 1).nextTick.cycleWork

/-- One fabric cycle passes with no command waiting. -/
def idleCycle (s : State) : State :=
  if s.clocked then (if s.tide.phase < 3 then s.cycles 1 else tick s) else s

/-- TIDE_TICK (R38). -/
def execTideTick (s : State) : Host.Outcome State Fault Refusal := if s.clocked then act s tick else .next s

/-- TIDE_MASTER_LOAD (R55): with no load pending the count does not move. -/
def execTideMasterLoad (s : State) : Host.Outcome State Fault Refusal :=
  if s.clocked && s.tide.loadPend then act s tick else .next s

end Sys2Proof.Machine
end

