-- ==== Sys2Proof/Machine/Dispatch.lean ====
section
/-! DEFINITION. What each command does: one arm per constructor, each a direct call of its meaning. -/

namespace Sys2Proof.Machine

/-- The effect of a command on everything but the queue (spec/opcode_table.json). -/
def exec (i : Instr) (s : State) : Host.Outcome State Fault Refusal :=
  match i with
  | .tideTick => Sys2Proof.Machine.execTideTick s
  | .rowRemapDrained y => Sys2Proof.Machine.execRowRemapDrained y s
  | .rowRemapTimeout y => Sys2Proof.Machine.execRowRemapTimeout y s
  | .quadrantTraining bad => Sys2Proof.Machine.execQuadrantTraining bad s
  | .quadrantPhaseLost p q => Sys2Proof.Machine.execQuadrantPhaseLost p q s
  | .crossingTimeout x quiet pend => Sys2Proof.Machine.execCrossingTimeout x quiet pend s
  | .crossingReopen x run => Sys2Proof.Machine.execCrossingReopen x run s
  | .tidePingReceived n k => Sys2Proof.Machine.execTidePingReceived n k s
  | .tidePongReceived n k => Sys2Proof.Machine.execTidePongReceived n k s
  | .tideBurstComplete n => Sys2Proof.Machine.execTideBurstComplete n s
  | .tideAlignTimeout => Sys2Proof.Machine.execTideAlignTimeout s
  | .tideSteerPeriod => Sys2Proof.Machine.execTideSteerPeriod s
  | .tideParentLost => Sys2Proof.Machine.execTideParentLost s
  | .tideHoldoverExpired => Sys2Proof.Machine.execTideHoldoverExpired s
  | .tideParentReturned n => Sys2Proof.Machine.execTideParentReturned n s
  | .tideCfgWrite q => Sys2Proof.Machine.execTideCfgWrite q s
  | .tideMasterLoad => Sys2Proof.Machine.execTideMasterLoad s
  | .tideRealign q => Sys2Proof.Machine.execTideRealign q s
  | .tideBurstCmd q => Sys2Proof.Machine.execTideBurstCmd q s
  | .tideNowRead q => Sys2Proof.Machine.execTideNowRead q s
  | .tideStepRead q => Sys2Proof.Machine.execTideStepRead q s
  | .tideOobClear q => Sys2Proof.Machine.execTideOobClear q s
  | .tFlitArrive t port f e => Sys2Proof.Machine.execTFlitArrive t port f e s
  | .outputCycle t port => Sys2Proof.Machine.execOutputCycle t port s
  | .creditReturn t port vc => Sys2Proof.Machine.execCreditReturn t port vc s
  | .siInject t => Sys2Proof.Machine.execSiInject t s
  | .messageIssue t => Sys2Proof.Machine.execMessageIssue t s
  | .putArrive t p => Sys2Proof.Machine.execPutArrive t p s
  | .mrespArrive t p => Sys2Proof.Machine.execMrespArrive t p s
  | .mwriteArrive t p => Sys2Proof.Machine.execMwriteArrive t p s
  | .mreadArrive t p => Sys2Proof.Machine.execMreadArrive t p s
  | .ringmsgArrive t p => Sys2Proof.Machine.execRingmsgArrive t p s
  | .mcastArrive t port p => Sys2Proof.Machine.execMcastArrive t port p s
  | .redDownArrive t p => Sys2Proof.Machine.execRedDownArrive t p s
  | .ackArrive t p => Sys2Proof.Machine.execAckArrive t p s
  | .nackArrive t p => Sys2Proof.Machine.execNackArrive t p s
  | .assemblyTimeout t snode stile vc mseq => Sys2Proof.Machine.execAssemblyTimeout t snode stile vc mseq s
  | .completedKeyExpire t snode stile vc mseq => Sys2Proof.Machine.execCompletedKeyExpire t snode stile vc mseq s
  | .resendBackoffExpire t mseq => Sys2Proof.Machine.execResendBackoffExpire t mseq s
  | .answerTimeout t plane mseq => Sys2Proof.Machine.execAnswerTimeout t plane mseq s
  | .sluiceEval t => Sys2Proof.Machine.execSluiceEval t s
  | .clientFence t => Sys2Proof.Machine.execClientFence t s
  | .routerFence t => Sys2Proof.Machine.execRouterFence t s
  | .fenceSetSwitch => Sys2Proof.Machine.execFenceSetSwitch s
  | .mcastEjectTimeout t p waited => Sys2Proof.Machine.execMcastEjectTimeout t p waited s
  | .collectorAnswer t p => Sys2Proof.Machine.execCollectorAnswer t p s
  | .collectorTimeout t snode stile mseq => Sys2Proof.Machine.execCollectorTimeout t snode stile mseq s
  | .collectorKeyExpire t snode stile mseq => Sys2Proof.Machine.execCollectorKeyExpire t snode stile mseq s
  | .mcastRoundEnd t mseq => Sys2Proof.Machine.execMcastRoundEnd t mseq s
  | .slotBankSwap => Sys2Proof.Machine.execSlotBankSwap s
  | .slotArm q => Sys2Proof.Machine.execSlotArm q s
  | .slotCancel q => Sys2Proof.Machine.execSlotCancel q s
  | .circuitFlitArrive t port f e => Sys2Proof.Machine.execCircuitFlitArrive t port f e s
  | .stopPrioWrite t m => Sys2Proof.Machine.execStopPrioWrite t m s
  | .stopArbWrite t m => Sys2Proof.Machine.execStopArbWrite t m s
  | .redUpArrive t p own => Sys2Proof.Machine.execRedUpArrive t p own s
  | .cuPacketCombine t p own killed => Sys2Proof.Machine.execCuPacketCombine t p own killed s
  | .cuLaneError t lane => Sys2Proof.Machine.execCuLaneError t lane s
  | .contributionBackoffExpire t mseq => Sys2Proof.Machine.execContributionBackoffExpire t mseq s
  | .doneEntryExpire t coll seg pnode => Sys2Proof.Machine.execDoneEntryExpire t coll seg pnode s
  | .bypassEntryExpire t coll seg pnode => Sys2Proof.Machine.execBypassEntryExpire t coll seg pnode s
  | .collBypass t p => Sys2Proof.Machine.execCollBypass t p s
  | .storeCorrected t slot => Sys2Proof.Machine.execStoreCorrected t slot s
  | .storeUncorrectable t slot => Sys2Proof.Machine.execStoreUncorrectable t slot s
  | .bankSpareTakeover t bank => Sys2Proof.Machine.execBankSpareTakeover t bank s
  | .collAllReduce t d => Sys2Proof.Machine.execCollAllReduce t d s
  | .collReduceScatter t d => Sys2Proof.Machine.execCollReduceScatter t d s
  | .collAllGather t d => Sys2Proof.Machine.execCollAllGather t d s
  | .collBroadcast t d => Sys2Proof.Machine.execCollBroadcast t d s
  | .collBarrier t d => Sys2Proof.Machine.execCollBarrier t d s
  | .collAllToAll t d => Sys2Proof.Machine.execCollAllToAll t d s
  | .collDescriptorRelease t => Sys2Proof.Machine.execCollDescriptorRelease t s
  | .commitProgressTimer t coll => Sys2Proof.Machine.execCommitProgressTimer t coll s
  | .collMismatchRecord t p => Sys2Proof.Machine.execCollMismatchRecord t p s
  | .collCommitProgress t p => Sys2Proof.Machine.execCollCommitProgress t p s
  | .collCommitFinal t p => Sys2Proof.Machine.execCollCommitFinal t p s
  | .collAbort t p => Sys2Proof.Machine.execCollAbort t p s
  | .collReplayCause t p => Sys2Proof.Machine.execCollReplayCause t p s
  | .collReplayOrder t p => Sys2Proof.Machine.execCollReplayOrder t p s
  | .deputyTakeover t coll => Sys2Proof.Machine.execDeputyTakeover t coll s
  | .gtlTimeout t coll => Sys2Proof.Machine.execGtlTimeout t coll s
  | .memberTimeout t coll => Sys2Proof.Machine.execMemberTimeout t coll s
  | .rootRecordEnd t coll => Sys2Proof.Machine.execRootRecordEnd t coll s
  | .endedEntryExpire t coll sig => Sys2Proof.Machine.execEndedEntryExpire t coll sig s
  | .stopCollAbortWrite t m => Sys2Proof.Machine.execStopCollAbortWrite t m s
  | .cFlitArrive t port f e => Sys2Proof.Machine.execCFlitArrive t port f e s
  | .cMessageForward t port => Sys2Proof.Machine.execCMessageForward t port s
  | .qsendArrive t m => Sys2Proof.Machine.execQsendArrive t m s
  | .qansReceived t m => Sys2Proof.Machine.execQansReceived t m s
  | .ringWriteComplete t queue => Sys2Proof.Machine.execRingWriteComplete t queue s
  | .queueOpen t queue src => Sys2Proof.Machine.execQueueOpen t queue src s
  | .queueClose t queue src => Sys2Proof.Machine.execQueueClose t queue src s
  | .queueReset t queue src => Sys2Proof.Machine.execQueueReset t queue src s
  | .queuePause t queue src => Sys2Proof.Machine.execQueuePause t queue src s
  | .queueResume t queue src => Sys2Proof.Machine.execQueueResume t queue src s
  | .queuePop t queue tag fixed bad => Sys2Proof.Machine.execQueuePop t queue tag fixed bad s
  | .dispatchSend t room => Sys2Proof.Machine.execDispatchSend t room s
  | .ringSet t queue src f => Sys2Proof.Machine.execRingSet t queue src f s
  | .ringRdWrite t queue src lap ofs => Sys2Proof.Machine.execRingRdWrite t queue src lap ofs s
  | .msgQsend t r => Sys2Proof.Machine.execMsgQsend t r s
  | .msgLockAcq t r => Sys2Proof.Machine.execMsgLockAcq t r s
  | .msgLockRel t r => Sys2Proof.Machine.execMsgLockRel t r s
  | .lockAcqArrive t m => Sys2Proof.Machine.execLockAcqArrive t m s
  | .lockRelArrive t m => Sys2Proof.Machine.execLockRelArrive t m s
  | .lockAnsReceived t m => Sys2Proof.Machine.execLockAnsReceived t m s
  | .lockBackoffExpire t tag => Sys2Proof.Machine.execLockBackoffExpire t tag s
  | .lockLimitExpire t tag => Sys2Proof.Machine.execLockLimitExpire t tag s
  | .tileLostReceived t m => Sys2Proof.Machine.execTileLostReceived t m s
  | .redSmallArrive t m => Sys2Proof.Machine.execRedSmallArrive t m s
  | .redAnsReceived t m => Sys2Proof.Machine.execRedAnsReceived t m s
  | .timeMessage t m => Sys2Proof.Machine.execTimeMessage t m s
  | .mpRead t r => Sys2Proof.Machine.execMpRead t r s
  | .mpWrite t r => Sys2Proof.Machine.execMpWrite t r s
  | .atomicAdd t r => Sys2Proof.Machine.execAtomicAdd t r s
  | .atomicCas t r => Sys2Proof.Machine.execAtomicCas t r s
  | .atomicXchg t r => Sys2Proof.Machine.execAtomicXchg t r s
  | .mpFence t tag len => Sys2Proof.Machine.execMpFence t tag len s
  | .fenceComplete t => Sys2Proof.Machine.execFenceComplete t s
  | .mFlitArrive t port sub m idx e => Sys2Proof.Machine.execMFlitArrive t port sub m idx e s
  | .sliceRequestPresent sl => Sys2Proof.Machine.execSliceRequestPresent sl s
  | .sliceReturn sl tag st data => Sys2Proof.Machine.execSliceReturn sl tag st data s
  | .memRequestTimeout t tag => Sys2Proof.Machine.execMemRequestTimeout t tag s
  | .memTagRelease t tag => Sys2Proof.Machine.execMemTagRelease t tag s
  | .linkEnable n m => Sys2Proof.Machine.execLinkEnable n m s
  | .linkDisable n m => Sys2Proof.Machine.execLinkDisable n m s
  | .linkRetrain n m => Sys2Proof.Machine.execLinkRetrain n m s
  | .linkLoopWrite n m => Sys2Proof.Machine.execLinkLoopWrite n m s
  | .receiverDetect n present keeper => Sys2Proof.Machine.execReceiverDetect n present keeper s
  | .helloTimer n => Sys2Proof.Machine.execHelloTimer n s
  | .helloReceived n k => Sys2Proof.Machine.execHelloReceived n k s
  | .stageTimeout n => Sys2Proof.Machine.execStageTimeout n s
  | .linkNotDetected n => Sys2Proof.Machine.execLinkNotDetected n s
  | .downHoldoffEnd n => Sys2Proof.Machine.execDownHoldoffEnd n s
  | .trainReqReceived n k => Sys2Proof.Machine.execTrainReqReceived n k s
  | .trainAnsReceived n k => Sys2Proof.Machine.execTrainAnsReceived n k s
  | .trainWindowEnd n lane errors giveUp => Sys2Proof.Machine.execTrainWindowEnd n lane errors giveUp s
  | .lockMsgTimer n => Sys2Proof.Machine.execLockMsgTimer n s
  | .lockMsgReceived n k => Sys2Proof.Machine.execLockMsgReceived n k s
  | .codewordReceived n lane c full => Sys2Proof.Machine.execCodewordReceived n lane c full s
  | .capsReceived n k => Sys2Proof.Machine.execCapsReceived n k s
  | .capsAckReceived n k => Sys2Proof.Machine.execCapsAckReceived n k s
  | .keeperCharacter n v => Sys2Proof.Machine.execKeeperCharacter n v s
  | .keeperTransmit n => Sys2Proof.Machine.execKeeperTransmit n s
  | .keeperResendTimeout n => Sys2Proof.Machine.execKeeperResendTimeout n s
  | .keeperLossTimeout n => Sys2Proof.Machine.execKeeperLossTimeout n s
  | .keeperDownReceived n k => Sys2Proof.Machine.execKeeperDownReceived n k s
  | .laneHealthWindow n lane => Sys2Proof.Machine.execLaneHealthWindow n lane s
  | .swapReqSpareIn n k => Sys2Proof.Machine.execSwapReqSpareIn n k s
  | .swapReqDropLane n k => Sys2Proof.Machine.execSwapReqDropLane n k s
  | .swapAckReceived n k => Sys2Proof.Machine.execSwapAckReceived n k s
  | .txMapSwitch n => Sys2Proof.Machine.execTxMapSwitch n s
  | .rxMapSwitch n => Sys2Proof.Machine.execRxMapSwitch n s
  | .testReqStop n k => Sys2Proof.Machine.execTestReqStop n k s
  | .testReqLoop n k => Sys2Proof.Machine.execTestReqLoop n k s
  | .testReqPattern n k => Sys2Proof.Machine.execTestReqPattern n k s
  | .testAckReceived n k => Sys2Proof.Machine.execTestAckReceived n k s
  | .linkPrbsCtlWrite n m => Sys2Proof.Machine.execLinkPrbsCtlWrite n m s
  | .linkLaneWrite n lane m => Sys2Proof.Machine.execLinkLaneWrite n lane m s
  | .frameTdataReceived n f full => Sys2Proof.Machine.execFrameTdataReceived n f full s
  | .frameCdataReceived n f full => Sys2Proof.Machine.execFrameCdataReceived n f full s
  | .frameCtrlReceived n f full => Sys2Proof.Machine.execFrameCtrlReceived n f full s
  | .frameCircReceived n f full => Sys2Proof.Machine.execFrameCircReceived n f full s
  | .frameSend n => Sys2Proof.Machine.execFrameSend n s
  | .replayTimeout n => Sys2Proof.Machine.execReplayTimeout n s
  | .nakTimeout n => Sys2Proof.Machine.execNakTimeout n s
  | .ackIdleTimeout n => Sys2Proof.Machine.execAckIdleTimeout n s
  | .linkLost n => Sys2Proof.Machine.execLinkLost n s
  | .egressRewrite n => Sys2Proof.Machine.execEgressRewrite n s
  | .egressRestore n => Sys2Proof.Machine.execEgressRestore n s
  | .e2eRetransmit n => Sys2Proof.Machine.execE2eRetransmit n s
  | .nodeLost node => Sys2Proof.Machine.execNodeLost node s
  | .resendTileTake t p => Sys2Proof.Machine.execResendTileTake t p s
  | .egressComplete t mseq => Sys2Proof.Machine.execEgressComplete t mseq s
  | .panArmGo q => Sys2Proof.Machine.execPanArmGo q s
  | .panArmCancel q => Sys2Proof.Machine.execPanArmCancel q s
  | .panDrainStart w => Sys2Proof.Machine.execPanDrainStart w s
  | .panCommit w => Sys2Proof.Machine.execPanCommit w s
  | .panResetArm q => Sys2Proof.Machine.execPanResetArm q s
  | .imgLoad q => Sys2Proof.Machine.execImgLoad q s
  | .imgDataWrite q => Sys2Proof.Machine.execImgDataWrite q s
  | .imageCheckComplete => Sys2Proof.Machine.execImageCheckComplete s
  | .imgSwitch q => Sys2Proof.Machine.execImgSwitch q s
  | .imgCancel q => Sys2Proof.Machine.execImgCancel q s
  | .imgRestoreFactory q => Sys2Proof.Machine.execImgRestoreFactory q s
  | .imgDiscard q => Sys2Proof.Machine.execImgDiscard q s
  | .imageCommit => Sys2Proof.Machine.execImageCommit s
  | .factoryRestoreTick => Sys2Proof.Machine.execFactoryRestoreTick s
  | .faultReport unit quiet held => Sys2Proof.Machine.execFaultReport unit quiet held s
  | .brokenWireDetect unit quiet held => Sys2Proof.Machine.execBrokenWireDetect unit quiet held s
  | .faultMessage m => Sys2Proof.Machine.execFaultMessage m s
  | .faultMessageTimeout unit => Sys2Proof.Machine.execFaultMessageTimeout unit s
  | .escalationExpire entry => Sys2Proof.Machine.execEscalationExpire entry s
  | .attnReceived n k => Sys2Proof.Machine.execAttnReceived n k s
  | .fltClrClear q => Sys2Proof.Machine.execFltClrClear q s
  | .fltClrAct q => Sys2Proof.Machine.execFltClrAct q s
  | .fltClrAll q => Sys2Proof.Machine.execFltClrAll q s
  | .faultStateExit => Sys2Proof.Machine.execFaultStateExit s
  | .fltInjGo q => Sys2Proof.Machine.execFltInjGo q s
  | .fenceRouterWrite t m => Sys2Proof.Machine.execFenceRouterWrite t m s
  | .fenceClientWrite t m => Sys2Proof.Machine.execFenceClientWrite t m s
  | .unfenceClient t m => Sys2Proof.Machine.execUnfenceClient t m s
  | .stopControlParity t ty => Sys2Proof.Machine.execStopControlParity t ty s
  | .meshWireFailing t port plane group wire => Sys2Proof.Machine.execMeshWireFailing t port plane group wire s
  | .meshWireSwap t port plane group => Sys2Proof.Machine.execMeshWireSwap t port plane group s
  | .hrvReq q => Sys2Proof.Machine.execHrvReq q s
  | .hrvThaw q => Sys2Proof.Machine.execHrvThaw q s
  | .harvestPin low => Sys2Proof.Machine.execHarvestPin low s
  | .harvestFreezeMsg n k => Sys2Proof.Machine.execHarvestFreezeMsg n k s
  | .harvestThawMsg n k => Sys2Proof.Machine.execHarvestThawMsg n k s
  | .harvestFloodRepeat => Sys2Proof.Machine.execHarvestFloodRepeat s
  | .harvestFreeze => Sys2Proof.Machine.execHarvestFreeze s
  | .captureSettled n => Sys2Proof.Machine.execCaptureSettled n s
  | .harvestThaw => Sys2Proof.Machine.execHarvestThaw s
  | .scanDataRead q => Sys2Proof.Machine.execScanDataRead q s
  | .scanSelWrite q => Sys2Proof.Machine.execScanSelWrite q s
  | .scanTrace q => Sys2Proof.Machine.execScanTrace q s
  | .rakeTrig src q => Sys2Proof.Machine.execRakeTrig src q s
  | .rakeRearm q => Sys2Proof.Machine.execRakeRearm q s
  | .rakeMarkWrite q => Sys2Proof.Machine.execRakeMarkWrite q s
  | .rakeRecordSend => Sys2Proof.Machine.execRakeRecordSend s
  | .rakeSinkWrite => Sys2Proof.Machine.execRakeSinkWrite s
  | .traceCodewordSlot up => Sys2Proof.Machine.execTraceCodewordSlot up s
  | .chkClaim u q => Sys2Proof.Machine.execChkClaim u q s
  | .chkRelease u q => Sys2Proof.Machine.execChkRelease u q s
  | .chkInit u q => Sys2Proof.Machine.execChkInit u q s
  | .chkStart u q => Sys2Proof.Machine.execChkStart u q s
  | .chkAbort u q => Sys2Proof.Machine.execChkAbort u q s
  | .chkData8 u q => Sys2Proof.Machine.execChkData8 u q s
  | .chkData16 u q => Sys2Proof.Machine.execChkData16 u q s
  | .chkData32 u q => Sys2Proof.Machine.execChkData32 u q s
  | .chkValRead u q => Sys2Proof.Machine.execChkValRead u q s
  | .chkValWrite u hi q => Sys2Proof.Machine.execChkValWrite u hi q s
  | .scanReadIssue => Sys2Proof.Machine.execScanReadIssue s
  | .scanReadReturn u tag ok data => Sys2Proof.Machine.execScanReadReturn u tag ok data s
  | .budgetValue b full => Sys2Proof.Machine.execBudgetValue b full s
  | .powerEvaluate => Sys2Proof.Machine.execPowerEvaluate s
  | .corePowerRequest t w full => Sys2Proof.Machine.execCorePowerRequest t w full s
  | .pwrRequestForward t => Sys2Proof.Machine.execPwrRequestForward t s
  | .pwrGrantReceived t m full => Sys2Proof.Machine.execPwrGrantReceived t m full s
  | .spareLaneWake n lane => Sys2Proof.Machine.execSpareLaneWake n lane s
  | .porstAssert => Sys2Proof.Machine.execPorstAssert s
  | .porstRelease => Sys2Proof.Machine.execPorstRelease s
  | .fuseReadComplete words => Sys2Proof.Machine.execFuseReadComplete words s
  | .clockLocked => Sys2Proof.Machine.execClockLocked s
  | .selftestComplete fails => Sys2Proof.Machine.execSelftestComplete fails s
  | .startupPhaseTimeout wires => Sys2Proof.Machine.execStartupPhaseTimeout wires s
  | .fltRstWrite q => Sys2Proof.Machine.execFltRstWrite q s
  | .blockResetStart => Sys2Proof.Machine.execBlockResetStart s
  | .clientReset t src => Sys2Proof.Machine.execClientReset t src s
  | .clientResetDone t => Sys2Proof.Machine.execClientResetDone t s
  | .dscPut t d => Sys2Proof.Machine.execDscPut t d s
  | .dscMwrite t d => Sys2Proof.Machine.execDscMwrite t d s
  | .dscMread t d => Sys2Proof.Machine.execDscMread t d s
  | .dscRingmsg t d => Sys2Proof.Machine.execDscRingmsg t d s
  | .dscMcast t d => Sys2Proof.Machine.execDscMcast t d s
  | .tpReadData t tag last err data => Sys2Proof.Machine.execTpReadData t tag last err data s
  | .regRdReceived at_ m => Sys2Proof.Machine.execRegRdReceived at_ m s
  | .regWrReceived at_ m => Sys2Proof.Machine.execRegWrReceived at_ m s
  | .regAnsReceived m => Sys2Proof.Machine.execRegAnsReceived m s
  | .regAnswerTimeout => Sys2Proof.Machine.execRegAnswerTimeout s
  | .blkAttnRead q => Sys2Proof.Machine.execBlkAttnRead q s
  | .registerWrite q => Sys2Proof.Machine.execRegisterWrite q s
  | .registerRead q => Sys2Proof.Machine.execRegisterRead q s
  | .patternCheckerReceive n lane bits => Sys2Proof.Machine.execPatternCheckerReceive n lane bits s
  | .tideExchangeTimer n => Sys2Proof.Machine.execTideExchangeTimer n s
  | .laneLossOfSignal n lane => Sys2Proof.Machine.execLaneLossOfSignal n lane s
  | .sliceEvent sl code full => Sys2Proof.Machine.execSliceEvent sl code full s
  | .harvestNRelease => Sys2Proof.Machine.execHarvestNRelease s

end Sys2Proof.Machine
end

