-- ==== Sys2Proof/WellFormed.lean ====
section
/-! DEFINITION. What a command must be to be one that the block can meet: units that the build has, and data of the length that its
wires and ports carry (R7, R8, R12, R20, R21, R67, R68, R271, R274, R307, R339, R363, R454, R507, R531, R564, R581, R586). -/

namespace Sys2Proof

open Sys2Proof.Machine

/-- A packet carries the bytes that its header counts (R67). -/
def pktWf (p : Pkt) : Bool := p.data.length == p.hdr.plen.toNat

/-- A codeword has twenty blocks, and its errors are at distinct symbols of the 544 and not 0 (R334). -/
def codeWf (c : Codeword) : Bool :=
  c.blocks.length == 20 && c.errs.all (fun e => decide (e.1 < 544 ∧ 1 ≤ e.2 ∧ e.2 < 1024)) && decide ((c.errs.map (·.1)).Nodup)

/-- A C-plane message carries the bytes that its header counts, at most 48 (R274). -/
def cMsgWf (m : CMsg) : Bool := m.data.length == m.hdr.plen.toNat && decide (m.hdr.plen.toNat ≤ 48)

/-- A keeper message has its type's length (R339, R341). -/
def kMsgWf (k : KMsg) : Bool := kLen k.ktype == some k.data.length

/-- A request of an MP port is of 1 to 256 bytes (R581). -/
def mpReqWf (r : MpReq) : Bool := decide (1 ≤ r.len ∧ r.len ≤ 256) && decide (r.data.length ≤ 256)

/-- An M-plane message is between a tile and a slice of the die (R307). -/
def mMsgWf (b : Build) (m : MMsg) : Bool := tileOk b m.tile && decide (m.slice < nSlices b) && decide (1 ≤ m.len ∧ m.len ≤ 256)

/-- A codeword of the trace port holds 20 records (R507). -/
def codewordWf (up : Option (List Byte)) : Bool := match up with | some bs => bs.length == 640 | none => true

/-- The place of a register access exists (R594). -/
def placeWf (b : Build) (p : RegPlace) : Bool := match p with | .stop t => tileOk b t | .link n => decide (n < nLinks b)

/-- The path of a crossing exists (R31). -/
def pathWf (b : Build) (x : XPath) : Bool :=
  match x with
  | .cmd t | .msg t | .dsp t | .tp t | .mp t | .pwr t => tileOk b t
  | .slice sl | .sliceEv sl => decide (sl < nSlices b)
  | .linkRx n | .linkTx n | .linkEv n => decide (n < nLinks b)
  | .control | .budget | .fuse => true

/-- A re-shape is of one of four stages, of the die or of one of 256 pans (R411, R439, R572). -/
def swWf (w : SwId) : Bool := match w with | .stage k => decide (k < 4) | .full => true | .reset p => decide (p < 256)

/-- The source of a queue's command (R279). -/
def srcWf (x : QSrc) : Bool := match x with | .msg _ => true | .host w m => decide (w < 8) && cMsgWf m

/-- A tile whose stop has an M-port and an M-plane router (R21). -/
def mTileOk (b : Build) (t : Nat) : Bool := decide (b = .hfE) && tileOk b t

/-- A command is well formed on a build. -/
def Instr.wellFormed (b : Build) (i : Instr) : Bool :=
  match i with
  | .tideTick => true
  | .rowRemapDrained y => decide (y < 16)
  | .rowRemapTimeout y => decide (y < 16)
  | .quadrantTraining _ => true
  | .quadrantPhaseLost p q => decide (p < 4 ∧ q < 4)
  | .crossingTimeout x _ _ => pathWf b x
  | .crossingReopen x _ => pathWf b x
  | .tidePingReceived n k => decide (n < nLinks b) && kMsgWf k
  | .tidePongReceived n k => decide (n < nLinks b) && kMsgWf k
  | .tideBurstComplete n => decide (n < nLinks b)
  | .tideAlignTimeout => true
  | .tideSteerPeriod => true
  | .tideParentLost => true
  | .tideHoldoverExpired => true
  | .tideParentReturned n => decide (n < nLinks b)
  | .tideCfgWrite _ => true
  | .tideMasterLoad => true
  | .tideRealign _ => true
  | .tideBurstCmd _ => true
  | .tideNowRead _ => true
  | .tideStepRead _ => true
  | .tideOobClear _ => true
  | .tFlitArrive t port f _ => tileOk b t && portOk b t port && f.data.length == flitW b
  | .outputCycle t port => tileOk b t && portOk b t port
  | .creditReturn t port vc => tileOk b t && portOk b t port && decide (vc < 4)
  | .siInject t => tileOk b t
  | .messageIssue t => tileOk b t
  | .putArrive t p => tileOk b t && pktWf p
  | .mrespArrive t p => tileOk b t && pktWf p
  | .mwriteArrive t p => tileOk b t && pktWf p
  | .mreadArrive t p => tileOk b t && pktWf p
  | .ringmsgArrive t p => tileOk b t && pktWf p
  | .mcastArrive t port p => tileOk b t && portOk b t port && pktWf p
  | .redDownArrive t p => tileOk b t && pktWf p
  | .ackArrive t p => tileOk b t && pktWf p
  | .nackArrive t p => tileOk b t && pktWf p
  | .assemblyTimeout t _ _ _ _ => tileOk b t
  | .completedKeyExpire t _ _ _ _ => tileOk b t
  | .resendBackoffExpire t _ => tileOk b t
  | .answerTimeout t plane _ => tileOk b t && decide (plane < 3)
  | .sluiceEval t => tileOk b t
  | .clientFence t => tileOk b t
  | .routerFence t => tileOk b t
  | .fenceSetSwitch => true
  | .mcastEjectTimeout t p _ => tileOk b t && pktWf p
  | .collectorAnswer t p => tileOk b t && pktWf p
  | .collectorTimeout t _ _ _ => tileOk b t
  | .collectorKeyExpire t _ _ _ => tileOk b t
  | .mcastRoundEnd t _ => tileOk b t
  | .slotBankSwap => true
  | .slotArm _ => true
  | .slotCancel _ => true
  | .circuitFlitArrive t port f _ => tileOk b t && portOk b t port && f.data.length == flitW b
  | .stopPrioWrite t m => tileOk b t && cMsgWf m
  | .stopArbWrite t m => tileOk b t && cMsgWf m
  | .redUpArrive t p _ => tileOk b t && pktWf p
  | .cuPacketCombine t p _ k => tileOk b t && pktWf p && (match k with | some n => decide (n ≤ 17) | none => true)
  | .cuLaneError t lane => tileOk b t && decide (lane ≤ match b with | .hfE => 32 | .hfS => 64)
  | .contributionBackoffExpire t _ => tileOk b t
  | .doneEntryExpire t _ _ _ => tileOk b t
  | .bypassEntryExpire t _ _ _ => tileOk b t
  | .collBypass t p => tileOk b t && pktWf p
  | .storeCorrected t slot => tileOk b t && decide (slot < nSlots b)
  | .storeUncorrectable t slot => tileOk b t && decide (slot < nSlots b)
  | .bankSpareTakeover t bank => tileOk b t && decide (4 * bank < nSlots b)
  | .collAllReduce t _ => tileOk b t
  | .collReduceScatter t _ => tileOk b t
  | .collAllGather t _ => tileOk b t
  | .collBroadcast t _ => tileOk b t
  | .collBarrier t _ => tileOk b t
  | .collAllToAll t _ => tileOk b t
  | .collDescriptorRelease t => tileOk b t
  | .commitProgressTimer t _ => tileOk b t
  | .collMismatchRecord t p => tileOk b t && pktWf p
  | .collCommitProgress t p => tileOk b t && pktWf p
  | .collCommitFinal t p => tileOk b t && pktWf p
  | .collAbort t p => tileOk b t && pktWf p
  | .collReplayCause t p => tileOk b t && pktWf p
  | .collReplayOrder t p => tileOk b t && pktWf p
  | .deputyTakeover t _ => tileOk b t
  | .gtlTimeout t _ => tileOk b t
  | .memberTimeout t _ => tileOk b t
  | .rootRecordEnd t _ => tileOk b t
  | .endedEntryExpire t _ _ => tileOk b t
  | .stopCollAbortWrite t m => tileOk b t && cMsgWf m
  | .cFlitArrive t port f _ => tileOk b t && portOk b t port && f.data.length == 16
  | .cMessageForward t port => tileOk b t && portOk b t port
  | .qsendArrive t m => tileOk b t && cMsgWf m
  | .qansReceived t m => tileOk b t && cMsgWf m
  | .ringWriteComplete t queue => tileOk b t && decide (queue < 32)
  | .queueOpen t queue src => tileOk b t && decide (queue < 32) && srcWf src
  | .queueClose t queue src => tileOk b t && decide (queue < 32) && srcWf src
  | .queueReset t queue src => tileOk b t && decide (queue < 32) && srcWf src
  | .queuePause t queue src => tileOk b t && decide (queue < 32) && srcWf src
  | .queueResume t queue src => tileOk b t && decide (queue < 32) && srcWf src
  | .queuePop t queue _ _ _ => tileOk b t && decide (queue < 32)
  | .dispatchSend t _ => tileOk b t
  | .ringSet t queue src _ => tileOk b t && decide (queue < 32) && srcWf src
  | .ringRdWrite t queue src _ _ => tileOk b t && decide (queue < 32) && srcWf src
  | .msgQsend t r => tileOk b t && r.payload.length == 48
  | .msgLockAcq t r => tileOk b t && r.payload.length == 48
  | .msgLockRel t r => tileOk b t && r.payload.length == 48
  | .lockAcqArrive t m => tileOk b t && cMsgWf m
  | .lockRelArrive t m => tileOk b t && cMsgWf m
  | .lockAnsReceived t m => tileOk b t && cMsgWf m
  | .lockBackoffExpire t tag => tileOk b t && decide (tag < 16)
  | .lockLimitExpire t tag => tileOk b t && decide (tag < 16)
  | .tileLostReceived t m => tileOk b t && cMsgWf m
  | .redSmallArrive t m => tileOk b t && cMsgWf m
  | .redAnsReceived t m => tileOk b t && cMsgWf m
  | .timeMessage t m => tileOk b t && cMsgWf m
  | .mpRead t r => mTileOk b t && mpReqWf r
  | .mpWrite t r => mTileOk b t && mpReqWf r
  | .atomicAdd t r => mTileOk b t && mpReqWf r
  | .atomicCas t r => mTileOk b t && mpReqWf r
  | .atomicXchg t r => mTileOk b t && mpReqWf r
  | .mpFence t _ _ => mTileOk b t
  | .fenceComplete t => mTileOk b t
  | .mFlitArrive t port sub m _ _ =>
    mTileOk b t && (if port < 4 then portOk b t port else decide (port = 4 ∨ (port < 7 ∧ slicesOf b t ≠ []))) && decide (sub < 8) && mMsgWf b m
  | .sliceRequestPresent sl => decide (sl < nSlices b)
  | .sliceReturn sl _ st data => decide (sl < nSlices b) && decide (st < 3) && decide (data.length ≤ 256)
  | .memRequestTimeout t tag => mTileOk b t && decide (tag < 256)
  | .memTagRelease t tag => mTileOk b t && decide (tag < 256)
  | .linkEnable n m => decide (n < nLinks b) && cMsgWf m
  | .linkDisable n m => decide (n < nLinks b) && cMsgWf m
  | .linkRetrain n m => decide (n < nLinks b) && cMsgWf m
  | .linkLoopWrite n m => decide (n < nLinks b) && cMsgWf m
  | .receiverDetect n _ _ => decide (n < nLinks b)
  | .helloTimer n => decide (n < nLinks b)
  | .helloReceived n k => decide (n < nLinks b) && kMsgWf k
  | .stageTimeout n => decide (n < nLinks b)
  | .linkNotDetected n => decide (n < nLinks b)
  | .downHoldoffEnd n => decide (n < nLinks b)
  | .trainReqReceived n k => decide (n < nLinks b) && kMsgWf k
  | .trainAnsReceived n k => decide (n < nLinks b) && kMsgWf k
  | .trainWindowEnd n lane _ _ => decide (n < nLinks b) && decide (lane < 3)
  | .lockMsgTimer n => decide (n < nLinks b)
  | .lockMsgReceived n k => decide (n < nLinks b) && kMsgWf k
  | .codewordReceived n lane c _ => decide (n < nLinks b) && decide (lane < 3) && codeWf c
  | .capsReceived n k => decide (n < nLinks b) && kMsgWf k
  | .capsAckReceived n k => decide (n < nLinks b) && kMsgWf k
  | .keeperCharacter n _ => decide (n < nLinks b)
  | .keeperTransmit n => decide (n < nLinks b)
  | .keeperResendTimeout n => decide (n < nLinks b)
  | .keeperLossTimeout n => decide (n < nLinks b)
  | .keeperDownReceived n k => decide (n < nLinks b) && kMsgWf k
  | .laneHealthWindow n lane => decide (n < nLinks b) && decide (lane < 3)
  | .swapReqSpareIn n k => decide (n < nLinks b) && kMsgWf k
  | .swapReqDropLane n k => decide (n < nLinks b) && kMsgWf k
  | .swapAckReceived n k => decide (n < nLinks b) && kMsgWf k
  | .txMapSwitch n => decide (n < nLinks b)
  | .rxMapSwitch n => decide (n < nLinks b)
  | .testReqStop n k => decide (n < nLinks b) && kMsgWf k
  | .testReqLoop n k => decide (n < nLinks b) && kMsgWf k
  | .testReqPattern n k => decide (n < nLinks b) && kMsgWf k
  | .testAckReceived n k => decide (n < nLinks b) && kMsgWf k
  | .linkPrbsCtlWrite n m => decide (n < nLinks b) && cMsgWf m
  | .linkLaneWrite n lane m => decide (n < nLinks b) && decide (lane < 3) && cMsgWf m
  | .frameTdataReceived n f _ => decide (n < nLinks b) && f.data.length == 32 * f.hdr.nblk.toNat
  | .frameCdataReceived n f _ => decide (n < nLinks b) && f.data.length == 32 * f.hdr.nblk.toNat
  | .frameCtrlReceived n f _ => decide (n < nLinks b) && f.data.length == 32 * f.hdr.nblk.toNat
  | .frameCircReceived n f _ => decide (n < nLinks b) && f.data.length == 32 * f.hdr.nblk.toNat
  | .frameSend n => decide (n < nLinks b)
  | .replayTimeout n => decide (n < nLinks b)
  | .nakTimeout n => decide (n < nLinks b)
  | .ackIdleTimeout n => decide (n < nLinks b)
  | .linkLost n => decide (n < nLinks b)
  | .egressRewrite n => decide (n < nLinks b)
  | .egressRestore n => decide (n < nLinks b)
  | .e2eRetransmit n => decide (n < nLinks b)
  | .nodeLost node => decide (node < 4096)
  | .resendTileTake t p => tileOk b t && pktWf p
  | .egressComplete t _ => tileOk b t
  | .panArmGo _ => true
  | .panArmCancel _ => true
  | .panDrainStart w => swWf w
  | .panCommit w => swWf w
  | .panResetArm _ => true
  | .imgLoad _ => true
  | .imgDataWrite _ => true
  | .imageCheckComplete => true
  | .imgSwitch _ => true
  | .imgCancel _ => true
  | .imgRestoreFactory _ => true
  | .imgDiscard _ => true
  | .imageCommit => true
  | .factoryRestoreTick => true
  | .faultReport unit _ _ => decide (unit < 65536)
  | .brokenWireDetect unit _ _ => decide (unit < 65536)
  | .faultMessage m => cMsgWf m
  | .faultMessageTimeout unit => decide (unit < 65536)
  | .escalationExpire entry => decide (entry < 64)
  | .attnReceived n k => decide (n < nLinks b) && kMsgWf k
  | .fltClrClear _ => true
  | .fltClrAct _ => true
  | .fltClrAll _ => true
  | .faultStateExit => true
  | .fltInjGo _ => true
  | .fenceRouterWrite t m => tileOk b t && cMsgWf m
  | .fenceClientWrite t m => tileOk b t && cMsgWf m
  | .unfenceClient t m => tileOk b t && cMsgWf m
  | .stopControlParity t ty => tileOk b t && decide (ty < 7)
  | .meshWireFailing t port plane _ _ => tileOk b t && portOk b t port && decide (plane < 2)
  | .meshWireSwap t port plane _ => tileOk b t && portOk b t port && decide (plane < 2)
  | .hrvReq _ => true
  | .hrvThaw _ => true
  | .harvestPin _ => true
  | .harvestFreezeMsg n k => decide (n < nLinks b) && kMsgWf k
  | .harvestThawMsg n k => decide (n < nLinks b) && kMsgWf k
  | .harvestFloodRepeat => true
  | .harvestFreeze => true
  | .captureSettled n => decide (n < nLinks b)
  | .harvestThaw => true
  | .scanDataRead _ => true
  | .scanSelWrite _ => true
  | .scanTrace _ => true
  | .rakeTrig src _ => decide (src < 5)
  | .rakeRearm _ => true
  | .rakeMarkWrite _ => true
  | .rakeRecordSend => true
  | .rakeSinkWrite => true
  | .traceCodewordSlot up => codewordWf up
  | .chkClaim u _ => decide (u < 8)
  | .chkRelease u _ => decide (u < 8)
  | .chkInit u _ => decide (u < 8)
  | .chkStart u _ => decide (u < 8)
  | .chkAbort u _ => decide (u < 8)
  | .chkData8 u _ => decide (u < 8)
  | .chkData16 u _ => decide (u < 8)
  | .chkData32 u _ => decide (u < 8)
  | .chkValRead u _ => decide (u < 8)
  | .chkValWrite u _ _ => decide (u < 8)
  | .scanReadIssue => true
  | .scanReadReturn u _ _ data => decide (u < 8) && decide (data.length ≤ 256)
  | .budgetValue _ _ => true
  | .powerEvaluate => true
  | .corePowerRequest t _ _ => tileOk b t
  | .pwrRequestForward t => tileOk b t
  | .pwrGrantReceived t m _ => tileOk b t && cMsgWf m
  | .spareLaneWake n lane => decide (n < nLinks b) && decide (lane < 3)
  | .porstAssert => true
  | .porstRelease => true
  | .fuseReadComplete words => words.length == 2048
  | .clockLocked => true
  | .selftestComplete _ => true
  | .startupPhaseTimeout _ => true
  | .fltRstWrite _ => true
  | .blockResetStart => true
  | .clientReset t _ => tileOk b t
  | .clientResetDone t => tileOk b t
  | .dscPut t _ => tileOk b t
  | .dscMwrite t _ => tileOk b t
  | .dscMread t _ => tileOk b t
  | .dscRingmsg t _ => tileOk b t
  | .dscMcast t _ => tileOk b t
  | .tpReadData t _ _ _ data => tileOk b t && data.length == flitW b
  | .regRdReceived at_ m => placeWf b at_ && cMsgWf m
  | .regWrReceived at_ m => placeWf b at_ && cMsgWf m
  | .regAnsReceived m => cMsgWf m
  | .regAnswerTimeout => true
  | .blkAttnRead _ => true
  | .registerWrite _ => true
  | .registerRead _ => true
  | .patternCheckerReceive n lane _ => decide (n < nLinks b) && decide (lane < 3)
  | .tideExchangeTimer n => decide (n < nLinks b)
  | .laneLossOfSignal n lane => decide (n < nLinks b) && decide (lane < 3)
  | .sliceEvent sl _ _ => decide (sl < nSlices b)
  | .harvestNRelease => true

end Sys2Proof
end

