-- ==== Sys2Proof/Safety.lean ====
section
/-! DEFINITION. What claims rest on: the invariant of the block, when a unit carries out its commands, and the frames in which claims
say what a command leaves alone. -/

namespace Sys2Proof.Machine

/-! ## The invariant -/

/-- Every command that waits is well formed on the build, so that none stops the block. -/
def State.queueWf (s : State) : Prop := ∀ c ∈ s.pending, Instr.wellFormed s.build c = true

/-- The phase is one of the four of a tick (R38), and the trim is within ±200 ppm in units of 0.05 ppm (R50, R63). -/
def Tide.inRange (t : Tide) : Prop := t.phase < 4 ∧ -4000 ≤ t.trim ∧ t.trim ≤ 4000

/-- The invariant of the block: what waits is well formed, and the tide is in range. -/
def State.Inv (s : State) : Prop := s.queueWf ∧ s.tide.inRange

/-! ## When a unit carries out its commands -/

/-- The stop at `t` carries out its commands: the fabric runs, the tile is one of the grid and its router is not fenced. -/
def State.stopRuns (s : State) (t : Nat) : Prop :=
  s.running = true ∧ tileOk s.build t = true ∧ (s.stop t).ro.routerFenced = false

/-- Nothing that a link at tile `t` has received waits for room in the tile's router (R367). -/
def State.ringIdle (s : State) (t : Nat) : Prop :=
  ∀ n ∈ linksOf s.build t, ∀ vc, Tab.get [] (s.link n).ll.rxq vc = [] ∧ Tab.get [] (s.link n).ll.rxc vc = []

/-- No packet and no message of a plane is in a stop of the die. -/
def State.fabricEmpty (s : State) : Prop :=
  ∀ t, (s.stop t).rt.bufs = [] ∧ (s.stop t).c.bufs = [] ∧ (s.stop t).mrx = [] ∧ (s.stop t).mheld = []

/-- Link `n` of the build carries out its commands: the block is READY. -/
def State.linkRuns (s : State) (n : Nat) : Prop := s.ready = true ∧ n < nLinks s.build

/-- The link layer of link `n` carries out its commands: the fabric runs. -/
def State.linkFabRuns (s : State) (n : Nat) : Prop := s.running = true ∧ n < nLinks s.build

/-- The control port performs `q` at once (R593): the block is READY, its crossing is open, no request waits before it, no busy check unit holds
it, and it is for the register at byte offset `ofs`. -/
def State.serves (s : State) (ofs : Nat) (q : Req) : Prop :=
  s.ready = true ∧ s.shut .control = false ∧ s.ctrl.line = [] ∧ s.ctrl.entry = none ∧ s.ctlStalls q = false ∧ qOfs q = ofs

/-- Nothing waits for a fabric cycle: no stop has a request in a crossing, a message in the M-plane or a request at its M-port, no slice an
answer, no link is out of its reset state, and no request stands in the control port's line. -/
def State.nothingWaits (s : State) : Prop :=
  (∀ e ∈ s.stops, e.2.waits = false ∧ e.2.mheld = [] ∧ e.2.mp.line = []) ∧ (∀ e ∈ s.slices, ∀ p ∈ e.2.pend, p.ans = none) ∧ s.links = [] ∧
    s.ctrl.line = []

/-- The block as it decides on a packet of header `h` that comes to stop `t` by `port`: the entry of one from another chip is noted (R107). -/
def State.atEntry (s : State) (t port : Nat) (h : THdr) : State := if 5 ≤ port then s.noteEntry t h else s

/-- The stop at `t` performs at once what its client writes into crossing `x` of its port (R31, R394): the tile has a client, and the
crossing has not timed out. -/
def State.portTakes (s : State) (t : Nat) (x : XPath) : Prop := s.stopRuns t ∧ s.clientKind t ≠ 0 ∧ s.shut x = false

/-- The SI of tile `t` takes a descriptor at once (R82, R83, R238, R413): none waits before it. -/
def State.cmdTakes (s : State) (t : Nat) : Prop := s.portTakes t (.cmd t) ∧ s.cmdReady t = true

/-- The stop at `t` takes a request of tag `g` on the MSG port at once, at stage `k` of R283 (R31, R587): none waits before it, and no request
of that tag is outstanding. -/
def State.msgTakes (s : State) (t k : Nat) (g : BitVec 4) : Prop :=
  s.portTakes t (.msg t) ∧ s.msgReady t k = true ∧ s.tagBusy t g = false

/-- The queue block of tile `t` decides the QSEND `m` in this fc (R280, R283): it is of the tile's pan and of a live client, nothing
came before it, and queue `q` is the one that it names. -/
def State.qsendTakes (s : State) (t : Nat) (m : CMsg) (q : Queue) : Prop :=
  s.stopRuns t ∧ m.hdr.mkind = 1 ∧ s.qFree t 3 = true ∧ (s.stop t).q.arrivals = false ∧ (s.tilePan t).map (·.id) = some m.hdr.pan.toNat ∧
  (s.stop t).ro.clientFenced = false ∧ m.hdr.index.toNat < 16 ∧ s.queue t m.hdr.index.toNat = q

/-- The lock table of tile `t` decides the request `m` of kind `kind` (R280, R294): it is of the tile's pan and of a live client, and `l` is
the lock that it names. -/
def State.lockTakes (s : State) (t : Nat) (m : CMsg) (kind : BitVec 4) (l : Lock) : Prop :=
  s.stopRuns t ∧ m.hdr.mkind = kind ∧ (s.tilePan t).map (·.id) = some m.hdr.pan.toNat ∧ (s.stop t).ro.clientFenced = false ∧
  s.lock t m.hdr.index.toNat = l

/-- The M-port of tile `t`, on an HF-E build, takes a request of its client at once (R21, R31, R310): none waits before it. -/
def State.mpTakes (s : State) (t : Nat) : Prop := s.portTakes t (.mp t) ∧ s.build = .hfE ∧ s.mpReady t = true

/-- The M-router of the stop at `t`, on an HF-E build, takes a message at its input `port` (R20, R21, R307), and no other waits there. -/
def State.mTakes (s : State) (t port : Nat) : Prop :=
  s.stopRuns t ∧ s.build = .hfE ∧ mPortOk s.build t port = true ∧ (s.stop t).mheld = []

/-- Output `o` of that router takes message `m` on sub-channel `sub` at once (R309, R315): it is not sending, and there is room downstream. -/
def State.mGrants (s : State) (t o sub : Nat) (m : MMsg) : Prop :=
  ((s.stop t).mout o sub).busy ≤ s.ft ∧ s.mRoom t o sub m = true

/-- The attachment of slice `sl` carries out its commands, and an answer to a request of tile `t` may enter its router (R16, R309, R313). -/
def State.sliceAnswers (s : State) (sl t : Nat) : Prop :=
  s.running = true ∧ sl < nSlices s.build ∧ s.rowHeld (sliceTile sl) = false ∧ (s.stop (sliceTile sl)).ro.routerFenced = false ∧
  (s.stop (sliceTile sl)).mFree (slicePort sl) (subCh t sl) true = true

/-- The memory-service tile `t` takes a peer's packet of type `ty` (R112, R323, R380, R415). -/
def State.servesPeer (s : State) (t : Nat) (p : Pkt) (ty : BitVec 4) : Prop :=
  s.stopRuns t ∧ p.hdr.type = ty ∧ s.hdrOk p.hdr = true ∧ p.hdr.e2e = 0 ∧ s.isLate p.hdr = false ∧ (s.stop t).ro.clientFenced = false

/-- The CU of tile `t` takes the contribution's packet `pk` at once, from the own SI where `own` (R84, R199, R210, R255, R380, R407, R415,
R553): it is valid, of a live collective of group `g` and for plan node `n` of plan `p` here, nothing waits before it, the row may combine, and
the tile holds no root's record. -/
def State.cuTakes (s : State) (t : Nat) (own : Bool) (pk : Pkt) (g : Group) (p : Plan) (n : PlanNode) : Prop :=
  s.stopRuns t ∧ s.cuMay t = true ∧ (s.stop t).cu.waitR = [] ∧ (s.stop t).cu.waitO = (if own then [pk] else []) ∧ pk.hdr.type = tRedUp ∧
  s.hdrOk pk.hdr = true ∧ pk.hdr.e2e = 0 ∧ s.isLate pk.hdr = false ∧ countOk pk.hdr = true ∧ pk.hdr.pcnt.toNat ≤ 2 ∧
  s.groupOf pk.hdr.coll.toNat = some g ∧ g.pan = pk.hdr.pan.toNat ∧ s.hasEnded t pk.hdr = false ∧ s.nodeFor t pk.hdr = some (g, p, n) ∧
  (s.stop t).co.roots = []

/-- Plan node `n` at tile `t` is one below the root, whose CU combines and has no key done or pending (R211, R214, R216, R221). -/
def State.nodeWorks (s : State) (t : Nat) (p : Plan) (n : PlanNode) : Prop :=
  n.root = false ∧ s.rootHere t p n.stripe = false ∧ (s.stop t).cu.fenced = false ∧ (s.stop t).cu.done = [] ∧ (s.stop t).cu.pending = []

/-- Slot `k` of the CU of tile `t` is the head of the contribution's segment, whose due child is the packet's, with nothing of it taken and
no child held (R211, R212). -/
def State.dueAt (s : State) (t k : Nat) (h : THdr) (x : Slot) : Prop :=
  s.headOf t (segKey h) = some k ∧ s.slot t k = x ∧ x.state = 1 ∧ x.key = segKey h ∧ x.sig = h.sig ∧ x.pidx = 0 ∧ x.got = [] ∧ x.part = 0 ∧
  x.next = h.child.toNat ∧ x.mask.testBit h.child.toNat = false ∧ s.holdsOf t (segKey h) = []

/-- Packet `p` of type `ty` is an answer that the SI of tile `t` takes for its own message `m` (R84, R89, R112, R130 to R133, R380,
R415): its header and its counts are valid, it is not to be checked end to end, and no collector's record or account has it. -/
def State.ansTakes (s : State) (t : Nat) (p : Pkt) (ty : BitVec 4) (m : Msg) : Prop :=
  s.stopRuns t ∧ p.hdr.type = ty ∧ s.hdrOk p.hdr = true ∧ p.hdr.e2e = 0 ∧ s.isLate p.hdr = false ∧ ansCountOk p = true ∧
  s.forRecord t p.hdr = false ∧ s.collecting t p.hdr = false ∧ (s.stop t).si.msgs.find? (fun x => x.isAnswered p.hdr) = some m ∧
  s.ansFenced t m = false

/-! ## What leaves the block -/

/-- The one thing that leaves is the reply to `q` (R591). -/
def State.replied (s u : State) (q : Req) (code : Nat) (data : Word) : Prop :=
  u.out = s.out ++ [.reply (u.replyWord q.win.toNat q.tag code data)]

/-- The one thing that leaves is unit `unit`'s report of fault `code`, with the class that R459 gives it (R455, R456). -/
def State.reported (s u : State) (unit code : Nat) : Prop :=
  ∃ f : FaultMsg, u.out = s.out ++ [.fault f] ∧ f.code = BitVec.ofNat 16 code ∧ f.unit = BitVec.ofNat 16 unit ∧
    f.cls = BitVec.ofNat 2 (faultClass code) ∧ f.tick = s.stamp

/-- Packet `p` joins what the SI of tile `t` has ready for its injection port (R602), in the next place of what that port orders. -/
def State.readies (s u : State) (t : Nat) (p : Pkt) : Prop :=
  (u.stop t).si.inj = (s.stop t).si.inj ++ [{ pkt := p, readyAt := s.ft, governed := false, place := (s.stop t).si.nextUid, uid := none }]

/-- Packet `p` is all that the SI of tile `t` gets ready for its injection port. -/
def State.injects (s u : State) (t : Nat) (p : Pkt) : Prop := s.readies u t p ∧ (u.stop t).si.nextUid = (s.stop t).si.nextUid + 1

/-- The SI of tile `t` answers the packet of header `h` to its sender: ACK for code 0, else a NACK with that code, for the whole
message or for the one packet (R80, R89, R95). -/
def State.answersTo (s u : State) (t : Nat) (h : THdr) (code : Nat) (whole : Bool) : Prop :=
  ∃ p : Pkt, s.readies u t p ∧ p.data = [] ∧ p.hdr.type = (if code = 0 then tAck else tNack) ∧ p.hdr.vc = 1 ∧ p.hdr.dmode = 0 ∧
    p.hdr.dnode = h.snode ∧ p.hdr.dtile = h.stile ∧ p.hdr.pan = h.pan ∧ p.hdr.ctag = h.ctag ∧ ansCode p.hdr.w6 = code ∧
    ansMseq p.hdr.w6 = h.mseq.toNat ∧ ansWhole p.hdr.w6 = whole ∧ (whole = false → ansPidx p.hdr.w6 = h.pidx.toNat)

/-- The stop at `t` has one C-plane message more to send (R272). -/
def State.cSends (s u : State) (t : Nat) (m : CMsg) : Prop := (u.stop t).c.cq = (s.stop t).c.cq ++ [m]

/-- The stop at `t` answers the C-plane message of header `h` with kind `kind` and `ARG` `arg` (R274, R275, R406). -/
def State.cAnswers (s u : State) (t : Nat) (h : CHdr) (kind : BitVec 4) (arg : BitVec 32) : Prop :=
  ∃ m : CMsg, s.cSends u t m ∧ m.hdr.mkind = kind ∧ m.hdr.arg = arg ∧ m.hdr.mseq = h.mseq ∧ m.hdr.pan = h.pan ∧ m.hdr.dnode = h.snode ∧
    m.hdr.dtile = h.stile ∧ m.hdr.index = h.index ∧ m.data = []

/-- `m` writes the STOP register at offset `ofs` of tile `t`'s page through a window that may (R417, R598). -/
def State.regWrite (s : State) (t ofs : Nat) (m : CMsg) : Prop :=
  isKind m 0xA = true ∧ regOfs m = ofs ∧ s.stopWrOk (regWin m) t ofs = true

/-- The stop at `t` answers the register access `m` with REG_ANS: code and data (R598). -/
def State.regAnswered (s u : State) (t : Nat) (m : CMsg) (code : Nat) (data : Word) : Prop := s.cSends u t (s.regAnsMsg t m code data)

/-- The SI of tile `t` takes packets like that of header `h`: its header is valid, it is not to be checked end to end, no late packet, of
the tile's pan, and the client is not fenced (R73, R112, R380, R407, R415). -/
def State.siTakes (s : State) (t : Nat) (h : THdr) : Prop :=
  s.hdrOk h = true ∧ h.e2e = 0 ∧ s.isLate h = false ∧ s.panOk t h = true ∧ (s.stop t).ro.clientFenced = false

/-- The SI of tile `t` acts on the control record of kind `k` and VC `vc` in packet `p`, a record of a collective of group `g` (R209, R255,
R380, R407, R415): it is new, of the group's pan, not late, and its collective has not ended there. -/
def State.ctlTakes (s : State) (t : Nat) (p : Pkt) (g : Group) (k : Nat) (vc : BitVec 2) : Prop :=
  s.stopRuns t ∧ isCtl p k vc = true ∧ s.hdrOk p.hdr = true ∧ p.hdr.e2e = 0 ∧ s.isLate p.hdr = false ∧ s.groupOf p.hdr.coll.toNat = some g ∧
  g.pan = p.hdr.pan.toNat ∧ countOk p.hdr = true ∧ (s.stop t).si.keyState (keyOf p.hdr) s.ft = none ∧ s.hasEnded t p.hdr = false

/-- Command `i` brings the collective descriptor `d` to the CMD port of tile `t` (R236). -/
def descOf (t : Nat) (d : Desc) (i : Instr) : Prop :=
  d.kind = 3 ∧ (i = .collAllReduce t d ∧ d.cop = 0 ∨ i = .collReduceScatter t d ∧ d.cop = 1 ∨ i = .collAllGather t d ∧ d.cop = 2 ∨
    i = .collBroadcast t d ∧ d.cop = 3 ∨ i = .collBarrier t d ∧ d.cop = 4 ∨ i = .collAllToAll t d ∧ d.cop = 5)

/-- The SI of tile `t` takes `p`, a result of a collective of group `g` (R249, R380, R407, R415): its header and its counts are valid, and it
is of the group's pan and not late. -/
def State.downTakes (s : State) (t : Nat) (p : Pkt) (g : Group) : Prop :=
  s.stopRuns t ∧ p.hdr.type = tRedDown ∧ s.hdrOk p.hdr = true ∧ p.hdr.e2e = 0 ∧ s.isLate p.hdr = false ∧ countOk p.hdr = true ∧
  s.groupOf p.hdr.coll.toNat = some g ∧ g.pan = p.hdr.pan.toNat

/-- Packet `p` is the whole of a new message that opens no assembly of another (R86, R88). -/
def State.wholeNew (s : State) (t : Nat) (p : Pkt) : Prop :=
  p.hdr.pcnt = 1 ∧ p.hdr.pidx = 0 ∧ (s.stop t).si.keyState (keyOf p.hdr) s.ft = none ∧
  (s.stop t).si.asms.find? (fun a => a.key == keyOf p.hdr) = none ∧ (s.stop t).si.asms.length < 32

/-- The SI of tile `t` sends one control record more down a tree of the group's collective `coll` (R209, R259). -/
def State.sendsDown (s u : State) (t tree coll : Nat) (what : Down) (data : List Byte) : Prop :=
  ∃ m : Msg, (u.stop t).si.msgs = (s.stop t).si.msgs ++ [m] ∧ m.owner = .down coll what ∧ m.data = data ∧ m.hdr.type = tCtl ∧ m.hdr.vc = 3 ∧
    m.hdr.dmode = 2 ∧ m.hdr.dnode = BitVec.ofNat 12 s.node ∧ m.hdr.w6 = BitVec.ofNat 64 tree ∧ m.hdr.coll = BitVec.ofNat 16 coll ∧
    m.hdr.mseq = (s.stop t).si.rseq ∧ m.issued = true

/-- The SI of tile `t` sends one control record more to tile `dst` of the collective's root or deputy (R209, R257, R259). -/
def State.sendsCtl (s u : State) (t : Nat) (dst : Nat × Nat) (coll : Nat) (data : List Byte) : Prop :=
  ∃ m : Msg, (u.stop t).si.msgs = (s.stop t).si.msgs ++ [m] ∧ m.data = data ∧ m.hdr.type = tCtl ∧ m.hdr.vc = 2 ∧ m.hdr.dmode = 0 ∧
    m.hdr.dnode = BitVec.ofNat 12 dst.1 ∧ m.hdr.dtile = BitVec.ofNat 9 dst.2 ∧ m.hdr.coll = BitVec.ofNat 16 coll ∧
    m.hdr.mseq = (s.stop t).si.rseq ∧ m.issued = true

/-- Link `n` goes to DOWN with a reason (R343, R347): no lane is mapped, the holdoff of 10 ms begins, a DOWN message leaves where the keeper
lane is locked, and an ACTIVE link is to be declared lost. -/
def State.goesDown (s u : State) (n reason : Nat) : Prop :=
  (u.link n).state = 6 ∧ (u.link n).reason = reason ∧ (u.link n).attempts = min 3 ((s.link n).attempts + 1) ∧ (u.link n).rx0 = 3 ∧
  (u.link n).rx1 = 3 ∧ (u.link n).tx0 = 3 ∧ (u.link n).tx1 = 3 ∧ (u.link n).holdoff = some (s.fc + 20000000) ∧
  ((s.link n).kpr.locked = true → kPlain 0x0F [BitVec.ofNat 8 reason, 0, 0, 0] ∈ (u.link n).kpr.tx) ∧
  ((s.link n).state = 5 → (u.link n).ll.lossDue = true) ∧ ∀ j, j ≠ n → u.link j = s.link j

/-- `m` writes the LINK register at offset `ofs` of link `n`'s page through window 0 (R417, R598). -/
def linkWrites (n ofs : Nat) (m : CMsg) : Prop := isKind m 0xA = true ∧ regOfs m = ofs ∧ regPage m = 0x400 + n ∧ regWin m = 0

/-- The keeper lane of link `n` is in lock, and stays so with a character that is no error (R338). -/
def State.keeperHears (s : State) (n : Nat) : Prop :=
  (s.link n).state ≠ 0 ∧ (s.link n).kpr.locked = true ∧ (s.link n).kpr.since < 63 ∧ ((s.link n).kpr.errs.filter id).length < 4

/-- Link `n`'s keeper hands the 8b/10b code of one character to the PHY, at the running disparity of what it sent before (R338). -/
def State.codeLeaves (s u : State) (n : Nat) (c : KChar) : Prop :=
  u.out = s.out ++ [.kchar n c (encChar (s.link n).kpr.txRd c)] ∧
    (u.link n).kpr.txRd = rdSeen (s.link n).kpr.txRd (encChar (s.link n).kpr.txRd c)

/-- The keeper lane of link `n` takes request `k` as a new one (R340). -/
def State.keeperNew (s : State) (n : Nat) (k : KMsg) : Prop := (s.link n).kpr.lastReq ≠ some (k.ktype, k.kseq)

/-- Link `n`'s keeper has one message more to send (R340). -/
def State.keeperSends (s u : State) (n : Nat) (k : KMsg) : Prop := (u.link n).kpr.tx = (s.link n).kpr.tx ++ [k]

/-- Link `n`'s keeper asks with a new request of type `ty` (R340): it takes the next KSEQ and awaits its answer. -/
def State.keeperAsks (s u : State) (n : Nat) (ty : BitVec 8) (data : List Byte) : Prop :=
  ∃ k : KMsg, k = { ktype := ty, kseq := (s.link n).kpr.kseq + 1, data := data } ∧ k ∈ (u.link n).kpr.tx ∧ (k, 0, 0) ∈ (u.link n).kpr.waits

/-- Link `n` takes frame `f`, one of type `ty` that passes its CRC (R370): the fabric runs, the link is ACTIVE with no loss to declare, and
its crossing is open. -/
def State.frameTakes (s : State) (n : Nat) (f : Frame) (ty : BitVec 4) : Prop :=
  s.linkFabRuns n ∧ (s.link n).state = 5 ∧ s.shut (.linkRx n) = false ∧ (s.link n).ll.lossDue = false ∧ frameOk f = true ∧ f.hdr.ftype = ty

/-- Frame `f` brings link `n` nothing but its own content: no new acknowledgement, no credit and no NAK (R363). -/
def State.frameQuiet (s : State) (n : Nat) (f : Frame) : Prop :=
  f.hdr.nak = 0 ∧ f.hdr.crvc = 7 ∧ f.hdr.ackseq = (s.link n).ll.nextSeq - BitVec.ofNat 10 (s.link n).ll.replay.length

/-- Link `n` may send: the fabric runs, the link is ACTIVE with no loss to declare, and its crossing is open and has room (R31, R372). -/
def State.linkSends (s : State) (n : Nat) : Prop := s.linkFabRuns n ∧ s.maySend n = true

/-- One frame leaves link `n`, sealed with its CRC: of type `ty` and sequence `fseq`, with the acknowledgement, tide stamp and NAK flag that
R363 and R366 put into it. -/
def State.frameLeaves (s u : State) (n : Nat) (ty : BitVec 4) (fseq : BitVec 10) (nak : BitVec 1) (data : List Byte) : Prop :=
  ∃ g : Frame, u.out = s.out ++ [.frame n g] ∧ g.hdr.ftype = ty ∧ g.hdr.fseq = fseq ∧ g.hdr.nak = nak ∧ g.hdr.stide = s.stamp ∧
    g.hdr.sph = BitVec.ofNat 2 s.tide.phase ∧ g.hdr.ackseq = (u.link n).ll.ackSeq ∧ g.data = data ∧ g.hdr.crc = frameCrc g

/-- The control port performs `q`, a write of window 0 to IMG_CMD with command `cmd`, at once (R445). -/
def State.imgWrites (s : State) (cmd : Nat) (q : Req) : Prop :=
  s.serves 0x20000 q ∧ q.win = 0 ∧ s.hrv.state < 2 ∧ imgCmd q.wdata = cmd

/-! ## Frames -/

/-- Every stop but the one at `t` is as it was. -/
def State.stopsBut (s u : State) (t : Nat) : Prop := ∀ j, j ≠ t → u.stop j = s.stop j

/-- Every link but `n` is as it was. -/
def State.linksBut (s u : State) (n : Nat) : Prop := ∀ j, j ≠ n → u.link j = s.link j

/-- Nothing changes but the stop at `t`, what has left the units and the records of the trace. -/
def State.stopOnly (s u : State) (t : Nat) : Prop :=
  u = { s with stops := u.stops, rake := u.rake, out := u.out } ∧ s.stopsBut u t

/-- Nothing changes but link `n`, what has left the units and the records of the trace. -/
def State.linkOnly (s u : State) (n : Nat) : Prop :=
  u = { s with links := u.links, rake := u.rake, out := u.out } ∧ s.linksBut u n

end Sys2Proof.Machine
end

