-- ==== Sys2Proof/Certificates/Slice0/Obligations.lean ====
section
/-! DEFINITION. The claims about the Harfel block. Each says in its docstring which rule of spec/ it speaks of. A claim that a command
completes gives the next state's values and says with `u = { s with … }` that nothing else changes. -/

section Slice0

open Sys2Proof Sys2Proof.Machine

/-! ## The tide (02) -/

/-- A tick ends. TIDE_TICK: the fabric cycles up to the next phase 0 pass, the count moves by exactly 1, or takes TIDE_LOAD where a
master's load is pending, and nothing else of the tide changes (R38, R55); where nothing waits in a crossing, in the M-plane or on a link,
the clocks and the tide are all that changes. TIDE_MASTER_LOAD: a pending load gives the count TIDE_LOAD at that phase 0 and locks the chip
(R55). Reads of TIDE_NOW_LO and TIDE_STEP_LO answer with the low half of the count and of the step, and hold the high half for their
window, which a read of TIDE_NOW_HI returns (R59, R66). -/
def Obligations.TideCountMovesAndReads : Prop :=
  (∀ s : State, s.clocked = true → s.tide.loadPend = false →
    ∃ u, exec .tideTick s = .next u ∧ u.tide = { s.tide with count := s.tide.count + 1, phase := 0 } ∧
      u.fc = s.fc + (3 - s.tide.phase) + 1 ∧ u.pending = s.pending ∧ u.build = s.build) ∧
  (∀ s : State, s.clocked = true → s.tide.loadPend = true →
    ∃ u, exec .tideTick s = .next u ∧ u.tide = { s.tide with count := s.tide.load, phase := 0, state := 2, loadPend := false } ∧
      u.fc = s.fc + (3 - s.tide.phase) + 1 ∧ u.pending = s.pending ∧ u.build = s.build) ∧
  (∀ s : State, s.clocked = true → s.nothingWaits →
    ∃ u, exec .tideTick s = .next u ∧ u = { s with fc := u.fc, ft := u.ft, tide := u.tide }) ∧
  (∀ s : State, s.clocked = true → s.tide.loadPend = true →
    ∃ u, exec .tideMasterLoad s = .next u ∧ u.tide = { s.tide with count := s.tide.load, phase := 0, state := 2, loadPend := false } ∧
      u.fc = s.fc + (3 - s.tide.phase) + 1 ∧ u.pending = s.pending ∧ u.build = s.build) ∧
  (∀ (q : Req) (s : State), s.serves 0x10000 q →
    ∃ u, exec (.tideNowRead q) s = .next u ∧ s.replied u q rOk (s.tide.count.extractLsb' 0 32) ∧
      u.tide = { s.tide with nowHi := u.tide.nowHi } ∧ Tab.get 0 u.tide.nowHi q.win.toNat = s.tide.count.extractLsb' 32 32 ∧
      u = { s with tide := u.tide, rake := u.rake, out := u.out }) ∧
  (∀ (q : Req) (s : State), s.serves 0x10020 q →
    ∃ u, exec (.tideStepRead q) s = .next u ∧ s.replied u q rOk ((BitVec.ofInt 64 s.tide.step).extractLsb' 0 32) ∧
      u.tide = { s.tide with stepHi := u.tide.stepHi } ∧
      Tab.get 0 u.tide.stepHi q.win.toNat = (BitVec.ofInt 64 s.tide.step).extractLsb' 32 32 ∧
      u = { s with tide := u.tide, rake := u.rake, out := u.out }) ∧
  (∀ (q : Req) (s : State), s.serves 0x10004 q →
    ∃ u, exec (.registerRead q) s = .next u ∧ s.replied u q rOk (Tab.get 0 s.tide.nowHi q.win.toNat) ∧
      u = { s with rake := u.rake, out := u.out })

/-- The eight exchanges of an offset burst (R45): TIDE_PING is answered by a TIDE_PONG with the message's exchange index and its own
depth and arrival, on the same link (R341); TIDE_PONG ends the exchange whose index it carries, which the least round trip survives;
the next exchange leaves 1 µs after the one before; a burst of eight that only measures leaves its offset and delay in TIDE_LDLY_n (R46),
and in TIDE_OFS where the link is the parent's or the backup's; and the burst of a first alignment or REALIGN moves the count by the
whole offset, phase and all, and locks the chip (R47). -/
def Obligations.TideBurstExchanges : Prop :=
  (∀ (n : Nat) (k : KMsg) (s : State), s.linkRuns n → k.ktype = 0x09 →
    ∃ u a, exec (.tidePingReceived n k) s = .next u ∧ (u.link n).kpr.tx = (s.link n).kpr.tx ++ [a] ∧ a.ktype = 0x0A ∧ a.kseq = k.kseq ∧
      leAt a.data 0 8 = (s.arrival n k).toNat ∧ nth 0 a.data 16 = nth 0 k.data 0 ∧ nth 0 a.data 17 = s.tide.depth.setWidth 8 ∧
      (u.link n).kpr.lastAns = some a ∧ s.linkOnly u n) ∧
  (∀ (n : Nat) (k : KMsg) (s : State) (b : Burst) (c1 : BitVec 64), s.linkRuns n → k.ktype = 0x0A → (nth 0 k.data 17).toNat ≤ 3 →
    s.tide.burst.get? n = some b → b.c1.get? (nth 0 k.data 16).toNat = some c1 →
    ∃ u c, exec (.tidePongReceived n k) s = .next u ∧ u.tide.burst.get? n = some c ∧ c.done = b.done + 1 ∧
      c.c1.get? (nth 0 k.data 16).toNat = none ∧
      c.best = better b.best (exchange c1 (BitVec.ofNat 64 (leAt k.data 0 8)) (BitVec.ofNat 64 (leAt k.data 8 8)) (s.arrival n k)) ∧
      u = { s with links := u.links, tide := { s.tide with burst := u.tide.burst, heard := u.tide.heard, depth := u.tide.depth } } ∧
      s.linksBut u n) ∧
  (∀ (n : Nat) (s : State) (b : Burst), s.linkRuns n → s.tide.burst.get? n = some b → b.sent < 8 → b.next ≤ s.fc →
    ∃ u k, exec (.tideExchangeTimer n) s = .next u ∧ u.tide.burst.get? n = some { b with sent := b.sent + 1, next := b.next + 2000 } ∧
      (u.link n).kpr.tx = (s.link n).kpr.tx ++ [k] ∧ k.ktype = 0x09 ∧ nth 0 k.data 0 = BitVec.ofNat 8 b.sent ∧
      u = { s with links := u.links, tide := { s.tide with burst := u.tide.burst } } ∧ s.linksBut u n) ∧
  (∀ (n : Nat) (s : State) (b : Burst) (r o d : Int), s.linkRuns n → s.tide.burst.get? n = some b → b.use = .measure → b.done = 8 →
    b.best = some (r, o, d) →
    ∃ u, exec (.tideBurstComplete n) s = .next u ∧ u.tide.burst.get? n = none ∧ u.tide.ldly.get? n = some { ofs := o, dly := d } ∧
      u.tide.ofs = (if s.tide.cfg.master = false ∧ (n = s.tide.cfg.parent.toNat ∨ s.tide.cfg.backupVld = true ∧ n = s.tide.cfg.backup.toNat)
        then o else s.tide.ofs) ∧
      u = { s with tide := { s.tide with burst := u.tide.burst, ldly := u.tide.ldly, ofs := u.tide.ofs } }) ∧
  (∀ (n : Nat) (s : State) (b : Burst) (r o d : Int), s.linkRuns n → s.tide.burst.get? n = some b → b.use = .align → b.done = 8 →
    b.best = some (r, o, d) → s.tide.child = true → s.tide.state = 1 → s.tide.alignOn = some n → (Tab.get (0, 0) s.tide.heard n).1 ≤ 3 →
    (Tab.get (0, 0) s.tide.heard n).2.natAbs ≤ 8 →
    ∃ u, exec (.tideBurstComplete n) s = .next u ∧ u.tide.count = (s.nowFc + BitVec.ofInt 64 o) >>> 2 ∧
      u.tide.phase = (s.nowFc + BitVec.ofInt 64 o).toNat % 4 ∧ u.tide.state = 2 ∧ u.tide.step = o ∧
      u.tide.steerDue = some (s.fc + 2000000) ∧ u.tide.burst.get? n = none ∧ u.tide.trim = s.tide.trim ∧ u.tide.oob = s.tide.oob ∧
      u = { s with tide := u.tide })

/-- Steering (R50, R51): while a child is LOCKED a burst runs every 500,000 tk; its error `o` moves the trim by
10·(o − err_prev) + 10·o units and no further than 4,000 units either way, with SAT where it would have gone further; an accumulated error
of at most 8 fc leaves the out-of-bound flag alone, and one above 8 fc sets it, is reported, and suspends the cross-chip circuits. -/
def Obligations.TideSteers : Prop :=
  (∀ (s : State) (d : Nat), s.ready = true → s.tide.steerDue = some d → d ≤ s.fc → s.tide.state = 2 → s.tide.child = true →
    ∃ u, exec .tideSteerPeriod s = .next u ∧ u.tide.steerDue = some (d + 2000000) ∧
      u.tide.burst.get? s.tideLink = some { use := .steer, sent := 1, done := 0, c1 := [], best := none, next := s.fc + 2000 } ∧
      u = { s with links := u.links, tide := { s.tide with steerDue := u.tide.steerDue, burst := u.tide.burst } } ∧
      s.linksBut u s.tideLink) ∧
  (∀ (n : Nat) (s : State) (b : Burst) (r o d : Int), s.linkRuns n → s.tide.burst.get? n = some b → b.use = .steer → b.done = 8 →
    b.best = some (r, o, d) → s.tide.child = true → s.tide.state = 2 → n = s.tideLink →
    ((Tab.get (0, 0) s.tide.heard n).2 + o).natAbs ≤ 8 →
    ∃ u, exec (.tideBurstComplete n) s = .next u ∧
      u.tide.trim = max (-4000) (min 4000 (s.tide.trim + 10 * (o - s.tide.errPrev) + 10 * o)) ∧ u.tide.errPrev = o ∧
      u.tide.sat = (s.tide.sat || decide (4000 < s.tide.trim + 10 * (o - s.tide.errPrev) + 10 * o ∨
        s.tide.trim + 10 * (o - s.tide.errPrev) + 10 * o < -4000)) ∧
      u.tide.accErr = (Tab.get (0, 0) s.tide.heard n).2 + o ∧ u.tide.oob = s.tide.oob ∧ u.tide.suspended = s.tide.suspended ∧
      u.tide.count = s.tide.count ∧ u.tide.phase = s.tide.phase ∧ u.tide.state = 2 ∧ u.tide.burst.get? n = none ∧
      u = { s with tide := u.tide, rake := u.rake }) ∧
  (∀ (n : Nat) (s : State) (b : Burst) (r o d : Int), s.linkRuns n → s.tide.burst.get? n = some b → b.use = .steer → b.done = 8 →
    b.best = some (r, o, d) → s.tide.child = true → s.tide.state = 2 → n = s.tideLink →
    8 < ((Tab.get (0, 0) s.tide.heard n).2 + o).natAbs →
    ∃ u, exec (.tideBurstComplete n) s = .next u ∧ u.tide.oob = true ∧ u.tide.suspended = true ∧ s.reported u 0xA000 0x0203 ∧
      u.tide.trim = max (-4000) (min 4000 (s.tide.trim + 10 * (o - s.tide.errPrev) + 10 * o)) ∧ u.tide.errPrev = o ∧
      u.tide.sat = (s.tide.sat || decide (4000 < s.tide.trim + 10 * (o - s.tide.errPrev) + 10 * o ∨
        s.tide.trim + 10 * (o - s.tide.errPrev) + 10 * o < -4000)) ∧
      u.tide.accErr = (Tab.get (0, 0) s.tide.heard n).2 + o ∧ u.tide.count = s.tide.count ∧ u.tide.phase = s.tide.phase ∧
      u.tide.state = 2 ∧ u.tide.burst.get? n = none ∧ u = { s with tide := u.tide, rake := u.rake, stops := u.stops, out := u.out } ∧
      s.stopsBut u ctlTile)

/-- Losing the parent and finding it again (R47, R53, R54). The loss of the link that carries the tide of a LOCKED child gives HOLDOVER:
the trim and the count stay, the steering ends, HOLD_MS begins to run, and a burst runs on a backup that is active. The end of HOLD_MS is
reported as 0x0204, sets OOB and suspends cross-chip circuits. In HOLDOVER the parent or the backup that is active again is measured by a
burst, and one of at most 8 fc locks the chip with no step. An alignment that has found no valid burst in 1 ms is reported as 0x0202 and
goes on with the backup where one is configured and not yet tried. -/
def Obligations.TideHoldover : Prop :=
  (∀ s : State, s.ready = true → s.tide.state = 2 → s.tide.child = true → s.keeperUp s.tideLink = false →
    ∃ u, exec .tideParentLost s = .next u ∧ u.tide.state = 3 ∧ u.tide.holdDue = some (s.fc + s.tide.cfg.holdMs.toNat * 2000000) ∧
      u.tide.steerDue = none ∧ u.tide.burst.get? s.tideLink = none ∧
      (s.tide.cfg.backupVld = true → s.tide.cfg.backup.toNat ≠ s.tideLink → (s.link s.tide.cfg.backup.toNat).state = 5 →
        (u.tide.burst.get? s.tide.cfg.backup.toNat).map (·.use) = some .holdover) ∧
      u = { s with
            tide := { s.tide with state := 3, steerDue := none, holdDue := u.tide.holdDue, burst := u.tide.burst }, links := u.links } ∧
      s.linksBut u s.tide.cfg.backup.toNat) ∧
  (∀ (s : State) (d : Nat), s.ready = true → s.tide.holdDue = some d → d ≤ s.fc → s.tide.state = 3 → s.tide.child = true →
    ∃ u, exec .tideHoldoverExpired s = .next u ∧ u.tide = { s.tide with holdDue := none, oob := true, suspended := true } ∧
      s.reported u 0xA000 0x0204 ∧ u = { s with tide := u.tide, stops := u.stops, out := u.out } ∧ s.stopsBut u ctlTile) ∧
  (∀ (n : Nat) (s : State), s.linkRuns n → s.tide.awaits n = true → (s.link n).state = 5 →
    ∃ u, exec (.tideParentReturned n) s = .next u ∧
      u.tide.burst.get? n = some { use := .rejoin, sent := 1, done := 0, c1 := [], best := none, next := s.fc + 2000 } ∧
      u = { s with links := u.links, tide := { s.tide with burst := u.tide.burst } } ∧ s.linksBut u n) ∧
  (∀ (n : Nat) (s : State) (b : Burst) (r o d : Int), s.linkRuns n → s.tide.burst.get? n = some b → b.use = .rejoin → b.done = 8 →
    b.best = some (r, o, d) → s.tide.child = true → s.tide.state = 3 → s.tide.far = false → o.natAbs ≤ 8 →
    (Tab.get (0, 0) s.tide.heard n).1 ≤ 3 → ((Tab.get (0, 0) s.tide.heard n).2 + o).natAbs ≤ 8 →
    ∃ u, exec (.tideBurstComplete n) s = .next u ∧ u.tide.state = 2 ∧ u.tide.holdDue = none ∧ u.tide.steerDue = some (s.fc + 2000000) ∧
      u.tide.depth = BitVec.ofNat 3 ((Tab.get (0, 0) s.tide.heard n).1 + 1) ∧ u.tide.count = s.tide.count ∧ u.tide.phase = s.tide.phase ∧
      u.tide.trim = s.tide.trim ∧ u = { s with tide := u.tide }) ∧
  (∀ (s : State) (d : Nat), s.ready = true → s.tide.alignDue = some d → d ≤ s.fc → s.tide.state = 1 → s.tide.child = true →
    s.tide.cfg.backupVld = true → s.tide.alignOn ≠ some s.tide.cfg.backup.toNat →
    ∃ u, exec .tideAlignTimeout s = .next u ∧ u.tide.state = 1 ∧ u.tide.alignOn = some s.tide.cfg.backup.toNat ∧
      u.tide.alignDue = some (s.fc + 2000000) ∧ (u.tide.burst.get? s.tide.cfg.backup.toNat).map (·.use) = some .align ∧
      s.reported u 0xA000 0x0202 ∧ u.tide.count = s.tide.count ∧ u.tide.trim = s.tide.trim ∧
      u = { s with tide := u.tide, links := u.links, stops := u.stops, out := u.out } ∧ s.linksBut u s.tide.cfg.backup.toNat ∧
      s.stopsBut u ctlTile) ∧
  (∀ (s : State) (d : Nat), s.ready = true → s.tide.alignDue = some d → d ≤ s.fc → s.tide.state = 1 → s.tide.child = true →
    s.tide.cfg.backupVld = false →
    ∃ u, exec .tideAlignTimeout s = .next u ∧ u.tide = { s.tide with alignDue := none } ∧ s.reported u 0xA000 0x0202 ∧
      u = { s with tide := u.tide, stops := u.stops, out := u.out } ∧ s.stopsBut u ctlTile)

/-- The TIDE registers with commands of their own, written through window 0 while the control port performs the write at once (R43, R51, R55,
R57, R61, R64). TIDE_CFG with a HOLD_MS of at least 1 takes the word and answers OK; where it newly makes the chip the master, the load is
pending and the trim is 0; with a HOLD_MS of 0 it is refused with ERROR. REALIGN puts a child into ALIGNING, with a burst on its parent
where the parent's keeper lane is up, and answers OK; it is refused with BUSY while an action is scheduled or a table with cross-chip
circuits is active. BURST starts a burst on every active link that runs none, and answers OK. A write of 1 to OOB clears the flag, clears
SAT where its bit is 1 too, and lets cross-chip circuits go on where the accumulated error is within 8 fc. Any of these writes through
another window is refused with DENIED. -/
def Obligations.TideRegisters : Prop :=
  (∀ (q : Req) (s : State), s.serves 0x1001C q → q.win = 0 → (q.wdata.extractLsb' 16 8) ≠ 0 →
    ∃ u, exec (.tideCfgWrite q) s = .next u ∧ u.tide.cfg = TideCfg.ofWord q.wdata ∧ s.replied u q rOk 0 ∧
      u.tide.count = s.tide.count ∧ u.tide.phase = s.tide.phase ∧
      (q.wdata.getLsbD 31 = true → q.wdata.getLsbD 30 = true → (s.tide.cfg.enable && s.tide.cfg.master) = false →
        u.tide.loadPend = true ∧ u.tide.trim = 0) ∧
      u = { s with tide := u.tide, links := u.links, rake := u.rake, out := u.out }) ∧
  (∀ (q : Req) (s : State), s.serves 0x1001C q → q.win = 0 → (q.wdata.extractLsb' 16 8) = 0 →
    ∃ u, exec (.tideCfgWrite q) s = .next u ∧ s.replied u q rError 0 ∧ u = { s with rake := u.rake, out := u.out }) ∧
  (∀ (q : Req) (s : State), s.serves 0x1001C q → q.win ≠ 0 →
    ∃ u, exec (.tideCfgWrite q) s = .next u ∧ s.replied u q rDenied 0 ∧ u = { s with rake := u.rake, out := u.out }) ∧
  (∀ (q : Req) (s : State), s.serves 0x1000C q → q.win = 0 → q.wdata.getLsbD 0 = true → s.scheduled = false → s.xchipActive = false →
    s.tide.child = true →
    ∃ u, exec (.tideRealign q) s = .next u ∧ u.tide.state = 1 ∧ s.replied u q rOk 0 ∧
      (s.keeperUp s.tide.cfg.parent.toNat = true → u.tide.alignOn = some s.tide.cfg.parent.toNat ∧
        u.tide.alignDue = some (s.fc + 2000000) ∧ (u.tide.burst.get? s.tide.cfg.parent.toNat).map (·.use) = some .align) ∧
      (s.keeperUp s.tide.cfg.parent.toNat = false → u.tide.alignOn = none ∧ u.tide.alignDue = none) ∧
      u = { s with
            tide := { s.tide with state := 1, far := false, alignOn := u.tide.alignOn, alignDue := u.tide.alignDue, burst := u.tide.burst }
            links := u.links, rake := u.rake, out := u.out }) ∧
  (∀ (q : Req) (s : State), s.serves 0x1000C q → q.win = 0 → q.wdata.getLsbD 0 = true → (s.scheduled = true ∨ s.xchipActive = true) →
    ∃ u, exec (.tideRealign q) s = .next u ∧ s.replied u q rBusy 0 ∧ u = { s with rake := u.rake, out := u.out }) ∧
  (∀ (q : Req) (s : State), s.serves 0x1000C q → q.win ≠ 0 → q.wdata.getLsbD 0 = true →
    ∃ u, exec (.tideRealign q) s = .next u ∧ s.replied u q rDenied 0 ∧ u = { s with rake := u.rake, out := u.out }) ∧
  (∀ (q : Req) (s : State), s.serves 0x1000C q → q.win = 0 → q.wdata.getLsbD 1 = true →
    (q.wdata.getLsbD 0 = true → s.scheduled = false ∧ s.xchipActive = false) →
    ∃ u, exec (.tideBurstCmd q) s = .next u ∧ s.replied u q rOk 0 ∧
      (∀ n, n < nLinks s.build → (s.link n).state = 5 → (u.tide.burst.get? n).isSome = true) ∧
      (q.wdata.getLsbD 0 = false → ∀ n, n < nLinks s.build → (s.link n).state = 5 → s.tide.burst.get? n = none →
        u.tide.burst.get? n = some { use := .measure, sent := 1, done := 0, c1 := [], best := none, next := s.fc + 2000 }) ∧
      (q.wdata.getLsbD 0 = false → u.tide = { s.tide with burst := u.tide.burst }) ∧
      u = { s with tide := u.tide, links := u.links, rake := u.rake, out := u.out }) ∧
  (∀ (q : Req) (s : State), s.serves 0x1000C q → q.win ≠ 0 → q.wdata.getLsbD 1 = true →
    ∃ u, exec (.tideBurstCmd q) s = .next u ∧ s.replied u q rDenied 0 ∧ u = { s with rake := u.rake, out := u.out }) ∧
  (∀ (q : Req) (s : State), s.serves 0x10008 q → q.win = 0 → q.wdata.getLsbD 7 = true →
    ∃ u, exec (.tideOobClear q) s = .next u ∧ s.replied u q rOk 0 ∧
      u = { s with
            tide := { s.tide with
              oob := false, sat := s.tide.sat && !q.wdata.getLsbD 6
              suspended := s.tide.suspended && decide (8 < s.tide.accErr.natAbs) }
            rake := u.rake, out := u.out }) ∧
  (∀ (q : Req) (s : State), s.serves 0x10008 q → q.win ≠ 0 → q.wdata.getLsbD 7 = true →
    ∃ u, exec (.tideOobClear q) s = .next u ∧ s.replied u q rDenied 0 ∧ u = { s with rake := u.rake, out := u.out })

/-! ## The T-plane router and the slot tables (03, 04, 05) -/

/-- A flit at a stop's input (R69, R70, R73, R112, R128). A head flit enters its VC's buffer with its packet's decision taken: its one
output, its two candidates, or the branches of a multicast none of which is dead or a fenced client's. A head flit whose packet is dropped
for its header or its route is reported, goes, and makes the VC discard until a TAIL. A later flit joins the open packet, a corrected one
with its report 0x0301. While the VC discards, every flit goes and its credit returns, until a TAIL. An uncorrectable head flit is reported
as 0x0302, goes, and makes the VC discard. A returned credit frees one flit's place downstream of the output, and nothing else. -/
def Obligations.RouterTakesFlits : Prop :=
  (∀ (t port : Nat) (l : List Nat) (f : Flit) (s : State), s.stopRuns t → portOk s.build t port = true → f.head = true → f.kill = false →
    ((s.stop t).rt.buf port f.vc.toNat).disc = false →
    (s.atEntry t port (thdrOfBytes f.data)).fate t port (thdrOfBytes f.data) = .choose l →
    ∃ u p, exec (.tFlitArrive t port f .ok) s = .next u ∧
      ((u.stop t).rt.buf port f.vc.toNat).pkts = ((s.stop t).rt.buf port f.vc.toNat).pkts ++ [p] ∧ p.hdr = thdrOfBytes f.data ∧
      p.got = [f] ∧ p.total = flitsOf s.build p.hdr.plen.toNat ∧
      (∀ o, l = [o] → p.cands = [] ∧ p.branches = [{ port := o, sent := 0, won := false }]) ∧
      (l.length ≠ 1 → p.cands = l ∧ p.branches = []) ∧ u.out = s.out ∧
      u.stop t = { s.stop t with rt := { (s.stop t).rt with bufs := (u.stop t).rt.bufs } } ∧
      u = { s with stops := u.stops, entered := u.entered } ∧ s.stopsBut u t) ∧
  (∀ (t port : Nat) (l : List Nat) (f : Flit) (s : State), s.stopRuns t → portOk s.build t port = true → f.head = true → f.kill = false →
    ((s.stop t).rt.buf port f.vc.toNat).disc = false →
    (s.atEntry t port (thdrOfBytes f.data)).fate t port (thdrOfBytes f.data) = .fork l → l ≠ [] → s.liveBranches t l = l →
    (s.atEntry t port (thdrOfBytes f.data)).enterDie t port (thdrOfBytes f.data) = (s.atEntry t port (thdrOfBytes f.data), true) →
    ∃ u p, exec (.tFlitArrive t port f .ok) s = .next u ∧
      ((u.stop t).rt.buf port f.vc.toNat).pkts = ((s.stop t).rt.buf port f.vc.toNat).pkts ++ [p] ∧ p.hdr = thdrOfBytes f.data ∧
      p.got = [f] ∧ p.cands = [] ∧ p.branches = l.map (fun o => { port := o, sent := 0, won := false }) ∧ u.out = s.out ∧
      u = { s with stops := u.stops, entered := u.entered } ∧ s.stopsBut u t) ∧
  (∀ (t port code : Nat) (f : Flit) (s : State), s.stopRuns t → portOk s.build t port = true → f.head = true → f.kill = false →
    ((s.stop t).rt.buf port f.vc.toNat).disc = false →
    (s.atEntry t port (thdrOfBytes f.data)).fate t port (thdrOfBytes f.data) = .drop code none →
    (code = 0x0303 ∨ code = 0x0307 ∨ code = 0x0309) →
    ∃ u g, exec (.tFlitArrive t port f .ok) s = .next u ∧
      (u.stop t).rt.buf port f.vc.toNat = { (s.stop t).rt.buf port f.vc.toNat with disc := !f.tail } ∧
      u.out = s.out ++ [.fault g, .tCredit t port f.vc.toNat] ∧ g.code = BitVec.ofNat 16 code ∧
      u = { s with stops := u.stops, entered := u.entered, out := u.out } ∧ s.stopsBut u t) ∧
  (∀ (t port : Nat) (f : Flit) (s : State) (p : BufPkt) (ps : List BufPkt), s.stopRuns t → portOk s.build t port = true →
    f.head = false → f.kill = false → (s.stop t).rt.buf port f.vc.toNat = { pkts := ps ++ [p], disc := false } →
    (p.got.getLast?.map (·.tail)).getD false = false →
    ∃ u, exec (.tFlitArrive t port f .ok) s = .next u ∧
      ((u.stop t).rt.buf port f.vc.toNat).pkts = ps ++ [{ p with got := p.got ++ [f] }] ∧ u.out = s.out ∧
      u.stop t = { s.stop t with rt := { (s.stop t).rt with bufs := (u.stop t).rt.bufs } } ∧ s.stopOnly u t) ∧
  (∀ (t port : Nat) (f : Flit) (s : State) (p : BufPkt) (ps : List BufPkt), s.stopRuns t → portOk s.build t port = true →
    f.head = false → f.kill = false → (s.stop t).rt.buf port f.vc.toNat = { pkts := ps ++ [p], disc := false } →
    (p.got.getLast?.map (·.tail)).getD false = false →
    ∃ u, exec (.tFlitArrive t port f .corrected) s = .next u ∧
      ((u.stop t).rt.buf port f.vc.toNat).pkts = ps ++ [{ p with got := p.got ++ [f] }] ∧
      s.reported u (unitId uT (s.phys t)) 0x0301 ∧ s.stopOnly u t) ∧
  (∀ (t port : Nat) (f : Flit) (s : State), s.stopRuns t → portOk s.build t port = true → (f.head && f.kill && !f.tail) = false →
    ((s.stop t).rt.buf port f.vc.toNat).disc = true →
    ∃ u, exec (.tFlitArrive t port f .ok) s = .next u ∧
      (u.stop t).rt.buf port f.vc.toNat = { (s.stop t).rt.buf port f.vc.toNat with disc := !f.tail } ∧
      u.out = s.out ++ [.tCredit t port f.vc.toNat] ∧ s.stopOnly u t) ∧
  (∀ (t port : Nat) (f : Flit) (s : State), s.stopRuns t → portOk s.build t port = true → f.head = true → (f.kill && !f.tail) = false →
    ((s.stop t).rt.buf port f.vc.toNat).disc = false →
    ∃ u g, exec (.tFlitArrive t port f .bad) s = .next u ∧
      (u.stop t).rt.buf port f.vc.toNat = { (s.stop t).rt.buf port f.vc.toNat with disc := !f.tail } ∧
      u.out = s.out ++ [.fault g, .tCredit t port f.vc.toNat] ∧ g.code = 0x0302 ∧ s.stopOnly u t) ∧
  (∀ (t port vc : Nat) (s : State), s.stopRuns t → portOk s.build t port = true →
    ∃ u, exec (.creditReturn t port vc) s = .next u ∧
      (u.stop t).rt.outp port = { (s.stop t).rt.outp port with
        used := ((s.stop t).rt.outp port).used.set vc (Tab.get 0 ((s.stop t).rt.outp port).used vc - 1)
        held := ((u.stop t).rt.outp port).held } ∧
      (∀ o, o ≠ port → (u.stop t).rt.outp o = (s.stop t).rt.outp o) ∧ u.out = s.out ∧
      u.stop t = { s.stop t with rt := { (s.stop t).rt with outs := (u.stop t).rt.outs } } ∧ s.stopOnly u t)

/-- One fabric cycle of a T-plane output (R155 to R158). At an index whose entry is not a circuit's: a free output that has candidates
grants one of them, which is of the highest priority where none is foreign and no earlier owner is parked there, reserves the downstream
places of its whole packet, and lets its head cross from the next cycle on; and the next flit of the holder crosses to the neighbour or the
SI, where a TAIL makes it the output's last owner. At an index of a circuit entry in force whose flit is due, that circuit flit leaves the
skid and crosses. -/
def Obligations.OutputCycleGrantsAndSends : Prop :=
  (∀ (t o : Nat) (s : State), s.stopRuns t → portOk s.build t o = true → s.ringIdle t → s.expireSkid t = s →
    seKind (s.entry t o s.slotIndex) ≠ 1 → ((s.stop t).rt.outp o).holder = none → s.candidates t o ≠ [] →
    ∃ u i p, exec (.outputCycle t o) s = .next u ∧ (i, p) ∈ s.candidates t o ∧ ((u.stop t).rt.outp o).holder = some i ∧
      Tab.get 0 ((u.stop t).rt.outp o).used p.hdr.vc.toNat = Tab.get 0 ((s.stop t).rt.outp o).used p.hdr.vc.toNat + p.total ∧
      ((u.stop t).rt.outp o).headAt = s.ft + 1 ∧
      (((s.stop t).rt.outp o).last = none → (∀ c ∈ s.candidates t o, s.isForeign t c.2.hdr = false) →
        ∀ c ∈ s.candidates t o, s.prioOf t c.2.hdr ≤ s.prioOf t p.hdr) ∧
      u.out = s.out ∧ s.stopOnly u t) ∧
  (∀ (t o i : Nat) (p : BufPkt) (b : Branch) (f : Flit) (s : State), s.stopRuns t → portOk s.build t o = true → o < 5 →
    s.ringIdle t → s.expireSkid t = s → seKind (s.entry t o s.slotIndex) ≠ 1 → ((s.stop t).rt.outp o).holder = some i →
    ((s.stop t).rt.buf (i / 4) (i % 4)).pkts.head? = some p → p.branches.find? (fun b => b.port == o && b.won) = some b →
    p.got[b.sent]? = some f → (b.sent = 0 → ((s.stop t).rt.outp o).headAt ≤ s.ft) →
    ∃ u l, exec (.outputCycle t o) s = .next u ∧ u.out = s.out ++ .tFlit t o f :: l ∧
      (f.tail = false → ((u.stop t).rt.outp o).holder = some i ∧ ((u.stop t).rt.outp o).last = ((s.stop t).rt.outp o).last) ∧
      (f.tail = true → ((u.stop t).rt.outp o).last = some i) ∧
      u = { s with stops := u.stops, entered := u.entered, out := u.out } ∧ s.stopsBut u t) ∧
  (∀ (t o p : Nat) (x : SkidFlit) (s : State), s.stopRuns t → portOk s.build t o = true → o < 4 → s.ringIdle t → s.expireSkid t = s →
    seKind (s.entry t o s.slotIndex) = 1 → s.ceased t o (s.entry t o s.slotIndex) = false →
    slotPort s.build t (seIn (s.entry t o s.slotIndex)) = some p → p < 4 →
    (Tab.get [] (s.stop t).rt.skid p).find? (fun y => y.cid == seCid (s.entry t o s.slotIndex) && y.due == s.ft) = some x →
    ∃ u, exec (.outputCycle t o) s = .next u ∧ u.out = s.out ++ [.tCirc t o (seCid (s.entry t o s.slotIndex)) x.flit] ∧
      Tab.get [] (u.stop t).rt.skid p = (Tab.get [] (s.stop t).rt.skid p).erase x ∧ s.stopOnly u t)

/-- Circuits and the slot tables (R144, R145, R149, R151, R154, R167). A circuit flit at an index that the receive map does not mark is
counted and reported as misplaced; one that is marked waits in the skid for the next fc, and one that is marked and uncorrectable is
counted and reported as dropped. Through window 0, ARM of a multiple of 64 no sooner than 16 ticks ahead schedules a swap where none is
coming; it is refused with ERROR for another tick, STALE for a nearer one and BUSY while a swap is coming; CANCEL takes back one that is
still 16 ticks away. At phase 0 of a multiple of 64 for which a swap is due, every output's banks change places, keep their contents, and
the transit balances are 0. -/
def Obligations.SlotsAndCircuits : Prop :=
  (∀ (t port : Nat) (f : Flit) (e : Ecc) (s : State), s.stopRuns t → portOk s.build t port = true → s.expireSkid t = s →
    s.recvMap t port s.slotIndex = none →
    ∃ u, exec (.circuitFlitArrive t port f e) s = .next u ∧ (u.stop t).rt.mispl = inc8 (s.stop t).rt.mispl ∧
      s.reported u (unitId uT (s.phys t)) 0x0305 ∧ (u.stop t).rt.skid = (s.stop t).rt.skid ∧ s.stopOnly u t) ∧
  (∀ (t port cid : Nat) (f : Flit) (s : State), s.stopRuns t → portOk s.build t port = true → s.expireSkid t = s →
    s.recvMap t port s.slotIndex = some cid → (s.stop t).rt.ceasedPorts.contains port = false → (s.stop t).rt.cdisc.contains cid = false →
    (Tab.get [] (s.stop t).rt.skid port).length < 2 →
    ∃ u, exec (.circuitFlitArrive t port f .ok) s = .next u ∧
      Tab.get [] (u.stop t).rt.skid port = Tab.get [] (s.stop t).rt.skid port ++ [{ cid := cid, flit := f, due := s.ft + 1 }] ∧
      u.out = s.out ∧ s.stopOnly u t) ∧
  (∀ (t port cid : Nat) (f : Flit) (s : State), s.stopRuns t → portOk s.build t port = true → s.expireSkid t = s →
    s.recvMap t port s.slotIndex = some cid →
    ∃ u, exec (.circuitFlitArrive t port f .bad) s = .next u ∧ (u.stop t).rt.cdrop = inc8 (s.stop t).rt.cdrop ∧
      s.reported u (unitId uT (s.phys t)) 0x0306 ∧ (u.stop t).rt.skid = (s.stop t).rt.skid ∧ s.stopOnly u t) ∧
  (∀ (q : Req) (s : State), s.serves 0x48 q → q.win = 0 → s.hrv.state < 2 → q.wdata.getLsbD 0 = true → s.ctrl.slotAt.toNat % 64 = 0 →
    s.now + 16 ≤ s.ctrl.slotAt.toNat → s.swapComing = false →
    ∃ u, exec (.slotArm q) s = .next u ∧ u.slotPend = s.slotPend ++ [(s.ctrl.slotAt.toNat, true)] ∧ s.replied u q rOk 0 ∧
      u = { s with slotPend := u.slotPend, rake := u.rake, out := u.out }) ∧
  (∀ (q : Req) (s : State), s.serves 0x48 q → q.win = 0 → s.hrv.state < 2 → q.wdata.getLsbD 0 = true → s.ctrl.slotAt.toNat % 64 ≠ 0 →
    ∃ u, exec (.slotArm q) s = .next u ∧ s.replied u q rError 0 ∧ u = { s with rake := u.rake, out := u.out }) ∧
  (∀ (q : Req) (s : State), s.serves 0x48 q → q.win = 0 → s.hrv.state < 2 → q.wdata.getLsbD 0 = true →
    s.ctrl.slotAt.toNat % 64 = 0 → s.ctrl.slotAt.toNat < s.now + 16 →
    ∃ u, exec (.slotArm q) s = .next u ∧ s.replied u q rStale 0 ∧ u = { s with rake := u.rake, out := u.out }) ∧
  (∀ (q : Req) (s : State), s.serves 0x48 q → q.win = 0 → s.hrv.state < 2 → q.wdata.getLsbD 0 = true → s.ctrl.slotAt.toNat % 64 = 0 →
    s.now + 16 ≤ s.ctrl.slotAt.toNat → s.swapComing = true →
    ∃ u, exec (.slotArm q) s = .next u ∧ s.replied u q rBusy 0 ∧ u = { s with rake := u.rake, out := u.out }) ∧
  (∀ (q : Req) (s : State) (k : Nat), s.serves 0x48 q → q.win = 0 → s.hrv.state < 2 → q.wdata.getLsbD 0 = false →
    q.wdata.getLsbD 1 = true → s.slotPend = [(k, true)] → s.now + 16 ≤ k →
    ∃ u, exec (.slotCancel q) s = .next u ∧ u.slotPend = [] ∧ s.replied u q rOk 0 ∧
      u = { s with slotPend := [], rake := u.rake, out := u.out }) ∧
  (∀ (s : State) (k : Nat) (a : Bool), s.running = true → (k, a) ∈ s.slotPend → k ≤ s.now → s.now < k + 64 → s.now % 64 = 0 →
    s.tide.phase = 0 →
    ∃ u, exec .slotBankSwap s = .next u ∧ u.slotBank = !s.slotBank ∧ (∀ x ∈ u.slotPend, x ∈ s.slotPend ∧ s.now < x.1) ∧
      (∀ t o, ((u.stop t).rt.outp o).tbal = 0 ∧ ((u.stop t).rt.outp o).bank0 = ((s.stop t).rt.outp o).bank0 ∧
        ((u.stop t).rt.outp o).bank1 = ((s.stop t).rt.outp o).bank1) ∧
      u = { s with slotBank := u.slotBank, slotPend := u.slotPend, stops := u.stops })

/-- STOP_PRIO and STOP_ARB (R159, R161, R162), written through window 0 or a window that may: a write stores the fields and leaves the
reserved bits 0, and the arbiters see the value four fc later and what they saw before until then; a BURST outside 1 to 16 is an ERROR and
changes nothing. -/
def Obligations.ArbitrationRegisters : Prop :=
  (∀ (t : Nat) (m : CMsg) (s : State), s.stopRuns t → s.regWrite t 0x300 m →
    ∃ u, exec (.stopPrioWrite t m) s = .next u ∧ (u.stop t).rt.prio = regData m &&& 0xFFFF ∧
      effective (u.stop t).rt.prioNext (s.ft + 4) 0 = regData m &&& 0xFFFF ∧
      effective (u.stop t).rt.prioNext s.ft 0 = effective (s.stop t).rt.prioNext s.ft 0 ∧ s.regAnswered u t m rOk 0 ∧
      u.out = s.out ∧ s.stopOnly u t) ∧
  (∀ (t : Nat) (m : CMsg) (s : State), s.stopRuns t → s.regWrite t 0x304 m →
    1 ≤ ((regData m).extractLsb' 16 5).toNat → ((regData m).extractLsb' 16 5).toNat ≤ 16 →
    ∃ u, exec (.stopArbWrite t m) s = .next u ∧ (u.stop t).rt.arb = regData m &&& 0x801F0000 ∧
      effective (u.stop t).rt.arbNext (s.ft + 4) 0x00040000 = regData m &&& 0x801F0000 ∧
      effective (u.stop t).rt.arbNext s.ft 0x00040000 = effective (s.stop t).rt.arbNext s.ft 0x00040000 ∧ s.regAnswered u t m rOk 0 ∧
      u.out = s.out ∧ s.stopOnly u t) ∧
  (∀ (t : Nat) (m : CMsg) (s : State), s.stopRuns t → s.regWrite t 0x304 m →
    (((regData m).extractLsb' 16 5).toNat = 0 ∨ 16 < ((regData m).extractLsb' 16 5).toNat) →
    ∃ u, exec (.stopArbWrite t m) s = .next u ∧ (u.stop t).rt = (s.stop t).rt ∧ s.regAnswered u t m rError 0 ∧ u.out = s.out ∧
      s.stopOnly u t)

/-! ## Routing tables, fences, the sluice and multicast (04) -/

/-- The sluice (R121 to R123): at phase 0 of a tick that is a multiple of 16 the level moves by at most one step against UP and DN, the
effective level is the higher of it and the floor, and the balance gains the effective level's allowance, up to that
allowance. A grant that the arbiter sends to the tile gives a floor, which waits for the next evaluation, and leaves on the PWR port of a
tile that has a client (R552). -/
def Obligations.SluiceEvaluates : Prop :=
  (∀ (t : Nat) (s : State), s.stopRuns t → s.now % 16 = 0 → s.tide.phase = 0 →
    let sl := (s.stop t).sl
    let m := min 255 (s.heldFlits t + s.waitingFlits t)
    let level := if sl.level < 7 ∧ nth 0 s.img.act.up sl.level ≤ m then sl.level + 1
      else if 0 < sl.level ∧ m < nth 0 s.img.act.dn (sl.level - 1) then sl.level - 1 else sl.level
    ∃ u, exec (.sluiceEval t) s = .next u ∧ (u.stop t).sl.level = level ∧ (u.stop t).sl.eff = max level sl.floorNext ∧
      (u.stop t).sl.metric = BitVec.ofNat 8 m ∧
      (u.stop t).sl.balance = min (nth 0 [64, 48, 32, 24, 16, 8, 4, 2] (max level sl.floorNext))
        (sl.balance + nth 0 [64, 48, 32, 24, 16, 8, 4, 2] (max level sl.floorNext)) ∧
      u.stop t = { s.stop t with sl := (u.stop t).sl } ∧ u.out = s.out ∧ s.stopOnly u t) ∧
  (∀ (t : Nat) (m : CMsg) (s : State), s.stopRuns t → m.hdr.mkind = 0xD → m.hdr.plen = 16 → m.hdr.dtile.toNat = t →
    bits (pwrVal m) 127 124 = 2 → bits (pwrVal m) 111 96 = t →
    ∃ u, exec (.pwrGrantReceived t m false) s = .next u ∧ (u.stop t).sl = { (s.stop t).sl with floorNext := bits (pwrVal m) 63 61 } ∧
      (s.clientKind t = 0 → u.out = s.out) ∧
      (s.clientKind t ≠ 0 → s.shut (.pwr t) = false →
        u.out = s.out ++ [.pwrGrant t (BitVec.ofNat 32 (b2n (bit (pwrVal m) 60) * 2 ^ 31 + bits (pwrVal m) 79 64))]) ∧ s.stopOnly u t)

/-- Fences (R112, R114, R116, R296). A client fence takes hold, sends TILE_LOST to every tile of the die, and changes no other stop. A
router fence on a die whose buffers are empty is shown in SPARE_FENCE, the ports of the neighbours that face it are dead, and the first one
since the image switched in, with a route set for its tile, names the set's switch 16 ticks ahead. At phase 0 of that tick, on such a die,
the set is in force at every stop that has shadow route entries of it. -/
def Obligations.FencesTakeHold : Prop :=
  (∀ (t : Nat) (s : State), s.stopRuns t → (s.stop t).ro.clientFenced = false →
    ∃ u, exec (.clientFence t) s = .next u ∧ (u.stop t).ro = { (s.stop t).ro with clientFenced := true } ∧
      (∀ v ∈ s.tiles, ∃ m ∈ (u.stop t).c.cq, m.hdr.mkind = 8 ∧ m.hdr.dnode = BitVec.ofNat 12 s.node ∧ m.hdr.dtile = BitVec.ofNat 9 v ∧
        m.hdr.arg = lostArg s.node t) ∧ u.out = s.out ∧ s.stopOnly u t) ∧
  (∀ (t : Nat) (s : State), s.stopRuns t → s.fabricEmpty →
    ∃ u, exec (.routerFence t) s = .next u ∧ (u.stop t).ro.routerFenced = true ∧
      (Tab.get 0 u.flt.fenced (tileY t)).getLsbD (s.physX (tileX t) (tileY t)) = decide (s.physX (tileX t) (tileY t) < 25) ∧
      (∀ p v, p < 4 → neighbour s.build t p = some v → ((u.stop v).rt.outp (facing p)).dead = true) ∧
      (s.flt.fenceUsed = false → (s.img.act.fence.find? fun e => e.1 == t).isSome = true → u.flt.fenceSet = some (t, s.now + 16)) ∧
      u.flt.fenceUsed = true) ∧
  (∀ (s : State) (t tick : Nat), s.running = true → s.fabricEmpty → s.flt.fenceSet = some (t, tick) → s.atTick tick = true →
    ∃ u, exec .fenceSetSwitch s = .next u ∧ u.flt.fenceSet = none ∧
      (∀ v ∈ s.tiles, (s.stop v).ro.shadowRoute ≠ [] →
        (u.stop v).ro.setActive = true ∧ (u.stop v).ro.shadowRoute = [] ∧
        (u.stop v).ro.route = (s.stop v).ro.shadowRoute.foldl (fun x e => x.set e.1 e.2) (s.stop v).ro.route))

/-- A collector's record (R131, R132). A target's answer is entered, and one that is no target's or has been entered before changes
nothing; the last one closes the record, as its time limit does, which is counted, and its code goes to the origin, or into the origin's
account where the collector is the origin's own tile. A closed record's key lasts until it expires. -/
def Obligations.CollectorRecords : Prop :=
  (∀ (t : Nat) (p : Pkt) (s : State) (r : CollRec), s.stopRuns t →
    (s.stop t).si.records.find? (fun r => r.isOf (answered p.hdr)) = some r → r.targets.contains p.hdr.stile.toNat = true →
    Tab.get? r.answers p.hdr.stile.toNat = none → r.answers.length + 1 < r.ntgt →
    ∃ u x, exec (.collectorAnswer t p) s = .next u ∧ (u.stop t).si.records.find? (fun r => r.isOf (answered p.hdr)) = some x ∧
      x = { r with answers := x.answers } ∧ Tab.get? x.answers p.hdr.stile.toNat = some (ansOf p.hdr) ∧
      u.stop t = { s.stop t with si := { (s.stop t).si with records := (u.stop t).si.records } } ∧ u.out = s.out ∧ s.stopOnly u t) ∧
  (∀ (t : Nat) (p : Pkt) (s : State) (r : CollRec), s.stopRuns t →
    (s.stop t).si.records.find? (fun r => r.isOf (answered p.hdr)) = some r → r.targets.contains p.hdr.stile.toNat = true →
    Tab.get? r.answers p.hdr.stile.toNat = none → r.ntgt ≤ r.answers.length + 1 → r.isOf r.hdr = true →
    (r.snode ≠ s.node ∨ r.stile ≠ t) →
    ∃ u a, exec (.collectorAnswer t p) s = .next u ∧ (u.stop t).si.records.find? (fun r => r.isOf (answered p.hdr)) = none ∧
      s.injects u t a ∧ a.hdr.dnode = r.hdr.snode ∧ a.hdr.dtile = r.hdr.stile ∧
      ansOf a.hdr = { r with answers := r.answers.set p.hdr.stile.toNat (ansOf p.hdr) }.code % 16 ∧ u.out = s.out ∧ s.stopOnly u t) ∧
  (∀ (t : Nat) (p : Pkt) (s : State) (r : CollRec) (m : Msg) (c : Mcast), s.stopRuns t →
    (s.stop t).si.records.find? (fun r => r.isOf (answered p.hdr)) = some r → r.targets.contains p.hdr.stile.toNat = true →
    Tab.get? r.answers p.hdr.stile.toNat = none → r.ntgt ≤ r.answers.length + 1 → r.isOf r.hdr = true → r.snode = s.node → r.stile = t →
    (s.stop t).si.msgs = [m] → m.collects r.mseq r.hdr.ctag r.hdr.pan = true → m.mc = some c → c.got = [] → c.noRecord = [] →
    ∃ u x, exec (.collectorAnswer t p) s = .next u ∧ (u.stop t).si.records.find? (fun r => r.isOf (answered p.hdr)) = none ∧
      (u.stop t).si.msgs = [{ m with mc := some x }] ∧ x.got = [s.node] ∧ u.out = s.out ∧ s.stopOnly u t) ∧
  (∀ (t : Nat) (p : Pkt) (s : State) (r : CollRec), s.stopRuns t →
    (s.stop t).si.records.find? (fun r => r.isOf (answered p.hdr)) = some r →
    (r.targets.contains p.hdr.stile.toNat = false ∨ (Tab.get? r.answers p.hdr.stile.toNat).isSome = true) →
    exec (.collectorAnswer t p) s = .next s) ∧
  (∀ (t snode stile mseq : Nat) (s : State) (r : CollRec), s.stopRuns t →
    (s.stop t).si.records.find? (fun r => r.named snode stile mseq && decide (r.deadline ≤ s.ft)) = some r →
    (r.snode ≠ s.node ∨ r.stile ≠ t) →
    ∃ u a, exec (.collectorTimeout t snode stile mseq) s = .next u ∧ (u.stop t).si.mcTimeout = inc8 (s.stop t).si.mcTimeout ∧
      (∀ x ∈ (u.stop t).si.records, x.isOf r.hdr = false) ∧ (u.stop t).si.closed.head? = some (r, s.ft + 2000000) ∧ s.injects u t a ∧
      a.hdr.dnode = r.hdr.snode ∧ a.hdr.dtile = r.hdr.stile ∧ u.out = s.out ∧ s.stopOnly u t) ∧
  (∀ (t snode stile mseq : Nat) (s : State), s.stopRuns t →
    ∃ u, exec (.collectorKeyExpire t snode stile mseq) s = .next u ∧
      (∀ c, c ∈ (u.stop t).si.closed ↔ c ∈ (s.stop t).si.closed ∧ ¬ (c.1.named snode stile mseq = true ∧ c.2 ≤ s.ft)) ∧
      u.stop t = { s.stop t with si := { (s.stop t).si with closed := (u.stop t).si.closed } } ∧ u.out = s.out ∧ s.stopOnly u t)

/-- A multicast at its target and its origin (R78, R129, R130, R133, R134). The local copy of a one-packet message that is for the tile's
own SI is written to the receive space, noted, and answered: to the die's collector, with the origin in ADDR, or to the sender of a unicast
copy. A copy that could not be taken in 64 fc is counted, fails the message there, and is answered NOTREADY to the collector where it has
not failed before. A round that every collector has answered, with no retries, ends the descriptor with the lowest code among the failed
targets. -/
def Obligations.MulticastEnds : Prop :=
  (∀ (t port c : Nat) (p : Pkt) (s : State), s.stopRuns t → portOk s.build t port = true → p.hdr.type = tMcast →
    s.mcLocal t port p.hdr = some true → s.enterDie t port p.hdr = (s, true) → s.siTakes t p.hdr → countOk p.hdr = true →
    s.inSpace t p.hdr = true → p.hdr.pidx = 0 → p.hdr.pcnt = 1 → (s.stop t).si.keyState (keyOf p.hdr) s.ft = none →
    (s.stop t).si.asms.find? (fun a => a.key == keyOf p.hdr) = none → (s.stop t).si.asms.length < 32 →
    s.answerTile p.hdr = some c → (c ≠ t ∨ p.hdr.snode.toNat ≠ s.node ∨ p.hdr.stile.toNat ≠ t) →
    ∃ u a, exec (.mcastArrive t port p) s = .next u ∧
      u.out = s.out ++ [.tpWrite t (p.hdr.addr.extractLsb' 0 40).toNat (slice p.data 0 p.hdr.plen.toNat),
        .cmp t 0xE (p.hdr.ctag ++ p.hdr.srank ++ BitVec.ofNat 24 p.hdr.plen.toNat ++ (0 : BitVec 12) ++ BitVec.ofNat 40 p.hdr.addr.toNat)] ∧
      s.injects u t a ∧ a.hdr.type = tAck ∧ a.hdr.dtile = BitVec.ofNat 9 c ∧ a.hdr.dnode = BitVec.ofNat 12 s.node ∧
      a.hdr.addr = originAddr p.hdr ∧ s.stopOnly u t) ∧
  (∀ (t port : Nat) (p : Pkt) (s : State), s.stopRuns t → portOk s.build t port = true → p.hdr.type = tMcast → p.hdr.dmode = 0 →
    s.siTakes t p.hdr → countOk p.hdr = true → s.inSpace t p.hdr = true → p.hdr.pidx = 0 → p.hdr.pcnt = 1 →
    (s.stop t).si.keyState (keyOf p.hdr) s.ft = none → (s.stop t).si.asms.find? (fun a => a.key == keyOf p.hdr) = none →
    (s.stop t).si.asms.length < 32 →
    ∃ u, exec (.mcastArrive t port p) s = .next u ∧
      u.out = s.out ++ [.tpWrite t (p.hdr.addr.extractLsb' 0 40).toNat (slice p.data 0 p.hdr.plen.toNat),
        .cmp t 0xE (p.hdr.ctag ++ p.hdr.srank ++ BitVec.ofNat 24 p.hdr.plen.toNat ++ (0 : BitVec 12) ++ BitVec.ofNat 40 p.hdr.addr.toNat)] ∧
      s.answersTo u t p.hdr 0 true ∧ s.stopOnly u t) ∧
  (∀ (t waited c : Nat) (p : Pkt) (s : State), s.stopRuns t → mcAnswered p.hdr = true → p.hdr.dmode ≠ 0 → 64 ≤ waited →
    (s.stop t).si.keyState (keyOf p.hdr) s.ft ≠ some false → s.answerTile p.hdr = some c →
    (c ≠ t ∨ p.hdr.snode.toNat ≠ s.node ∨ p.hdr.stile.toNat ≠ t) →
    ∃ u a, exec (.mcastEjectTimeout t p waited) s = .next u ∧ (u.stop t).si.ejdrop = inc8 (s.stop t).si.ejdrop ∧
      (u.stop t).si.incomplete = inc8 (s.stop t).si.incomplete ∧
      (u.stop t).si.keyState (keyOf p.hdr) s.ft = some false ∧ s.injects u t a ∧ a.hdr.type = tNack ∧ ansCode a.hdr.w6 = nNotReady ∧
      a.hdr.dtile = BitVec.ofNat 9 c ∧ s.stopOnly u t) ∧
  (∀ (t mseq : Nat) (s : State) (m : Msg) (c : Mcast), s.stopRuns t →
    (s.stop t).si.msgs.find? (fun m => m.issued && m.hdr.mseq.toNat == mseq &&
      (match m.mc with | some c => c.collecting | none => false)) = some m → m.mc = some c → m.owner = .desc → m.aux = 0 → c.noRecord = [] →
    c.need ≤ c.got.length → c.maps = [] →
    ∃ u l, exec (.mcastRoundEnd t mseq) s = .next u ∧ u.out = s.out ++ .cmp t m.dkind (cmpData m.hdr.ctag m.resends c.code) :: l ∧
      (∀ x ∈ (u.stop t).si.msgs, x.uid ≠ m.uid) ∧ s.stopOnly u t)

/-! ## The sending side of a stop interface (03, 21) -/

/-- A transfer descriptor that the SI takes and that passes the checks of R584 becomes one message of the SI (R80, R81, R583), whose type, VC,
destination, address, tag and length are the descriptor's: a PUT or a RINGMSG to the tile of its rank, a multicast by rectangle or tree, an
MWRITE or MREAD to the memory-service tile of a peer chip. An MWRITE or MREAD to the own chip's memory becomes one that never enters the
T-plane, and the granules of such an MREAD go to the tile's M-port (R583). -/
def Obligations.DescriptorsBecomeMessages : Prop :=
  (∀ (t n v : Nat) (d : Desc) (p : PanRec) (s : State), s.cmdTakes t → d.kind = 1 → s.descCode t d = 0 →
    s.tilePan t = some p → p.rank d.drank = some (n, v) → d.daddr.extractLsb' 40 8 = 0 →
    ∃ u m, exec (.dscPut t d) s = .next u ∧ m ∈ (u.stop t).si.msgs ∧ m.uid = (s.stop t).si.nextUid ∧ m.owner = .desc ∧ m.hdr.type = tPut ∧
      m.hdr.vc = 0 ∧ m.hdr.dmode = 0 ∧ m.hdr.dnode = BitVec.ofNat 12 n ∧ m.hdr.dtile = BitVec.ofNat 9 v ∧ m.hdr.addr = d.daddr ∧
      m.hdr.ctag = d.ctag ∧ m.hdr.pan = BitVec.ofNat 8 p.id ∧ m.len = d.len ∧ m.src = d.src ∧ m.fetch = d.len ∧
      (u.stop t).si.nextUid = (s.stop t).si.nextUid + 1 ∧ s.stopOnly u t) ∧
  (∀ (t n v : Nat) (d : Desc) (p : PanRec) (s : State), s.cmdTakes t → d.kind = 5 → s.descCode t d = 0 →
    s.tilePan t = some p → p.rank d.drank = some (n, v) → ringAddrOk d.daddr = true →
    ∃ u m, exec (.dscRingmsg t d) s = .next u ∧ m ∈ (u.stop t).si.msgs ∧ m.uid = (s.stop t).si.nextUid ∧ m.owner = .desc ∧
      m.hdr.type = tRing ∧ m.hdr.vc = 0 ∧ m.hdr.dnode = BitVec.ofNat 12 n ∧ m.hdr.dtile = BitVec.ofNat 9 v ∧ m.hdr.addr = d.daddr ∧
      m.hdr.qepoch = d.qepoch ∧ m.hdr.ctag = d.ctag ∧ m.len = d.len ∧ m.src = d.src ∧ m.fetch = d.len ∧ s.stopOnly u t) ∧
  (∀ (t : Nat) (d : Desc) (p : PanRec) (k : Nat) (s : State), s.cmdTakes t → d.kind = 6 → s.descCode t d = 0 →
    s.tilePan t = some p → s.mcastNeed t p d.dmode (d.mset.setWidth 64) = some k → d.daddr.extractLsb' 40 8 = 0 →
    msetOk d.dmode d.mset = true →
    ∃ u m, exec (.dscMcast t d) s = .next u ∧ m ∈ (u.stop t).si.msgs ∧ m.uid = (s.stop t).si.nextUid ∧ m.owner = .desc ∧
      m.hdr.type = tMcast ∧ m.hdr.vc = 3 ∧ m.hdr.route = 0 ∧ m.hdr.dmode = d.dmode ∧ m.hdr.w6 = d.mset.setWidth 64 ∧ m.hdr.addr = d.daddr ∧
      m.hdr.ctag = d.ctag ∧ m.len = d.len ∧ m.src = d.src ∧ m.fetch = d.len ∧ s.stopOnly u t) ∧
  (∀ (t n v : Nat) (d : Desc) (p : PanRec) (s : State), s.cmdTakes t → d.kind = 2 → s.descCode t d = 0 →
    s.tilePan t = some p → s.memTarget p d 1 = some (.inr (n, v)) →
    ∃ u m, exec (.dscMwrite t d) s = .next u ∧ m ∈ (u.stop t).si.msgs ∧ m.uid = (s.stop t).si.nextUid ∧ m.owner = .desc ∧
      m.hdr.type = tMwrite ∧ m.hdr.vc = 0 ∧ m.hdr.dnode = BitVec.ofNat 12 n ∧ m.hdr.dtile = BitVec.ofNat 9 v ∧ m.hdr.addr = d.daddr ∧
      m.hdr.ctag = d.ctag ∧ m.len = d.len ∧ m.src = d.src ∧ m.fetch = d.len ∧ s.stopOnly u t) ∧
  (∀ (t n v : Nat) (d : Desc) (p : PanRec) (s : State), s.cmdTakes t → d.kind = 4 → s.descCode t d = 0 →
    s.tilePan t = some p → s.memTarget p d 0 = some (.inr (n, v)) →
    ∃ u m, exec (.dscMread t d) s = .next u ∧ m ∈ (u.stop t).si.msgs ∧ m.uid = (s.stop t).si.nextUid ∧ m.owner = .desc ∧
      m.hdr.type = tMread ∧ m.hdr.vc = 0 ∧ m.hdr.dnode = BitVec.ofNat 12 n ∧ m.hdr.dtile = BitVec.ofNat 9 v ∧ m.hdr.addr = d.daddr ∧
      m.hdr.ctag = d.ctag ∧ m.hdr.w6 = BitVec.ofNat 24 d.len ++ BitVec.ofNat 40 d.aux ∧ m.len = 0 ∧ m.fetch = 0 ∧ s.stopOnly u t) ∧
  (∀ (t : Nat) (d : Desc) (p : PanRec) (s : State), s.cmdTakes t → d.kind = 2 → s.descCode t d = 0 →
    s.tilePan t = some p → s.memTarget p d 1 = some (.inl ()) →
    ∃ u m, exec (.dscMwrite t d) s = .next u ∧ m ∈ (u.stop t).si.msgs ∧ m.uid = (s.stop t).si.nextUid ∧ m.owner = .desc ∧ m.hdr.type = 0 ∧
      m.hdr.addr = d.daddr ∧ m.hdr.ctag = d.ctag ∧ m.len = d.len ∧ m.src = d.src ∧ m.fetch = d.len ∧ m.issued = true ∧ s.stopOnly u t) ∧
  (∀ (t : Nat) (d : Desc) (p : PanRec) (s : State), s.cmdTakes t → d.kind = 4 → s.descCode t d = 0 →
    s.tilePan t = some p → s.memTarget p d 0 = some (.inl ()) → s.img.act.watch = [] →
    ∃ u m, exec (.dscMread t d) s = .next u ∧ m ∈ (u.stop t).si.msgs ∧ m.uid = (s.stop t).si.nextUid ∧ m.owner = .desc ∧ m.hdr.type = 0 ∧
      m.hdr.addr = d.daddr ∧ m.hdr.ctag = d.ctag ∧ m.aux = d.aux ∧ (u.stop t).mp.has (fun o => o == .desc m.uid 0) = true ∧ s.stopOnly u t)

/-- A descriptor that the SI takes and refuses completes at once with FENCED, where the client is fenced, or BOUNDS, and no message is made
of it (R584, R585). -/
def Obligations.DescriptorsAreRefused : Prop :=
  ∀ (t : Nat) (d : Desc) (s : State) (i : Instr), s.cmdTakes t → s.descCode t d ≠ 0 →
    (i, d.kind) ∈ [(Instr.dscPut t d, 1), (.dscMwrite t d, 2), (.dscMread t d, 4), (.dscRingmsg t d, 5), (.dscMcast t d, 6)] →
    ∃ u, exec i s = .next u ∧ u.out = s.out ++ [.cmp t d.kind (cmpData d.ctag 0 (s.descCode t d))] ∧ (u.stop t).si = (s.stop t).si ∧
      (s.descCode t d = nFenced ↔ (s.stop t).ro.clientFenced = true) ∧ (s.descCode t d ≠ nFenced → s.descCode t d = nBounds) ∧ s.stopOnly u t

/-- Messages leave an SI. MESSAGE_ISSUE gives the only message of the SI, one that waits and goes by no circuit, the SI's next MSEQ, where that
is free, and its packets to send (R82); it asks for the data of the only message on the TP port, at most 2,048 bytes here (R581). TP_READ_DATA
gives the only message the bytes it asked for as the read's last beat comes (R581, R601). SI_INJECT starts the SI's only packet, one that the
sluice does not govern: one for the own combine unit passes to it without the router (R199), and one for another chip takes the next
end-to-end number for its node and counts its flits (R93, R511, R602). -/
def Obligations.MessagesLeave : Prop :=
  (∀ (t : Nat) (m : Msg) (s : State), s.stopRuns t → (s.stop t).si.msgs = [m] → m.issued = false → m.hdr.type ≠ 0 → m.circ = none →
    m.fetch ≤ m.asked → s.draining t = false → (s.stop t).si.mseqFree s.ft = true →
    ∃ u x, exec (.messageIssue t) s = .next u ∧ (u.stop t).si.msgs = [x] ∧ x.issued = true ∧ x.hdr = { m.hdr with mseq := (s.stop t).si.mseq } ∧
      x.todo = List.range m.pcnt ∧ x.uid = m.uid ∧ x.owner = m.owner ∧ x.len = m.len ∧ x.data = m.data ∧
      (u.stop t).si.mseq = (s.stop t).si.mseq + 1 ∧ u.out = s.out ∧ s.stopOnly u t) ∧
  (∀ (t : Nat) (m : Msg) (s : State), s.stopRuns t → (s.stop t).si.msgs = [m] → m.issued = true → m.circ = none → m.asked = 0 →
    0 < m.fetch → m.fetch ≤ 2048 → s.shut (.tp t) = false → (s.stop t).si.reads = [] →
    ∃ u, exec (.messageIssue t) s = .next u ∧ u.out = s.out ++ [.tpRead t (m.src % 2 ^ 40) m.fetch 0] ∧
      (u.stop t).si.reads = [{ tag := 0, uid := m.uid, addr := m.src % 2 ^ 40, len := m.fetch, got := [], done := false }] ∧ s.stopOnly u t) ∧
  (∀ (t : Nat) (m : Msg) (r : TpRead) (data : List Byte) (s : State), s.stopRuns t → (s.stop t).si.reads = [r] → r.done = false →
    r.tag < 16 → (s.stop t).si.msgs = [m] → m.uid = r.uid → m.issued = true → m.hdr.type ≠ 0 → m.circ = none → m.fetch ≤ m.asked →
    (s.stop t).co.live = [] →
    ∃ u x, exec (.tpReadData t (BitVec.ofNat 4 r.tag) true false data) s = .next u ∧ (u.stop t).si.reads = [] ∧ (u.stop t).si.msgs = [x] ∧
      x.data = m.data ++ ((r.got ++ slice data 0 (flitW s.build)).drop (r.addr % flitW s.build)).take r.len ∧ x.hdr = m.hdr ∧ x.todo = m.todo ∧
      u.out = s.out ∧ s.stopOnly u t) ∧
  (∀ (t : Nat) (x : Inj) (s : State), s.stopRuns t → (s.stop t).si.msgs = [] → (s.stop t).si.inj = [x] →
    x.governed = false → s.rowHeld t = false → (s.stop t).si.injAt ≤ s.ft → x.pkt.hdr.vc ≠ 0 → s.toOwnCu t x.pkt.hdr = true →
    ∃ u p, exec (.siInject t) s = .next u ∧ u.out = s.out ++ [.cuPkt t p] ∧ p = { x.pkt with hdr := { x.pkt.hdr with tstamp := s.stamp } } ∧
      (u.stop t).cu.waitO = (s.stop t).cu.waitO ++ [p] ∧ (u.stop t).si.inj = [] ∧ (u.stop t).rt = (s.stop t).rt ∧ s.stopOnly u t) ∧
  (∀ (t : Nat) (x : Inj) (s : State), s.stopRuns t → (s.stop t).si.msgs = [] → (s.stop t).si.inj = [x] →
    x.governed = false → s.rowHeld t = false → (s.stop t).si.injAt ≤ s.ft → x.pkt.hdr.vc ≠ 0 ∨ s.img.act.watch = [] →
    x.pkt.hdr.dmode = 0 → x.pkt.hdr.dnode.toNat ≠ s.node →
    flitsOf s.build x.pkt.data.length + ((s.stop t).rt.buf 4 x.pkt.hdr.vc.toNat).load ≤ maxFlits s.build →
    ∃ u, exec (.siInject t) s = .next u ∧
      Tab.get 0 u.e2eSeq x.pkt.hdr.dnode.toNat = Tab.get 0 s.e2eSeq x.pkt.hdr.dnode.toNat + 1 ∧
      (u.stop t).pb.c0 = (s.stop t).pb.c0 + BitVec.ofNat 32 (flitsOf s.build x.pkt.data.length) ∧
      (u.stop t).si.injAt = s.ft + flitsOf s.build x.pkt.data.length)

/-- Answers and time limits at the sender (R89 to R91, R98, R276, R511, R585): an ACK, and a NACK other than NOTREADY and INCOMPLETE, ends a
descriptor's message with its code; a whole-message NOTREADY before the eighth in a row backs a message off twice as long as the last; the
end of the backoff, or of 100 µs without an answer up to three times, sends the message whole again; a descriptor's message that no answer
has ended by then fails as undeliverable, with a fault, and its completion holds the code of its last answer, or INCOMPLETE; and a C-plane
request is sent again up to three times too. -/
def Obligations.AnswersEndMessages : Prop :=
  (∀ (t : Nat) (p : Pkt) (m : Msg) (s : State), s.ansTakes t p tAck m → m.owner = .desc → m.mc = none →
    ∃ u l, exec (.ackArrive t p) s = .next u ∧ u.out = s.out ++ .cmp t m.dkind (cmpData m.hdr.ctag m.resends 0) :: l ∧
      (∀ x ∈ (u.stop t).si.msgs, x.uid ≠ m.uid) ∧ s.stopOnly u t) ∧
  (∀ (t : Nat) (p : Pkt) (m : Msg) (s : State), s.ansTakes t p tNack m → ansCode p.hdr.w6 = nNotReady →
    ansWhole p.hdr.w6 = true → m.notReady < 7 →
    ∃ u x, exec (.nackArrive t p) s = .next u ∧ x ∈ (u.stop t).si.msgs ∧ x.uid = m.uid ∧ x.notReady = m.notReady + 1 ∧
      x.backoff = some (s.ft + min 65536 (32 * 2 ^ m.notReady)) ∧ x.todo = [] ∧ (u.stop t).si.notready = inc8 (s.stop t).si.notready ∧
      (u.stop t).pb.c3 = (s.stop t).pb.c3 + 1 ∧ u.out = s.out ∧ s.stopOnly u t) ∧
  (∀ (t : Nat) (p : Pkt) (m : Msg) (s : State), s.ansTakes t p tNack m → m.owner = .desc → m.mc = none →
    ansCode p.hdr.w6 ≠ nNotReady → ansCode p.hdr.w6 ≠ nIncomplete →
    ∃ u l, exec (.nackArrive t p) s = .next u ∧
      u.out = s.out ++ .cmp t m.dkind (cmpData m.hdr.ctag m.resends (ansCode p.hdr.w6)) :: l ∧ (∀ x ∈ (u.stop t).si.msgs, x.uid ≠ m.uid) ∧
      s.stopOnly u t) ∧
  (∀ (t mseq : Nat) (m : Msg) (s : State), s.stopRuns t → s.backedOff t mseq (fun m => !m.claim) = some m →
    ∃ u x, exec (.resendBackoffExpire t mseq) s = .next u ∧ x ∈ (u.stop t).si.msgs ∧ x.uid = m.uid ∧ x.todo = List.range m.pcnt ∧
      x.again = true ∧ x.backoff = none ∧ x.resends = m.resends + 1 ∧ (u.stop t).si.resent = inc8 (s.stop t).si.resent ∧
      (u.stop t).pb.c4 = (s.stop t).pb.c4 + 1 ∧ u.out = s.out ∧ s.stopOnly u t) ∧
  (∀ (t plane mseq : Nat) (m : Msg) (s : State), s.stopRuns t → plane ≠ 1 →
    (s.stop t).si.msgs.find? (fun m => m.issued && m.owner.red == (plane == 2) && m.hdr.mseq.toNat == mseq && dueBy m.deadline s.ft) = some m →
    m.mc = none → m.circ = none → (∀ x ∈ (s.stop t).si.msgs, x.small = false) → m.tries < 3 →
    ∃ u x, exec (.answerTimeout t plane mseq) s = .next u ∧ x ∈ (u.stop t).si.msgs ∧ x.uid = m.uid ∧ x.tries = m.tries + 1 ∧
      x.todo = List.range m.pcnt ∧ x.again = true ∧ x.deadline = none ∧ x.notReady = 0 ∧ u.out = s.out ∧ s.stopOnly u t) ∧
  (∀ (t mseq : Nat) (m : Msg) (s : State), s.stopRuns t →
    (s.stop t).si.msgs.find? (fun m => m.issued && m.owner.red == false && m.hdr.mseq.toNat == mseq && dueBy m.deadline s.ft) = some m →
    m.owner = .desc → m.mc = none → m.circ = none → 3 ≤ m.tries →
    ∃ u f l, exec (.answerTimeout t 0 mseq) s = .next u ∧
      u.out = s.out ++ .fault f :: .cmp t m.dkind (cmpData m.hdr.ctag m.resends (m.lastCode.getD nIncomplete)) :: l ∧ f.code = 0x0304 ∧
      (u.stop t).si.undeliv = inc8 (s.stop t).si.undeliv ∧ (∀ x ∈ (u.stop t).si.msgs, x.uid ≠ m.uid)) ∧
  (∀ (t mseq : Nat) (r : CReq) (s : State), s.stopRuns t →
    (s.stop t).cr.reqs.find? (fun r => r.issued && r.msg.hdr.mseq.toNat == mseq && dueBy r.deadline s.ft) = some r → r.tries < 3 →
    ∃ u x, exec (.answerTimeout t 1 mseq) s = .next u ∧ x ∈ (u.stop t).cr.reqs ∧ x.msg = r.msg ∧ x.tries = r.tries + 1 ∧ x.deadline = none ∧
      s.cSends u t { r.msg with hdr := { r.msg.hdr with resend := 1 } } ∧ (u.stop t).si.resent = inc8 (s.stop t).si.resent ∧
      u.out = s.out ∧ s.stopOnly u t)

/-! ## The receiving side of a stop interface (03) -/

/-- Packets of a PUT at its target (R78, R80, R84 to R86, R407, R585): a whole message of one packet is written to the receive space, noted
and ACKed, and its key is completed; the first packet of a longer message is written and opens an assembly with 50 µs to run; an early packet
is held; the last packet in sequence writes, notes and ACKs the message; where 32 assemblies are open the packet is answered NOTREADY alone;
a packet that breaks its bounds fails the message with BOUNDS, and a LAST packet of another pan is counted, reported and answered PAN. -/
def Obligations.ReceiversAssemble : Prop :=
  (∀ (t : Nat) (p : Pkt) (s : State), s.stopRuns t → p.hdr.type = tPut → p.hdr.dmode = 0 → s.siTakes t p.hdr → countOk p.hdr = true →
    s.inSpace t p.hdr = true → p.hdr.pidx = 0 → p.hdr.pcnt = 1 → (s.stop t).si.keyState (keyOf p.hdr) s.ft = none →
    (s.stop t).si.asms.find? (fun a => a.key == keyOf p.hdr) = none → (s.stop t).si.asms.length < 32 →
    ∃ u, exec (.putArrive t p) s = .next u ∧
      u.out = s.out ++ [.tpWrite t (p.hdr.addr.extractLsb' 0 40).toNat (slice p.data 0 p.hdr.plen.toNat),
        .cmp t 0xE (p.hdr.ctag ++ p.hdr.srank ++ BitVec.ofNat 24 p.hdr.plen.toNat ++ (0 : BitVec 12) ++ BitVec.ofNat 40 p.hdr.addr.toNat)] ∧
      s.answersTo u t p.hdr 0 true ∧ (u.stop t).si.keyState (keyOf p.hdr) s.ft = some true ∧ s.stopOnly u t) ∧
  (∀ (t : Nat) (p : Pkt) (s : State), s.stopRuns t → p.hdr.type = tPut → p.hdr.dmode = 0 → s.siTakes t p.hdr → countOk p.hdr = true →
    s.inSpace t p.hdr = true → p.hdr.pidx = 0 → p.hdr.pcnt ≠ 1 → (s.stop t).si.keyState (keyOf p.hdr) s.ft = none →
    (s.stop t).si.asms.find? (fun a => a.key == keyOf p.hdr) = none → (s.stop t).si.asms.length < 32 →
    ∃ u a, exec (.putArrive t p) s = .next u ∧
      u.out = s.out ++ [.tpWrite t (p.hdr.addr.extractLsb' 0 40).toNat (slice p.data 0 p.hdr.plen.toNat)] ∧
      (u.stop t).si.asms = (s.stop t).si.asms ++ [a] ∧ a.key = keyOf p.hdr ∧ a.seen = [0] ∧ a.next = 1 ∧ a.deadline = s.ft + 100000 ∧
      a.bytes = p.hdr.plen.toNat ∧ (u.stop t).si.inj = (s.stop t).si.inj ∧ s.stopOnly u t) ∧
  (∀ (t : Nat) (p : Pkt) (a : Assembly) (s : State), s.stopRuns t → p.hdr.type = tPut → p.hdr.dmode = 0 → s.siTakes t p.hdr →
    countOk p.hdr = true → s.inSpace t p.hdr = true → (s.stop t).si.keyState (keyOf p.hdr) s.ft = none → (s.stop t).si.asms = [a] →
    a.key = keyOf p.hdr → p.hdr.pidx.toNat = a.next → a.seen.contains p.hdr.pidx.toNat = false → a.held = [] →
    p.hdr.pcnt.toNat = a.next + 1 →
    ∃ u, exec (.putArrive t p) s = .next u ∧
      u.out = s.out ++ [.tpWrite t (p.hdr.addr.extractLsb' 0 40).toNat (slice p.data 0 p.hdr.plen.toNat),
        .cmp t 0xE (a.hdr.ctag ++ a.hdr.srank ++ BitVec.ofNat 24 (a.bytes + p.hdr.plen.toNat) ++ (0 : BitVec 12) ++
          BitVec.ofNat 40 (msgAddr a.hdr))] ∧
      s.answersTo u t p.hdr 0 true ∧ (u.stop t).si.asms = [] ∧ (u.stop t).si.keyState (keyOf p.hdr) s.ft = some true ∧ s.stopOnly u t) ∧
  (∀ (t : Nat) (p : Pkt) (a : Assembly) (s : State), s.stopRuns t → p.hdr.type = tPut → p.hdr.dmode = 0 → s.siTakes t p.hdr →
    countOk p.hdr = true → s.inSpace t p.hdr = true → (s.stop t).si.keyState (keyOf p.hdr) s.ft = none → (s.stop t).si.asms = [a] →
    a.key = keyOf p.hdr → p.hdr.pidx.toNat ≠ a.next → a.seen.contains p.hdr.pidx.toNat = false → a.held.length < 16 →
    ∃ u, exec (.putArrive t p) s = .next u ∧
      (u.stop t).si.asms = [{ a with seen := a.seen ++ [p.hdr.pidx.toNat], held := a.held ++ [p] }] ∧
      (u.stop t).si.inj = (s.stop t).si.inj ∧ (u.stop t).si.keys = (s.stop t).si.keys ∧ u.out = s.out ∧ s.stopOnly u t) ∧
  (∀ (t : Nat) (p : Pkt) (s : State), s.stopRuns t → p.hdr.type = tPut → p.hdr.dmode = 0 → s.siTakes t p.hdr → countOk p.hdr = true →
    s.inSpace t p.hdr = true → (s.stop t).si.keyState (keyOf p.hdr) s.ft = none →
    (s.stop t).si.asms.find? (fun a => a.key == keyOf p.hdr) = none → 32 ≤ (s.stop t).si.asms.length →
    ∃ u, exec (.putArrive t p) s = .next u ∧ s.answersTo u t p.hdr nNotReady false ∧
      (u.stop t).si.asms = (s.stop t).si.asms ∧ u.out = s.out ∧ s.stopOnly u t) ∧
  (∀ (t : Nat) (p : Pkt) (s : State), s.stopRuns t → p.hdr.type = tPut → p.hdr.dmode = 0 → s.siTakes t p.hdr →
    (countOk p.hdr && s.inSpace t p.hdr) = false →
    ∃ u, exec (.putArrive t p) s = .next u ∧ s.answersTo u t p.hdr nBounds true ∧
      (u.stop t).si.bounds = inc8 (s.stop t).si.bounds ∧ (u.stop t).si.keyState (keyOf p.hdr) s.ft = some false ∧ u.out = s.out ∧
      s.stopOnly u t) ∧
  (∀ (t : Nat) (p : Pkt) (q : PanRec) (s : State), s.stopRuns t → p.hdr.type = tPut → p.hdr.dmode = 0 →
    s.hdrOk p.hdr = true → p.hdr.e2e = 0 →
    s.isLate p.hdr = false → s.tilePan t = some q → p.hdr.pan.toNat ≠ q.id → p.hdr.last = 1 →
    ∃ u, exec (.putArrive t p) s = .next u ∧ s.answersTo u t p.hdr nPan true ∧ s.reported u (unitId uSi (s.phys t)) 0x030A ∧
      Tab.get 0 u.pans.foreign q.id = inc8 (Tab.get 0 s.pans.foreign q.id) ∧ (u.stop t).si.asms = (s.stop t).si.asms)

/-- MRESP at the requester and the end of assemblies (R81, R84, R86 to R88): a whole answer is written to the client and its MREAD's
descriptor completes; an assembly whose 50 µs are over ends as INCOMPLETE and its sender hears so, once the record is due and not before;
a key recorded completed or INCOMPLETE is forgotten when its millisecond is over, and no other. The descriptor is one of no multicast, and the
assembly that ends is of no MRESP and of no multicast. -/
def Obligations.AssembliesEnd : Prop :=
  (∀ (t : Nat) (p : Pkt) (m : Msg) (s : State), s.stopRuns t → p.hdr.type = tMresp → s.hdrOk p.hdr = true → p.hdr.e2e = 0 →
    s.isLate p.hdr = false → (s.stop t).ro.clientFenced = false → (s.stop t).si.msgs.find? (fun m => m.reads p.hdr) = some m → m.mc = none →
    countOk p.hdr = true → respInBuf m p.hdr = true → p.hdr.pidx = 0 → p.hdr.pcnt = 1 →
    (s.stop t).si.keyState (keyOf p.hdr) s.ft = none → (s.stop t).si.asms = [] →
    ∃ u l, exec (.mrespArrive t p) s = .next u ∧
      u.out = s.out ++ .tpWrite t (p.hdr.addr.extractLsb' 0 40).toNat (slice p.data 0 p.hdr.plen.toNat) ::
        .cmp t m.dkind (cmpData m.hdr.ctag m.resends 0) :: l ∧
      (∀ x ∈ (u.stop t).si.msgs, x.uid ≠ m.uid) ∧ (u.stop t).si.inj = (s.stop t).si.inj ∧ s.stopOnly u t) ∧
  (∀ (t snode stile vc mseq : Nat) (a : Assembly) (s : State), s.stopRuns t →
    (s.stop t).si.asms.find? (fun a => a.key == { snode := snode, stile := stile, vc := vc, mseq := mseq } && decide (a.deadline ≤ s.ft)) = some a →
    a.hdr.type ≠ tMresp → a.hdr.dmode = 0 →
    ∃ u, exec (.assemblyTimeout t snode stile vc mseq) s = .next u ∧ s.answersTo u t a.hdr nIncomplete true ∧
      (u.stop t).si.incomplete = inc8 (s.stop t).si.incomplete ∧ (∀ x ∈ (u.stop t).si.asms, x.key ≠ a.key) ∧
      (u.stop t).si.keyState a.key s.ft = some false ∧ u.out = s.out ∧ s.stopOnly u t) ∧
  (∀ (t snode stile vc mseq : Nat) (s : State), s.stopRuns t →
    (s.stop t).si.asms.find? (fun a => a.key == { snode := snode, stile := stile, vc := vc, mseq := mseq } && decide (a.deadline ≤ s.ft)) = none →
    exec (.assemblyTimeout t snode stile vc mseq) s = .next s) ∧
  (∀ (t snode stile vc mseq : Nat) (s : State), s.stopRuns t →
    ∃ u, exec (.completedKeyExpire t snode stile vc mseq) s = .next u ∧
      (∀ d, d ∈ (u.stop t).si.keys ↔ d ∈ (s.stop t).si.keys ∧
        ¬ (d.key = { snode := snode, stile := stile, vc := vc, mseq := mseq } ∧ d.expires ≤ s.ft)) ∧
      u.stop t = { s.stop t with si := { (s.stop t).si with keys := (u.stop t).si.keys } } ∧ u.out = s.out ∧ s.stopOnly u t)

/-! ## The grid and its crossings (01) -/

/-- Row remaps (R14, R16): a row that has drained within its 2 ms takes the removed column and source of its hold, and every other row keeps
its map; where the planes of the die are empty, each physical stop keeps its queues under the logical tile that it now carries, and nothing
changes but the row's map, its fence bits, the stops, what belongs to a client's port and the M-plane; a row that has not drained, or whose
time is over, does not take the map; the time limit gives the new map up and reports 0x0106; L(x,y) is carried by P(x,y) left of the removed
column, and by P(x + 1,y) from it on. -/
def Obligations.RowsTakeTheirMaps : Prop :=
  (∀ (y : Nat) (h : RowHold) (s : State), s.running = true → s.rowDrained y = true → (s.row y).hold = some h → s.ft < h.deadline →
    ∃ u, exec (.rowRemapDrained y) s = .next u ∧ (u.row y).col = h.col ∧ (u.row y).src = h.src ∧ (u.row y).hold = none ∧
      (∀ z, z ≠ y → u.row z = s.row z)) ∧
  (∀ (y : Nat) (h : RowHold) (s : State), s.running = true → s.fabricEmpty → (s.row y).hold = some h → s.ft < h.deadline →
    ∃ u, exec (.rowRemapDrained y) s = .next u ∧
      (∀ x, x < cols s.build → (u.stop (tileId x y)).q =
        match s.logical (u.physX x y) y with | some v => (s.stop v).q | none => QBlock.init) ∧
      u = { s with
        rows := u.rows, stops := u.stops, flt := { s.flt with fenced := u.flt.fenced }, xings := u.xings, slices := u.slices
        pwr := { s.pwr with ports := u.pwr.ports }, out := u.out }) ∧
  (∀ (y : Nat) (h : RowHold) (s : State), s.running = true → (s.row y).hold = some h → s.rowDrained y = false ∨ h.deadline ≤ s.ft →
    exec (.rowRemapDrained y) s = .next s) ∧
  (∀ (y : Nat) (h : RowHold) (s : State), s.running = true → (s.row y).hold = some h → h.deadline ≤ s.ft →
    ∃ u f l, exec (.rowRemapTimeout y) s = .next u ∧ u.row y = { s.row y with hold := none } ∧ (∀ z, z ≠ y → u.row z = s.row z) ∧
      u.out = s.out ++ .fault f :: l ∧ f.code = 0x0106 ∧ f.unit = 0xA001 ∧ f.cls = BitVec.ofNat 2 (faultClass 0x0106)) ∧
  (∀ (x y : Nat) (s : State), s.physX x y = if x < (s.row y).col then x else x + 1) ∧
  (∀ (x y : Nat) (s : State), x < cols s.build → (s.row y).col = pcols s.build - 1 → s.physX x y = x) ∧
  (∀ (x y : Nat) (s : State), x < cols s.build → y < 16 → s.logical (s.physX x y) y = some (tileId x y))

/-- Quadrants (R27, R28): training ends in the self-test phase, with QTRAIN_OK where no wire failed, and with one report of 0x0101, which names
its two tiles, for every wire that did; a lost phase is shown and reported as 0x0102. -/
def Obligations.QuadrantsReport : Prop :=
  (∀ s : State, s.start.phase = 3 →
    ∃ u, exec (.quadrantTraining []) s = .next u ∧ u = { s with qtrainOk := true, start := { s.start with phase := 4 } }) ∧
  (∀ (bad : List (Nat × Nat)) (s : State), s.start.phase = 3 → bad ≠ [] →
    ∃ u l, exec (.quadrantTraining bad) s = .next u ∧ u.qtrainOk = false ∧ u.start = { s.start with phase := 4 } ∧ u.out = s.out ++ l ∧
      l.length = bad.length ∧ (∀ e ∈ l, ∃ f : FaultMsg, e = .fault f ∧ f.code = 0x0101 ∧ f.cls = BitVec.ofNat 2 (faultClass 0x0101)) ∧
      (∀ w ∈ bad, ∃ f : FaultMsg, .fault f ∈ l ∧ f.detN = BitVec.ofNat 16 w.1 ∧ f.detT = BitVec.ofNat 16 w.2) ∧
      u = { s with qtrainOk := false, start := u.start, stops := u.stops, out := u.out }) ∧
  (∀ (p q : Nat) (s : State), s.ready = true →
    ∃ u, exec (.quadrantPhaseLost p q) s = .next u ∧ u.phaseLost = true ∧ s.reported u 0xA005 0x0102 ∧
      u = { s with phaseLost := true, stops := u.stops, out := u.out } ∧ s.stopsBut u ctlTile)

/-- Asynchronous crossings (R34 to R37): 4,096 fc without a toggle while a transfer is pending shut the path, report 0x0103 for its unit and
set its bit, and no other path is shut; what waited in a client's CMD, MSG or MP crossing is discarded, the requests inside the control port go
with it, and every request of a slice has failed; fewer fc, or nothing pending, shut nothing and change nothing but ALIVE; 64 fc of toggles
reopen the path once its fault has been cleared, and no other path; and fewer, or a fault not cleared, do not. -/
def Obligations.CrossingsShutAndReopen : Prop :=
  (∀ (x : XPath) (quiet : Nat) (s : State), s.xRuns x = true → s.xOk x = true → s.xPending x = true → 4096 ≤ quiet → s.shut x = false →
    ∃ u f l, exec (.crossingTimeout x quiet true) s = .next u ∧ u.shut x = true ∧ u.out = s.out ++ .fault f :: l ∧ f.code = 0x0103 ∧
      f.unit = BitVec.ofNat 16 (s.xUnit x) ∧ (∀ p, s.xBit x = some p → p.2 < 16 → (u.stop p.1).xst.getLsbD p.2 = true) ∧
      (∀ z, z ≠ x → u.shut z = s.shut z)) ∧
  (∀ (t quiet : Nat) (s : State), s.running = true → tileOk s.build t = true → s.clientKind t ≠ 0 → 4096 ≤ quiet →
    (s.shut (.cmd t) = false → ∃ u, exec (.crossingTimeout (.cmd t) quiet true) s = .next u ∧ (u.stop t).cmdq = []) ∧
    (s.shut (.msg t) = false → ∃ u, exec (.crossingTimeout (.msg t) quiet true) s = .next u ∧ (u.stop t).msgq = []) ∧
    (s.build = .hfE → s.shut (.mp t) = false → ∃ u, exec (.crossingTimeout (.mp t) quiet true) s = .next u ∧ (u.stop t).mpq = [])) ∧
  (∀ (quiet : Nat) (s : State), s.ready = true → 4096 ≤ quiet → s.shut .control = false →
    ∃ u, exec (.crossingTimeout .control quiet true) s = .next u ∧ u.ctrl = { s.ctrl with line := [], xstat := s.ctrl.xstat ||| 1 }) ∧
  (∀ (sl quiet : Nat) (s : State), s.running = true → sl < nSlices s.build → 4096 ≤ quiet → s.shut (.slice sl) = false →
    ∃ u, exec (.crossingTimeout (.slice sl) quiet true) s = .next u ∧ (u.attach sl).queue = [] ∧ (u.attach sl).busy = false ∧
      (u.attach sl).timeout = true ∧ ∀ p ∈ (u.attach sl).pend, p.ans.isSome = true) ∧
  (∀ (x : XPath) (quiet : Nat) (pend : Bool) (s : State), quiet < 4096 ∨ pend = false →
    ∃ u, exec (.crossingTimeout x quiet pend) s = .next u ∧ u = { s with stops := u.stops, slices := u.slices } ∧
      (∀ t, u.stop t = { s.stop t with alive := (u.stop t).alive }) ∧ (∀ sl, u.attach sl = { s.attach sl with alive := (u.attach sl).alive })) ∧
  (∀ (x : XPath) (run : Nat) (s : State), s.xRuns x = true → s.xOk x = true → 64 ≤ run → (∀ e ∈ s.xings, e.1 = x → e.2.cleared = true) →
    ∃ u, exec (.crossingReopen x run) s = .next u ∧ u.shut x = false ∧ (∀ z, z ≠ x → u.shut z = s.shut z) ∧
      u = { s with xings := u.xings, stops := u.stops, slices := u.slices } ∧
      (∀ t, u.stop t = { s.stop t with alive := (u.stop t).alive }) ∧ (∀ sl, u.attach sl = { s.attach sl with alive := (u.attach sl).alive })) ∧
  (∀ (x : XPath) (run : Nat) (s : State), run < 64 ∨ (∀ e ∈ s.xings, e.1 = x → e.2.cleared = false) →
    ∃ u, exec (.crossingReopen x run) s = .next u ∧ u = { s with stops := u.stops, slices := u.slices } ∧
      (∀ t, u.stop t = { s.stop t with alive := (u.stop t).alive }) ∧ (∀ sl, u.attach sl = { s.attach sl with alive := (u.attach sl).alive }))

/-! ## The C-plane, queues and locks (09) -/

/-- C-plane flits and messages (R271 to R275): a valid header opens a message with its output at the input's buffer, later flits join it
or go straight on where the output has granted it, and the last one frees buffer and output; an invalid header is reported as 0x0503 and
an uncorrectable flit as 0x0502, and the message is discarded; a free output grants a whole message of the stop's own queue. A TIME message
has no other effect than the check of its header. -/
def Obligations.CPlaneCarriesMessages : Prop :=
  (∀ (t port o : Nat) (f : CFlit) (s : State), s.stopRuns t → portOk s.build t port = true → port ≠ 4 → f.head = true →
    (s.stop t).c.buf (2 * port + f.vc.toNat) = default → s.cHdrOk (chdrOfBytes f.data) = true →
    s.cOut t port (chdrOfBytes f.data) = .inr o →
    ∃ u, exec (.cFlitArrive t port f .ok) s = .next u ∧
      (u.stop t).c.buf (2 * port + f.vc.toNat) = { flits := [f], dest := o, granted := false, sent := 0, since := s.ft, disc := false } ∧
      u.stop t = { s.stop t with c := { (s.stop t).c with bufs := (u.stop t).c.bufs } } ∧ u.out = s.out ∧ s.stopOnly u t) ∧
  (∀ (t port : Nat) (f : CFlit) (b : CBuf) (s : State), s.stopRuns t → portOk s.build t port = true → port ≠ 4 → f.head = false →
    (s.stop t).c.buf (2 * port + f.vc.toNat) = b → b.disc = false → b.flits ≠ [] → b.whole = false → b.granted = false →
    ∃ u, exec (.cFlitArrive t port f .ok) s = .next u ∧
      (u.stop t).c.buf (2 * port + f.vc.toNat) = { b with flits := b.flits ++ [f] } ∧
      u.stop t = { s.stop t with c := { (s.stop t).c with bufs := (u.stop t).c.bufs } } ∧ u.out = s.out ∧ s.stopOnly u t) ∧
  (∀ (t port : Nat) (f : CFlit) (b : CBuf) (s : State), s.stopRuns t → portOk s.build t port = true → port ≠ 4 → f.head = false →
    f.tail = true → (s.stop t).c.buf (2 * port + f.vc.toNat) = b → b.disc = false → b.flits ≠ [] → b.whole = false → b.granted = true →
    b.dest < 5 →
    ∃ u, exec (.cFlitArrive t port f .ok) s = .next u ∧ u.out = s.out ++ [.cFlit t b.dest f] ∧
      (u.stop t).c.buf (2 * port + f.vc.toNat) = default ∧ Tab.get none (u.stop t).c.holder b.dest = none) ∧
  (∀ (t port : Nat) (f : CFlit) (b : CBuf) (s : State), s.stopRuns t → portOk s.build t port = true → port ≠ 4 →
    (s.stop t).c.buf (2 * port + f.vc.toNat) = b → b.disc = false → b.granted = false →
    ∃ u, exec (.cFlitArrive t port f .bad) s = .next u ∧ s.reported u (unitId uC (s.phys t)) 0x0502 ∧
      (u.stop t).c.buf (2 * port + f.vc.toNat) = { (default : CBuf) with disc := !f.tail }) ∧
  (∀ (t port : Nat) (f : CFlit) (s : State), s.stopRuns t → portOk s.build t port = true → port ≠ 4 → f.head = true →
    (s.stop t).c.buf (2 * port + f.vc.toNat) = default → s.cHdrOk (chdrOfBytes f.data) = false →
    ∃ u, exec (.cFlitArrive t port f .ok) s = .next u ∧ s.reported u (unitId uC (s.phys t)) 0x0503 ∧
      (u.stop t).c.buf (2 * port + f.vc.toNat) = { (default : CBuf) with disc := !f.tail }) ∧
  (∀ (t o : Nat) (m : CMsg) (s : State), s.stopRuns t → portOk s.build t o = true → o < 4 → s.ringIdle t → (s.stop t).c.bufs = [] →
    (s.stop t).c.cq = [m] → s.cOut t 4 m.hdr = .inr o → Tab.get none (s.stop t).c.holder o = none → s.deadOut t o = false →
    (s.stop t).c.busy.contains (2 * o + cVc m.hdr.mkind) = false → s.heldInto t o = false → s.rowHeld t = false →
    ∃ u, exec (.cMessageForward t o) s = .next u ∧ u.out = s.out ++ (cmsgFlits m).map (fun f => .cFlit t o f) ∧ (u.stop t).c.cq = [] ∧
      (u.stop t).c.busy = (s.stop t).c.busy ++ [2 * o + cVc m.hdr.mkind] ∧ s.stopOnly u t) ∧
  (∀ (t : Nat) (m : CMsg) (s : State), s.stopRuns t → m.hdr.mkind = 0xE → s.cHdrOk m.hdr = true → exec (.timeMessage t m) s = .next s) ∧
  (∀ (t : Nat) (m : CMsg) (s : State), s.stopRuns t → m.hdr.mkind = 0xE → s.cHdrOk m.hdr = false →
    ∃ u, exec (.timeMessage t m) s = .next u ∧ s.reported u (unitId uC (s.phys t)) 0x0503)

/-- The commands of a queue (R279, R281, R287, R298, R587): OPEN takes a CLOSED queue to OPEN, and a ring with it to empty pointers where its
base and size are valid; CLOSE, PAUSE and RESUME change the state alone; RESET closes the queue, moves its epoch, and forgets its entries
and its alive entries; each answers the MSG port 0; a command that does not apply in the queue's state is ERROR and changes no queue; and a write of
STOP_Q_CMD does what the same command from the MSG port does, and answers OK or ERROR. -/
def Obligations.QueuesFollowCommands : Prop :=
  (∀ (t k : Nat) (g : BitVec 4) (s : State), s.msgTakes t 1 g → k < 16 →
    (s.queue t k).state = 1 →
    ∃ u, exec (.queueOpen t k (.msg g)) s = .next u ∧ u.queue t k = { s.queue t k with state := 2 } ∧
      (∀ j, j ≠ k → u.queue t j = s.queue t j) ∧ u.out = s.out ++ [.msgr t g (msgReply 2 0 0 0 0)] ∧
      u.stop t = { s.stop t with q := { (s.stop t).q with qs := (u.stop t).q.qs, turn := some (s.ft, 1) } } ∧ s.stopOnly u t) ∧
  (∀ (t k : Nat) (g : BitVec 4) (s : State), s.msgTakes t 1 g → 16 ≤ k → k < 32 →
    (s.queue t k).state = 1 → (s.queue t k).base.toNat % 64 = 0 → (s.queue t k).size.toNat % 32 = 0 →
    4096 ≤ (s.queue t k).size.toNat → (s.queue t k).size.toNat ≤ 2 ^ 30 →
    ∃ u, exec (.queueOpen t k (.msg g)) s = .next u ∧
      u.queue t k = { s.queue t k with state := 2, wrLap := false, wrOfs := 0, rdLap := false, rdOfs := 0, recs := [] } ∧
      (∀ j, j ≠ k → u.queue t j = s.queue t j) ∧ u.out = s.out ++ [.msgr t g (msgReply 2 0 0 0 0)] ∧ s.stopOnly u t) ∧
  (∀ (t k : Nat) (g : BitVec 4) (s : State), s.msgTakes t 1 g → k < 32 →
    (s.queue t k).state = 2 ∨ (s.queue t k).state = 3 →
    ∃ u, exec (.queueClose t k (.msg g)) s = .next u ∧ u.queue t k = { s.queue t k with state := 1 } ∧
      (∀ j, j ≠ k → u.queue t j = s.queue t j) ∧ u.out = s.out ++ [.msgr t g (msgReply 2 0 0 0 0)] ∧ s.stopOnly u t) ∧
  (∀ (t k : Nat) (g : BitVec 4) (s : State), s.msgTakes t 1 g → k < 32 →
    (s.queue t k).state ≠ 0 →
    ∃ u, exec (.queueReset t k (.msg g)) s = .next u ∧
      u.queue t k = { s.queue t k with state := 1, epoch := (s.queue t k).epoch + 1, entries := [], dropped := false, recs := [] } ∧
      (∀ a, a ∈ (u.stop t).q.alive ↔ a ∈ (s.stop t).q.alive ∧ a.queue ≠ k) ∧ (∀ j, j ≠ k → u.queue t j = s.queue t j) ∧
      u.out = s.out ++ [.msgr t g (msgReply 2 0 0 0 0)] ∧ s.stopOnly u t) ∧
  (∀ (t k : Nat) (g : BitVec 4) (s : State), s.msgTakes t 1 g → k < 32 →
    (s.queue t k).state = 2 →
    ∃ u, exec (.queuePause t k (.msg g)) s = .next u ∧ u.queue t k = { s.queue t k with state := 3 } ∧
      (∀ j, j ≠ k → u.queue t j = s.queue t j) ∧ u.out = s.out ++ [.msgr t g (msgReply 2 0 0 0 0)] ∧ s.stopOnly u t) ∧
  (∀ (t k : Nat) (g : BitVec 4) (s : State), s.msgTakes t 1 g → k < 32 →
    (s.queue t k).state = 3 →
    ∃ u, exec (.queueResume t k (.msg g)) s = .next u ∧ u.queue t k = { s.queue t k with state := 2 } ∧
      (∀ j, j ≠ k → u.queue t j = s.queue t j) ∧ u.out = s.out ++ [.msgr t g (msgReply 2 0 0 0 0)] ∧ s.stopOnly u t) ∧
  (∀ (t k : Nat) (g : BitVec 4) (i : Instr) (l : List Nat) (s : State), s.msgTakes t 1 g →
    (i, l) ∈ [(Instr.queueOpen t k (.msg g), [1, 2]), (.queueClose t k (.msg g), [2, 3]), (.queueReset t k (.msg g), [1, 2, 3]),
      (.queuePause t k (.msg g), [2]), (.queueResume t k (.msg g), [3])] → (s.queue t k).state ∉ l →
    ∃ u, exec i s = .next u ∧ (∀ j, u.queue t j = s.queue t j) ∧ u.out = s.out ++ [.msgr t g (msgReply 2 nError 0 0 0)] ∧ s.stopOnly u t) ∧
  (∀ (t k c w : Nat) (m : CMsg) (i : Instr) (o : Option Queue) (s : State), s.stopRuns t → s.regWrite t 0x600 m →
    s.qFree t 1 = true → k < 32 → regData m &&& 0x71F = BitVec.ofNat 32 (c * 256 + k) →
    (i, c, o) ∈ [(Instr.queueOpen t k (.host w m), 1, (s.queue t k).open (decide (16 ≤ k))),
      (.queueClose t k (.host w m), 2, (s.queue t k).close), (.queueReset t k (.host w m), 3, (s.queue t k).reset),
      (.queuePause t k (.host w m), 4, (s.queue t k).pause), (.queueResume t k (.host w m), 5, (s.queue t k).resume)] →
    ∃ u, exec i s = .next u ∧ u.queue t k = o.getD (s.queue t k) ∧ (∀ j, j ≠ k → u.queue t j = s.queue t j) ∧
      s.regAnswered u t m (if o.isSome then rOk else rError) 0 ∧ u.out = s.out ∧ s.stopOnly u t)

/-- Register queues (R280 to R286, R303, R586, R587): a QSEND to an OPEN queue with room is stored and answered 0 with the room that is left;
a CLOSED queue, a wrong epoch and a full queue are answered with their codes and store nothing; a repeat of the sender's last is answered 0
and stored once; a pop returns the front entry and takes it out; a dispatch record leaves with the queue's fill and handler; an arrival
that finds the block busy in its fc waits; a client's QSEND takes the next C-plane MSEQ where nothing waits before it, a QANS with code 0 ends
it, and a NOTREADY before the eighth in a row backs it off. -/
def Obligations.RegisterQueuesAnswer : Prop :=
  (∀ (t : Nat) (m : CMsg) (q : Queue) (s : State), s.qsendTakes t m q →
    q.state = 2 → m.hdr.epoch = q.epoch → q.entries.length < q.depth →
    ((s.stop t).q.aliveOf m.hdr.snode.toNat m.hdr.stile.toNat m.hdr.index.toNat).1 = none →
    ∃ u, exec (.qsendArrive t m) s = .next u ∧
      u.queue t m.hdr.index.toNat = { q with entries := q.entries ++ [entryBytes m.hdr 0 m.data] } ∧
      s.cAnswers u t m.hdr 2 (BitVec.ofNat 32 ((q.depth - (q.entries.length + 1)) * 16)) ∧
      (u.stop t).q.disp = (s.stop t).q.disp ++ (if q.disp then [m.hdr.index.toNat] else []) ∧
      (u.stop t).q.alive.getLast? = some { snode := m.hdr.snode.toNat, stile := m.hdr.stile.toNat, queue := m.hdr.index.toNat, last := m.hdr.alive } ∧
      (∀ j, j ≠ m.hdr.index.toNat → u.queue t j = s.queue t j) ∧ u.out = s.out ∧ s.stopOnly u t) ∧
  (∀ (t : Nat) (m : CMsg) (q : Queue) (s : State), s.qsendTakes t m q →
    (q.state = 1 ∨ (q.state = 2 ∧ m.hdr.epoch ≠ q.epoch)) →
    ∃ u, exec (.qsendArrive t m) s = .next u ∧ u.queue t m.hdr.index.toNat = q ∧
      s.cAnswers u t m.hdr 2 (BitVec.ofNat 32 ((q.depth - q.entries.length) * 16 + if q.state = 1 then nClosed else nStale)) ∧
      (u.stop t).q = { (s.stop t).q with refused := inc8 (s.stop t).q.refused, turn := some (s.ft, 3) } ∧ s.stopOnly u t) ∧
  (∀ (t : Nat) (m : CMsg) (q : Queue) (s : State), s.qsendTakes t m q →
    q.state = 2 → m.hdr.epoch = q.epoch → q.depth ≤ q.entries.length →
    ((s.stop t).q.aliveOf m.hdr.snode.toNat m.hdr.stile.toNat m.hdr.index.toNat).1 = none →
    ∃ u, exec (.qsendArrive t m) s = .next u ∧ u.queue t m.hdr.index.toNat = q ∧
      s.cAnswers u t m.hdr 2 (BitVec.ofNat 32 ((q.depth - q.entries.length) * 16 + nNotReady)) ∧
      (u.stop t).q = { (s.stop t).q with notready := inc8 (s.stop t).q.notready, turn := some (s.ft, 3) } ∧ u.ctrl.qcEvt.getLsbD 0 = true) ∧
  (∀ (t : Nat) (m : CMsg) (q : Queue) (e : Alive) (s : State), s.qsendTakes t m q →
    q.state = 2 → m.hdr.epoch = q.epoch →
    ((s.stop t).q.aliveOf m.hdr.snode.toNat m.hdr.stile.toNat m.hdr.index.toNat).1 = some e → e.last = m.hdr.alive →
    ∃ u, exec (.qsendArrive t m) s = .next u ∧ u.queue t m.hdr.index.toNat = q ∧
      s.cAnswers u t m.hdr 2 (BitVec.ofNat 32 ((q.depth - q.entries.length) * 16)) ∧
      (u.stop t).q.repeats = inc8 (s.stop t).q.repeats ∧ u.out = s.out ∧ s.stopOnly u t) ∧
  (∀ (t : Nat) (m : CMsg) (s : State), s.stopRuns t → m.hdr.mkind = 1 → s.qFree t 3 = false ∨ (s.stop t).q.arrivals = true →
    ∃ u, exec (.qsendArrive t m) s = .next u ∧
      u.stop t = { s.stop t with q := { (s.stop t).q with wait := (s.stop t).q.wait ++ [.qsendArrive t m] } } ∧ u.out = s.out ∧
      s.stopOnly u t) ∧
  (∀ (t k : Nat) (g : BitVec 4) (e : List Byte) (es : List (List Byte)) (s : State), s.msgTakes t 2 g → k < 16 →
    (s.queue t k).entries = e :: es → (s.queue t k).dropped = false →
    ∃ u, exec (.queuePop t k g false 0) s = .next u ∧ u.queue t k = { s.queue t k with entries := es } ∧ u.out = s.out ++ [.msgr t g e] ∧
      (∀ j, j ≠ k → u.queue t j = s.queue t j) ∧ s.stopOnly u t) ∧
  (∀ (t k : Nat) (g : BitVec 4) (e : List Byte) (es : List (List Byte)) (s : State), s.msgTakes t 2 g → k < 16 →
    (s.queue t k).entries = e :: es → (s.queue t k).dropped = false →
    ∃ u f, exec (.queuePop t k g true 0) s = .next u ∧ u.queue t k = { s.queue t k with entries := es } ∧
      u.out = s.out ++ [.fault f, .msgr t g e] ∧ f.code = 0x0505 ∧ (∀ j, j ≠ k → u.queue t j = s.queue t j)) ∧
  (∀ (t k : Nat) (g : BitVec 4) (fixed : Bool) (bad : Nat) (s : State), s.msgTakes t 2 g → k < 16 → (s.queue t k).entries = [] →
    ∃ u, exec (.queuePop t k g fixed bad) s = .next u ∧ (∀ j, u.queue t j = s.queue t j) ∧
      u.out = s.out ++ [.msgr t g (List.replicate 64 0)] ∧ s.stopOnly u t) ∧
  (∀ (t k : Nat) (ks : List Nat) (s : State), s.stopRuns t → s.shut (.dsp t) = false → (s.stop t).q.disp = k :: ks →
    ∃ u, exec (.dispatchSend t true) s = .next u ∧
      u.out = s.out ++ [.dsp t (BitVec.ofNat 8 (min 255 (if k < 16 then (s.queue t k).entries.length else (s.queue t k).recs.length)) ++
        (0 : BitVec 3) ++ BitVec.ofNat 5 k ++ (s.queue t k).handler)] ∧
      (u.stop t).q = { (s.stop t).q with disp := ks } ∧ s.stopOnly u t) ∧
  (∀ (t n v : Nat) (r : MsgReq) (p : PanRec) (s : State), s.msgTakes t 0 (mqTag r.hdr) → mqOp r.hdr = 5 → mqQueue r.hdr < 16 →
    1 ≤ (r.hdr.extractLsb' 72 6).toNat → (r.hdr.extractLsb' 72 6).toNat ≤ 48 → s.tilePan t = some p → p.rank (mqRank r.hdr) = some (n, v) →
    (s.stop t).cr.reqs = [] → (∀ e ∈ (s.stop t).cr.issuedAt, e.1 ≠ (s.stop t).si.cseq.toNat) → s.draining t = false →
    ∃ u x, exec (.msgQsend t r) s = .next u ∧ (u.stop t).cr.reqs = [x] ∧ x.op = 5 ∧ x.tag = some (mqTag r.hdr) ∧ x.issued = true ∧
      s.cSends u t x.msg ∧ x.msg.hdr.mkind = 1 ∧ x.msg.hdr.mseq = (s.stop t).si.cseq ∧ x.msg.hdr.index.toNat = mqQueue r.hdr ∧
      x.msg.hdr.dnode = BitVec.ofNat 12 n ∧ x.msg.hdr.dtile = BitVec.ofNat 9 v ∧
      x.msg.data = slice r.payload 0 (r.hdr.extractLsb' 72 6).toNat ∧ (u.stop t).si.cseq = (s.stop t).si.cseq + 1 ∧ u.out = s.out ∧
      s.stopOnly u t) ∧
  (∀ (t : Nat) (m : CMsg) (r : CReq) (g : BitVec 4) (s : State), s.stopRuns t → m.hdr.mkind = 2 → (s.stop t).cr.reqs = [r] → r.op = 5 →
    r.answers m = true → m.hdr.arg.extractLsb' 0 4 = 0 → r.tag = some g → s.shut (.msg t) = false →
    ∃ u, exec (.qansReceived t m) s = .next u ∧ (u.stop t).cr.reqs = [] ∧
      u.out = s.out ++ [.msgr t g (msgReply 5 0 (m.hdr.arg.extractLsb' 4 8).toNat 0 0)] ∧ s.stopOnly u t) ∧
  (∀ (t : Nat) (m : CMsg) (r : CReq) (s : State), s.stopRuns t → m.hdr.mkind = 2 → (s.stop t).cr.reqs = [r] → r.op = 5 →
    r.answers m = true → (m.hdr.arg.extractLsb' 0 4).toNat = nNotReady → r.notReady < 7 →
    ∃ u x, exec (.qansReceived t m) s = .next u ∧ (u.stop t).cr.reqs = [x] ∧ x.notReady = r.notReady + 1 ∧
      x.backoff = some (s.ft + min 65536 (32 * 2 ^ r.notReady)) ∧ x.deadline = none ∧ u.out = s.out ∧ s.stopOnly u t)

/-- Ring queues (R280, R287 to R291, R301): a RINGMSG that fits is written past WR, its record's word 0 held back; when the write is complete
word 0 goes out, WR passes the record, and the sender hears ACK; one that does not fit is answered NOTREADY; a closed ring takes a new base
and size, from the MSG port or from its registers, and RD moves only along the path to WR. -/
def Obligations.RingQueues : Prop :=
  (∀ (t k : Nat) (p : Pkt) (q : Queue) (s : State), s.stopRuns t → p.hdr.type = tRing → s.siTakes t p.hdr →
    (s.stop t).si.keyState (keyOf p.hdr) s.ft = none → (p.hdr.addr.extractLsb' 26 5).toNat = k → s.queue t k = q → q.writes = [] →
    q.state = 2 → ringAddrOk p.hdr.addr = true → (p.hdr.addr.extractLsb' 40 4).toNat = s.chipPos →
    tileId (p.hdr.addr.extractLsb' 35 5).toNat (p.hdr.addr.extractLsb' 31 4).toNat = t → countOk p.hdr = true → p.hdr.qepoch = q.epoch →
    q.wrLap = q.rdLap → q.rdOfs ≤ q.wrOfs → q.wrOfs + 32 + ceilDiv p.hdr.plen.toNat 32 * 32 ≤ q.size.toNat →
    ∃ u, exec (.ringmsgArrive t p) s = .next u ∧
      u.out = s.out ++ [.tpWrite t (q.base.toNat + (q.wrOfs + 32)) (slice (p.data.take p.hdr.plen.toNat) 0 (ceilDiv p.hdr.plen.toNat 32 * 32)),
        .tpWrite t (q.base.toNat + (q.wrOfs + 8)) (ringWords p.hdr)] ∧
      u.queue t k = { q with writes := [{ hdr := p.hdr, ofs := q.wrOfs, lap := q.wrLap, pad := none }] } ∧
      (u.stop t).si = (s.stop t).si ∧ s.stopOnly u t) ∧
  (∀ (t k : Nat) (w : RingWrite) (ws : List RingWrite) (q : Queue) (s : State), s.stopRuns t → s.queue t k = q → q.writes = w :: ws →
    w.pad = none → w.ofs + 32 + ceilDiv w.hdr.plen.toNat 32 * 32 < q.size.toNat →
    ∃ u, exec (.ringWriteComplete t k) s = .next u ∧
      u.out = s.out ++ [.tpWrite t (q.base.toNat + w.ofs) (bytesOf 8 (ringWord0 w.hdr.mseq.toNat q.epoch w.hdr.plen.toNat w.lap 1))] ∧
      u.queue t k = { q with
        writes := ws, wrLap := w.lap, wrOfs := w.ofs + 32 + ceilDiv w.hdr.plen.toNat 32 * 32, recs := q.recs ++ [(w.lap, w.ofs)] } ∧
      s.answersTo u t w.hdr 0 true ∧ (u.stop t).q.disp = (s.stop t).q.disp ++ (if q.disp then [k] else []) ∧ s.stopOnly u t) ∧
  (∀ (t k : Nat) (p : Pkt) (q : Queue) (s : State), s.stopRuns t → p.hdr.type = tRing → s.siTakes t p.hdr →
    (s.stop t).si.keyState (keyOf p.hdr) s.ft = none → (p.hdr.addr.extractLsb' 26 5).toNat = k → s.queue t k = q → q.writes = [] →
    q.state = 2 → ringAddrOk p.hdr.addr = true → (p.hdr.addr.extractLsb' 40 4).toNat = s.chipPos →
    tileId (p.hdr.addr.extractLsb' 35 5).toNat (p.hdr.addr.extractLsb' 31 4).toNat = t → countOk p.hdr = true → p.hdr.qepoch = q.epoch →
    q.place p.hdr.plen.toNat = none →
    ∃ u, exec (.ringmsgArrive t p) s = .next u ∧ s.answersTo u t p.hdr nNotReady true ∧ u.queue t k = q ∧ u.out = s.out ∧
      (u.stop t).q.notready = inc8 (s.stop t).q.notready) ∧
  (∀ (t k : Nat) (g : BitVec 4) (b : BitVec 40) (n : BitVec 31) (s : State), s.msgTakes t 0 g →
    16 ≤ k → k < 32 → (s.queue t k).state = 1 →
    ∃ u, exec (.ringSet t k (.msg g) (.both b n)) s = .next u ∧ u.queue t k = { s.queue t k with base := b, size := n } ∧
      u.out = s.out ++ [.msgr t g (msgReply 3 0 0 0 0)] ∧ (∀ j, j ≠ k → u.queue t j = s.queue t j) ∧ s.stopOnly u t) ∧
  (∀ (t k w : Nat) (m : CMsg) (f : RingField) (s : State), s.stopRuns t → s.regWrite t (ringReg f).1 m → (ringReg f).2 = regData m →
    (s.stop t).q.sel = k → 16 ≤ k → k < 32 → (s.queue t k).state = 1 →
    ∃ u, exec (.ringSet t k (.host w m) f) s = .next u ∧ u.queue t k = ringApply f (s.queue t k) ∧ s.regAnswered u t m rOk 0 ∧
      u.out = s.out ∧ (∀ j, j ≠ k → u.queue t j = s.queue t j) ∧ s.stopOnly u t) ∧
  (∀ (t k ofs : Nat) (g : BitVec 4) (q : Queue) (s : State), s.msgTakes t 0 g →
    16 ≤ k → k < 32 → s.queue t k = q → q.rdLap = q.wrLap → q.rdOfs ≤ ofs → ofs ≤ q.wrOfs → ofs < q.size.toNat → ofs % 32 = 0 →
    ∃ u, exec (.ringRdWrite t k (.msg g) q.rdLap ofs) s = .next u ∧ (u.queue t k).rdOfs = ofs ∧ (u.queue t k).rdLap = q.rdLap ∧
      (u.queue t k).wrOfs = q.wrOfs ∧ u.out = s.out ++ [.msgr t g (msgReply 4 0 0 0 0)] ∧ s.stopOnly u t) ∧
  (∀ (t k ofs : Nat) (g : BitVec 4) (q : Queue) (s : State), s.msgTakes t 0 g →
    16 ≤ k → k < 32 → s.queue t k = q → q.rdLap = q.wrLap → q.rdOfs ≤ q.wrOfs → q.wrOfs < ofs →
    ∃ u, exec (.ringRdWrite t k (.msg g) q.rdLap ofs) s = .next u ∧ u.stops = s.stops ∧ u.out = s.out ++ [.msgr t g (msgReply 4 nError 0 0 0)]) ∧
  (∀ (t k ofs w : Nat) (m : CMsg) (q : Queue) (s : State), s.stopRuns t → s.regWrite t 0x61C m → (s.stop t).q.sel = k → 16 ≤ k → k < 32 →
    s.queue t k = q → regData m = BitVec.ofBool q.rdLap ++ BitVec.ofNat 31 ofs → q.rdLap = q.wrLap → q.rdOfs ≤ ofs → ofs ≤ q.wrOfs →
    ofs < q.size.toNat → ofs % 32 = 0 →
    ∃ u, exec (.ringRdWrite t k (.host w m) q.rdLap ofs) s = .next u ∧ (u.queue t k).rdOfs = ofs ∧ (u.queue t k).rdLap = q.rdLap ∧
      (u.queue t k).wrOfs = q.wrOfs ∧ s.regAnswered u t m rOk 0 ∧ u.out = s.out ∧ s.stopOnly u t)

/-- Locks (R293 to R297, R586, R587): a FREE lock is granted to the sender, an ORPHANED one with the warning, and one that another holds is
LOST; a release by the owner with its generation frees the lock or passes the warning on, and any other is NOTOWNER; TILE_LOST of the own
die orphans a table's only lock, where its owner is the one named, under its next generation, and one of another die is sent on to every stop.
A client's acquire and release are sent with the next MSEQ where nothing waits before them; a grant completes the acquire, LOST makes it wait
and send again, and its limit ends it LOST. -/
def Obligations.LocksDecide : Prop :=
  (∀ (t : Nat) (m : CMsg) (l : Lock) (s : State), s.lockTakes t m 3 l → (l.state = 0 ∨ l.state = 2) →
    ∃ u, exec (.lockAcqArrive t m) s = .next u ∧
      u.lock t m.hdr.index.toNat = { l with
        state := 1, node := m.hdr.snode.toNat, tile := m.hdr.stile.toNat, rank := m.hdr.arg.extractLsb' 0 20, orph := decide (l.state = 2) } ∧
      s.cAnswers u t m.hdr 5 (l.gen ++ (0 : BitVec 8) ++ (if l.state = 2 then (1 : BitVec 4) else 0) ++ (0 : BitVec 4)) ∧
      (∀ j, j ≠ m.hdr.index.toNat → u.lock t j = s.lock t j) ∧ u.out = s.out ∧ s.stopOnly u t) ∧
  (∀ (t : Nat) (m : CMsg) (l : Lock) (s : State), s.lockTakes t m 3 l → l.state = 1 →
    ∃ u, exec (.lockAcqArrive t m) s = .next u ∧ (∀ j, u.lock t j = s.lock t j) ∧
      s.cAnswers u t m.hdr 5 (l.gen ++ (0 : BitVec 8) ++
        (if l.node = m.hdr.snode.toNat ∧ l.tile = m.hdr.stile.toNat then (if l.orph then (1 : BitVec 4) else 0) else 2) ++ (0 : BitVec 4)) ∧
      u.out = s.out ∧ s.stopOnly u t) ∧
  (∀ (t : Nat) (m : CMsg) (l : Lock) (s : State), s.lockTakes t m 4 l → l.state = 1 →
    l.node = m.hdr.snode.toNat → l.tile = m.hdr.stile.toNat → l.gen = m.hdr.arg.extractLsb' 0 16 →
    ∃ u, exec (.lockRelArrive t m) s = .next u ∧ (u.lock t m.hdr.index.toNat).state = (if m.hdr.arg.getLsbD 16 then 2 else 0) ∧
      (u.lock t m.hdr.index.toNat).last = some (l.node, l.tile, l.gen) ∧ (u.lock t m.hdr.index.toNat).gen = l.gen ∧
      s.cAnswers u t m.hdr 5 (l.gen ++ (0 : BitVec 8) ++ (3 : BitVec 4) ++ (0 : BitVec 4)) ∧
      (∀ j, j ≠ m.hdr.index.toNat → u.lock t j = s.lock t j) ∧ u.out = s.out ∧ s.stopOnly u t) ∧
  (∀ (t : Nat) (m : CMsg) (l : Lock) (s : State), s.lockTakes t m 4 l → l.state = 1 →
    (l.node ≠ m.hdr.snode.toNat ∨ l.tile ≠ m.hdr.stile.toNat ∨ l.gen ≠ m.hdr.arg.extractLsb' 0 16) →
    ∃ u, exec (.lockRelArrive t m) s = .next u ∧ (∀ j, u.lock t j = s.lock t j) ∧
      s.cAnswers u t m.hdr 5 (l.gen ++ (0 : BitVec 8) ++ (4 : BitVec 4) ++ (0 : BitVec 4)) ∧ u.out = s.out ∧ s.stopOnly u t) ∧
  (∀ (t k : Nat) (m : CMsg) (l : Lock) (s : State), s.stopRuns t → m.hdr.mkind = 8 → m.hdr.snode.toNat = s.node →
    (s.stop t).lk.locks = [(k, l)] → l.state = 1 → l.node = (m.hdr.arg.extractLsb' 9 12).toNat →
    ((m.hdr.arg.extractLsb' 0 9).toNat = 0x1FF ∨ (m.hdr.arg.extractLsb' 0 9).toNat = l.tile) →
    ∃ u, exec (.tileLostReceived t m) s = .next u ∧ u.lock t k = { l with state := 2, gen := l.gen + 1 } ∧ u.out = s.out ∧
      u = { s with stops := u.stops, ctrl := u.ctrl } ∧ s.stopsBut u t) ∧
  (∀ (t : Nat) (m : CMsg) (s : State), s.stopRuns t → m.hdr.mkind = 8 → m.hdr.snode.toNat ≠ s.node →
    ∃ u, exec (.tileLostReceived t m) s = .next u ∧ u.stop t = { s.stop t with c := { (s.stop t).c with
        cq := (s.stop t).c.cq ++ s.tiles.map fun v =>
          s.blockMsg t 8 s.node v (lostArg (m.hdr.arg.extractLsb' 9 12).toNat (m.hdr.arg.extractLsb' 0 9).toNat) [] } } ∧
      u.out = s.out ∧ s.stopOnly u t) ∧
  (∀ (t n v : Nat) (r : MsgReq) (p : PanRec) (s : State), s.msgTakes t 0 (mqTag r.hdr) → mqOp r.hdr = 6 →
    (r.hdr.extractLsb' 56 16) ≠ 0 → s.tilePan t = some p → p.rank (mqRank r.hdr) = some (n, v) → (s.stop t).cr.reqs = [] →
    (∀ e ∈ (s.stop t).cr.issuedAt, e.1 ≠ (s.stop t).si.cseq.toNat) → s.draining t = false →
    ∃ u x, exec (.msgLockAcq t r) s = .next u ∧ (u.stop t).cr.reqs = [x] ∧ x.op = 6 ∧ x.tag = some (mqTag r.hdr) ∧ x.issued = true ∧
      x.limit = some (s.ft + (r.hdr.extractLsb' 56 16).toNat * 2000) ∧ s.cSends u t x.msg ∧ x.msg.hdr.mkind = 3 ∧
      x.msg.hdr.mseq = (s.stop t).si.cseq ∧ x.msg.hdr.index = mqLock r.hdr ∧ x.msg.hdr.dtile = BitVec.ofNat 9 v ∧ u.out = s.out ∧
      s.stopOnly u t) ∧
  (∀ (t n v : Nat) (r : MsgReq) (p : PanRec) (s : State), s.msgTakes t 0 (mqTag r.hdr) → mqOp r.hdr = 7 →
    s.tilePan t = some p → p.rank (mqRank r.hdr) = some (n, v) → (s.stop t).cr.reqs = [] →
    (∀ e ∈ (s.stop t).cr.issuedAt, e.1 ≠ (s.stop t).si.cseq.toNat) →
    ∃ u x, exec (.msgLockRel t r) s = .next u ∧ (u.stop t).cr.reqs = [x] ∧ x.op = 7 ∧ x.issued = true ∧ s.cSends u t x.msg ∧
      x.msg.hdr.mkind = 4 ∧ x.msg.hdr.index = mqLock r.hdr ∧ x.msg.hdr.arg.extractLsb' 0 16 = r.hdr.extractLsb' 40 16 ∧ u.out = s.out ∧
      s.stopOnly u t) ∧
  (∀ (t : Nat) (m : CMsg) (r : CReq) (g : BitVec 4) (s : State), s.stopRuns t → m.hdr.mkind = 5 → (s.stop t).cr.reqs = [r] → r.op = 6 →
    r.answers m = true → m.hdr.arg.extractLsb' 0 4 = 0 → (m.hdr.arg.extractLsb' 4 4).toNat ≤ 1 → r.tag = some g →
    s.shut (.msg t) = false →
    ∃ u, exec (.lockAnsReceived t m) s = .next u ∧ (u.stop t).cr.reqs = [] ∧
      (u.stop t).cr.held = (s.stop t).cr.held ++
        [{ lock := m.hdr.index, node := m.hdr.snode, tile := m.hdr.stile, gen := m.hdr.arg.extractLsb' 16 16 }] ∧
      u.out = s.out ++ [.msgr t g (msgReply 6 0 0 (m.hdr.arg.extractLsb' 4 4).toNat (m.hdr.arg.extractLsb' 16 16))] ∧ s.stopOnly u t) ∧
  (∀ (t : Nat) (m : CMsg) (r : CReq) (s : State), s.stopRuns t → m.hdr.mkind = 5 → (s.stop t).cr.reqs = [r] → r.op = 6 →
    r.answers m = true → m.hdr.arg.extractLsb' 0 4 = 0 → m.hdr.arg.extractLsb' 4 4 = 2 →
    ∃ u x, exec (.lockAnsReceived t m) s = .next u ∧ (u.stop t).cr.reqs = [x] ∧ x.losts = r.losts + 1 ∧ x.issued = false ∧
      x.lostDue = some (s.ft + min 65536 (32 * 2 ^ r.losts)) ∧ u.out = s.out ∧ s.stopOnly u t) ∧
  (∀ (t tag d : Nat) (r : CReq) (s : State), s.stopRuns t → s.acqOf t tag = some r → (s.stop t).cr.reqs = [r] → r.issued = false →
    r.lostDue = some d → d ≤ s.ft → (∀ e ∈ (s.stop t).cr.issuedAt, e.1 ≠ (s.stop t).si.cseq.toNat) → s.draining t = false →
    ∃ u x, exec (.lockBackoffExpire t tag) s = .next u ∧ (u.stop t).cr.reqs = [x] ∧ x.issued = true ∧ x.lostDue = none ∧
      x.msg.hdr.mseq = (s.stop t).si.cseq ∧ (u.stop t).si.cseq = (s.stop t).si.cseq + 1 ∧ u.out = s.out ∧ s.stopOnly u t) ∧
  (∀ (t tag d : Nat) (r : CReq) (g : BitVec 4) (s : State), s.stopRuns t → s.acqOf t tag = some r → (s.stop t).cr.reqs = [r] →
    r.limit = some d → d ≤ s.ft → r.tag = some g → s.shut (.msg t) = false →
    ∃ u, exec (.lockLimitExpire t tag) s = .next u ∧ (u.stop t).cr.reqs = [] ∧ u.out = s.out ++ [.msgr t g (msgReply 6 0 0 2 r.gen)] ∧
      s.stopOnly u t)

/-! ## The memory plane (10) -/

/-- The interleave (R311): the formula places every granule in one of the 96 slices, and no two granules in one row of one slice; a request
goes to its granule's slice, and the slice port presents the row and the byte in it. -/
def Obligations.InterleaveIsOneToOne : Prop :=
  (∀ g : Nat, (granuleMap g).1 < 96) ∧ (∀ g h : Nat, granuleMap g = granuleMap h → g = h) ∧
  (∀ g : Nat, granuleMap g = ((g ^^^ (g >>> 7) ^^^ (g >>> 14)) % 96, (g ^^^ (g >>> 7) ^^^ (g >>> 14)) / 96)) ∧
  (∀ (t a n : Nat) (o : MOrig) (k : MKind) (d : List Byte) (s : State), s.img.act.watch = [] →
    ∃ r : MReq, ((s.mpEnter t o k a n d).stop t).mp.line = (s.stop t).mp.line ++ [.req r] ∧
      (r.slice, r.row) = granuleMap (a % 2 ^ 40 / 256) ∧ r.lo = a % 256) ∧
  (∀ (sl : Nat) (m : MMsg) (s : State), s.running = true → sl < nSlices s.build → s.shut (.slice sl) = false → (s.attach sl).busy = false →
    (s.attach sl).queue = [m] → (s.attach sl).pend = [] →
    ∃ u d, exec (.sliceRequestPresent sl) s = .next u ∧
      u.out = s.out ++ [.slq sl (decide (m.kind = .write)) (m.row * 256 + m.lo) m.len 0 d])

/-- Requests of the client (R21, R309 to R311, R314, R320, R321, R324, R325, R581): a READ, a WRITE or an ATOMIC whose shape and window allow
it is issued by an idle M-port to its granule's slice, under tag 0 and with 20 µs to be answered; one that does not fit the memory, or that
the windows refuse, is answered BOUNDS, and the second is counted; a FENCE of 0 bytes waits in line, one of another length is answered BOUNDS,
and the one in front is answered once nothing is outstanding; and an HF-S build has no M-port. -/
def Obligations.ClientsReachMemory : Prop :=
  (∀ (t : Nat) (r : MpReq) (k : MKind) (i : Instr) (p : PanRec) (s : State),
    (i, k) ∈ [(Instr.mpRead t r, MKind.read), (.mpWrite t r, .write), (.atomicAdd t r, .add), (.atomicCas t r, .cas), (.atomicXchg t r, .xchg)] →
    s.mpTakes t → s.mpShape k r = true → s.tilePan t = some p →
    p.allows r.addr.toNat r.len (kindRight k) = true → s.img.act.watch = [] → (s.stop t).mp.reqs = [] → s.rowHeld t = false →
    (s.stop t).mFree 4 (subCh t (granuleMap (r.addr.toNat % 2 ^ 40 / 256)).1) false = true →
    ∃ u x, exec i s = .next u ∧
      u.out = s.out ++ [.mMsg t 4 (subCh t (granuleMap (r.addr.toNat % 2 ^ 40 / 256)).1)
        { ret := false, kind := k, tile := t, slice := (granuleMap (r.addr.toNat % 2 ^ 40 / 256)).1, tag := 0
          row := (granuleMap (r.addr.toNat % 2 ^ 40 / 256)).2, lo := r.addr.toNat % 256, len := r.len
          guaranteed := decide (r.len ≤ min 4096 ((s.stop t).mp.bal + 50 * (s.ft - (s.stop t).mp.balAt))), status := 0
          data := mpBytes k r }] ∧
      (u.stop t).mp.reqs = [x] ∧ x.orig = .mp r.tag ∧ x.tag = 0 ∧ x.deadline = s.ft + 40000 ∧ (u.stop t).mp.line = [] ∧ s.stopOnly u t) ∧
  (∀ (t : Nat) (r : MpReq) (k : MKind) (i : Instr) (s : State),
    (i, k) ∈ [(Instr.mpRead t r, MKind.read), (.mpWrite t r, .write), (.atomicAdd t r, .add), (.atomicCas t r, .cas), (.atomicXchg t r, .xchg)] →
    s.mpTakes t → s.mpShape k r = false →
    ∃ u, exec i s = .next u ∧ u = { s with out := s.out ++ [.mpr t r.tag 2 []] }) ∧
  (∀ (t : Nat) (r : MpReq) (k : MKind) (i : Instr) (p : PanRec) (s : State),
    (i, k) ∈ [(Instr.mpRead t r, MKind.read), (.mpWrite t r, .write), (.atomicAdd t r, .add), (.atomicCas t r, .cas), (.atomicXchg t r, .xchg)] →
    s.mpTakes t → s.mpShape k r = true → s.tilePan t = some p → p.allows r.addr.toNat r.len (kindRight k) = false →
    ∃ u, exec i s = .next u ∧ u.out = s.out ++ [.mpr t r.tag 2 []] ∧
      u.stop t = { s.stop t with mp := { (s.stop t).mp with winviol := inc8 (s.stop t).mp.winviol } } ∧ s.stopOnly u t) ∧
  (∀ (t : Nat) (g : BitVec 8) (s : State), s.mpTakes t →
    ∃ u, exec (.mpFence t g 0) s = .next u ∧ u.out = s.out ∧
      u.stop t = { s.stop t with mp := { (s.stop t).mp with line := (s.stop t).mp.line ++ [.fence g] } } ∧ s.stopOnly u t) ∧
  (∀ (t : Nat) (g : BitVec 8) (n : BitVec 9) (s : State), s.mpTakes t → n ≠ 0 →
    ∃ u, exec (.mpFence t g n) s = .next u ∧ u = { s with out := s.out ++ [.mpr t g 2 []] }) ∧
  (∀ (t : Nat) (g : BitVec 8) (s : State), s.stopRuns t → s.build = .hfE → s.shut (.mp t) = false → (s.stop t).mp.line = [.fence g] →
    (∀ x ∈ (s.stop t).mp.reqs, x.lost.isSome = true) →
    ∃ u, exec (.fenceComplete t) s = .next u ∧ u.out = s.out ++ [.mpr t g 0 []] ∧
      u.stop t = { s.stop t with mp := { (s.stop t).mp with line := [] } } ∧ s.stopOnly u t) ∧
  (∀ (t : Nat) (x : MReq) (l : List MWait) (g : BitVec 8) (s : State), s.stopRuns t → s.build = .hfE → (s.stop t).mp.line = .fence g :: l →
    x ∈ (s.stop t).mp.reqs → x.lost = none → exec (.fenceComplete t) s = .next s) ∧
  (∀ (t : Nat) (r : MpReq) (g : BitVec 8) (n : BitVec 9) (i : Instr) (s : State), s.build = .hfS →
    i ∈ [Instr.mpRead t r, .mpWrite t r, .atomicAdd t r, .atomicCas t r, .atomicXchg t r, .mpFence t g n, .fenceComplete t] →
    exec i s = .fault (.noMPlane t))

/-- The plane between (R307 to R310, R313, R315, R325): at a router without another message, one of a single flit goes on by the output that
its way gives, joins its slice's queue, or, as a READ's return, answers the client's request and frees its tag; an uncorrectable flit is
counted and reported and its message goes no further; a request unanswered for 20 µs is answered ERROR and holds its tag 1 µs more. -/
def Obligations.PlaneCarriesRequests : Prop :=
  (∀ (t port sub p : Nat) (m : MMsg) (s : State), s.mTakes t port → mFlits m = 1 → s.mOut t m = .out p → p < 4 → s.mGrants t p sub m →
    ∃ u, exec (.mFlitArrive t port sub m 0 .ok) s = .next u ∧ u.out = s.out ++ [.mMsg t p sub m] ∧ (u.stop t).mheld = [] ∧
      u = { s with stops := u.stops, out := u.out } ∧ (∀ j, j ≠ t → neighbour s.build t p ≠ some j → u.stop j = s.stop j)) ∧
  (∀ (t port sub : Nat) (m : MMsg) (s : State), s.mTakes t port → mFlits m = 1 → s.mOut t m = .out 4 → m.ret = false →
    s.mGrants t (5 + m.slice % 2) sub m → s.shut (.slice m.slice) = false →
    ∃ u, exec (.mFlitArrive t port sub m 0 .ok) s = .next u ∧ u.attach m.slice = { s.attach m.slice with queue := (s.attach m.slice).queue ++ [m] } ∧
      (∀ j, j ≠ m.slice → u.attach j = s.attach j) ∧ u.out = s.out ∧ u = { s with slices := u.slices, stops := u.stops } ∧ s.stopsBut u t) ∧
  (∀ (t port sub : Nat) (m : MMsg) (r : MReq) (g : BitVec 8) (s : State), s.mTakes t port → mFlits m = 1 → s.mOut t m = .out 4 → m.ret = true →
    s.mGrants t 4 sub m → (s.stop t).mp.reqs = [r] → r.tag = m.tag.toNat → r.lost = none → r.orig = .mp g → r.kind = .read → m.status = 0 →
    (s.stop t).mp.line = [] → s.shut (.mp t) = false →
    ∃ u, exec (.mFlitArrive t port sub m 0 .ok) s = .next u ∧ u.out = s.out ++ [.mpr t g 0 (List.replicate r.lo 0 ++ m.data)] ∧
      (u.stop t).mp.reqs = [] ∧ s.stopOnly u t) ∧
  (∀ (t port sub : Nat) (m : MMsg) (s : State), s.mTakes t port → mFlits m = 1 →
    ∃ u, exec (.mFlitArrive t port sub m 0 .bad) s = .next u ∧ s.reported u (unitId uM (s.phys t)) 0x0602 ∧
      u.ctrl = { s.ctrl with memDropped := inc8 s.ctrl.memDropped } ∧ u.slices = s.slices ∧ (u.stop t).mheld = []) ∧
  (∀ (t tag : Nat) (r : MReq) (g : BitVec 8) (s : State), s.stopRuns t → s.build = .hfE → (s.stop t).mp.reqs = [r] → r.tag = tag →
    r.lost = none → r.deadline ≤ s.ft → r.orig = .mp g → s.shut (.mp t) = false →
    ∃ u f, exec (.memRequestTimeout t tag) s = .next u ∧ u.out = s.out ++ [.fault f, .mpr t g 1 []] ∧ f.code = 0x0603 ∧
      (u.stop t).mp.reqs = [{ r with lost := some (s.ft + 2000) }] ∧ (u.stop t).mp.err = inc8 (s.stop t).mp.err ∧
      u.ctrl = { s.ctrl with memLost := inc8 s.ctrl.memLost }) ∧
  (∀ (t tag : Nat) (s : State), s.stopRuns t → s.build = .hfE → (s.stop t).mp.line = [] →
    ∃ u, exec (.memTagRelease t tag) s = .next u ∧
      (∀ x, x ∈ (u.stop t).mp.reqs ↔ x ∈ (s.stop t).mp.reqs ∧ ¬ (x.tag = tag ∧ ∃ d, x.lost = some d ∧ d ≤ s.ft)) ∧ u.out = s.out ∧
      u.stop t = { s.stop t with mp := { (s.stop t).mp with reqs := (u.stop t).mp.reqs } } ∧ s.stopOnly u t)

/-- Slice ports (R313, R319, R321, R325, R589): the one waiting request is presented at its row and column with a free tag, an atomic as a READ
that holds the port; the return of the one outstanding request goes back to its tile with the bytes asked for; an atomic's READ brings its WRITE
with the new word, and the WRITE's return the old word; an ERROR is counted, reported with its slice, and answered ERROR; an event crosses its
FIFO or marks the overrun. -/
def Obligations.SlicesAnswer : Prop :=
  (∀ (sl : Nat) (m : MMsg) (s : State), s.running = true → sl < nSlices s.build → s.shut (.slice sl) = false → (s.attach sl).busy = false →
    (s.attach sl).queue = [m] → (s.attach sl).pend = [] →
    ∃ u, exec (.sliceRequestPresent sl) s = .next u ∧
      u.out = s.out ++ [.slq sl (decide (m.kind = .write)) (m.row * 256 + m.lo) m.len 0
        (if m.kind = .write then List.replicate m.lo 0 ++ m.data else [])] ∧
      u.attach sl = { s.attach sl with
        queue := [], ptr := m.tile, busy := decide (m.kind ≠ .read ∧ m.kind ≠ .write)
        pend := [{ tag := 0, msg := m, old := none, ans := none }] } ∧
      (∀ j, j ≠ sl → u.attach j = s.attach j) ∧ u = { s with slices := u.slices, out := u.out }) ∧
  (∀ (sl : Nat) (tag : BitVec 8) (data : List Byte) (p : SlPend) (s : State), s.sliceAnswers sl p.msg.tile →
    (s.attach sl).pend = [p] → p.tag = tag.toNat → tag.toNat < 32 → p.msg.kind = .read →
    ∃ u, exec (.sliceReturn sl tag 0 data) s = .next u ∧
      u.out = s.out ++ [.mMsg (sliceTile sl) (slicePort sl) (subCh p.msg.tile sl)
        { p.msg with ret := true, status := 0, data := slice data p.msg.lo p.msg.len }] ∧
      u.attach sl = { s.attach sl with pend := [] } ∧ u = { s with slices := u.slices, stops := u.stops, out := u.out } ∧
      s.stopsBut u (sliceTile sl)) ∧
  (∀ (sl : Nat) (tag : BitVec 8) (data : List Byte) (p : SlPend) (s : State), s.sliceAnswers sl p.msg.tile →
    (s.attach sl).pend = [p] → p.tag = tag.toNat → tag.toNat < 32 → p.msg.kind = .write →
    ∃ u, exec (.sliceReturn sl tag 0 data) s = .next u ∧
      u.out = s.out ++ [.mMsg (sliceTile sl) (slicePort sl) (subCh p.msg.tile sl) { p.msg with ret := true, status := 0, data := [] }] ∧
      u.attach sl = { s.attach sl with pend := [] } ∧ u = { s with slices := u.slices, stops := u.stops, out := u.out } ∧
      s.stopsBut u (sliceTile sl)) ∧
  (∀ (sl : Nat) (tag : BitVec 8) (data : List Byte) (p : SlPend) (s : State), s.running = true → sl < nSlices s.build →
    (s.attach sl).pend = [p] → p.tag = tag.toNat → tag.toNat < 32 → isAtomic p.msg.kind = true → p.old = none →
    ∃ u, exec (.sliceReturn sl tag 0 data) s = .next u ∧
      u.out = s.out ++ [.slq sl true (p.msg.row * 256 + p.msg.lo) p.msg.len p.tag
        (List.replicate p.msg.lo 0 ++ atomicNew p.msg (slice data p.msg.lo p.msg.len))] ∧
      u.attach sl = { s.attach sl with busy := false, pend := [{ p with old := some (slice data p.msg.lo p.msg.len) }] } ∧
      u = { s with slices := u.slices, out := u.out }) ∧
  (∀ (m : MMsg) (old : List Byte),
    (m.kind = .add → atomicNew m old = bytesOf m.len ((natOf old + leAt m.data 0 m.len) % 2 ^ (8 * m.len))) ∧
    (m.kind = .cas → atomicNew m old = if natOf old = leAt m.data 0 m.len then slice m.data 8 m.len else old) ∧
    (m.kind = .xchg → atomicNew m old = slice m.data 0 m.len)) ∧
  (∀ (sl : Nat) (tag : BitVec 8) (data old : List Byte) (p : SlPend) (s : State), s.sliceAnswers sl p.msg.tile →
    (s.attach sl).pend = [p] → p.tag = tag.toNat → tag.toNat < 32 → isAtomic p.msg.kind = true → p.old = some old →
    ∃ u, exec (.sliceReturn sl tag 0 data) s = .next u ∧
      u.out = s.out ++ [.mMsg (sliceTile sl) (slicePort sl) (subCh p.msg.tile sl) { p.msg with ret := true, status := 0, data := old }] ∧
      u.attach sl = { s.attach sl with pend := [] } ∧ u = { s with slices := u.slices, stops := u.stops, out := u.out } ∧
      s.stopsBut u (sliceTile sl)) ∧
  (∀ (sl st : Nat) (tag : BitVec 8) (data : List Byte) (p : SlPend) (s : State), s.sliceAnswers sl p.msg.tile →
    (s.attach sl).pend = [p] → p.tag = tag.toNat → tag.toNat < 32 → st ≠ 0 →
    ∃ u f, exec (.sliceReturn sl tag st data) s = .next u ∧ f.code = 0x0604 ∧ f.detN = BitVec.ofNat 16 sl ∧
      u.out = s.out ++ [.fault f, .mMsg (sliceTile sl) (slicePort sl) (subCh p.msg.tile sl) { p.msg with ret := true, status := 1, data := [] }] ∧
      (u.attach sl).pend = [] ∧ (u.attach sl).errcnt = inc8 (s.attach sl).errcnt ∧
      u.ctrl = { s.ctrl with memSlice := inc8 s.ctrl.memSlice }) ∧
  (∀ (sl : Nat) (code : Byte) (full : Bool) (s : State), s.running = true → sl < nSlices s.build → (s.attach sl).events.length < 4 →
    ∃ u, exec (.sliceEvent sl code full) s = .next u ∧
      u.attach sl = (if full then { s.attach sl with ovr := true } else { s.attach sl with events := (s.attach sl).events ++ [code] }) ∧
      u.stop (sliceTile sl) = (if full then { s.stop (sliceTile sl) with xst := (s.stop (sliceTile sl)).xst ||| 8 } else s.stop (sliceTile sl)) ∧
      (∀ t, t ≠ sliceTile sl → u.stop t = s.stop t) ∧ u = { s with slices := u.slices, stops := u.stops })

/-- A peer's MWRITE and MREAD at the memory-service tile (R323, R324): one packet within one granule of the installed memory and of its
pan's window enters the plane, at an idle M-port, as one request; one that is not within the memory and the window is refused with BOUNDS. -/
def Obligations.ServiceTilePerforms : Prop :=
  (∀ (t : Nat) (p : Pkt) (s : State), s.servesPeer t p tMwrite → countOk p.hdr = true → s.serveOk p.hdr p.hdr.plen.toNat 1 = true →
    p.hdr.pidx = 0 → p.hdr.pcnt = 1 → p.hdr.addr.toNat % 256 + p.hdr.plen.toNat ≤ 256 → (s.stop t).mp.serves = [] →
    (s.stop t).mp.line = [] → (s.stop t).mp.reqs = [] → s.img.act.watch = [] → s.rowHeld t = false →
    (s.stop t).mFree 4 (subCh t (granuleMap (p.hdr.addr.toNat % 2 ^ 40 / 256)).1) false = true →
    (s.stop t).si.keyState (keyOf p.hdr) s.ft = none → (s.stop t).si.asms = [] →
    ∃ u m v, exec (.mwriteArrive t p) s = .next u ∧ u.out = s.out ++ [.mMsg t 4 (subCh t m.slice) m] ∧ m.kind = .write ∧ m.ret = false ∧
      (m.slice, m.row) = granuleMap (p.hdr.addr.toNat % 2 ^ 40 / 256) ∧ m.lo = p.hdr.addr.toNat % 256 ∧ m.len = p.hdr.plen.toNat ∧
      m.data = slice p.data 0 p.hdr.plen.toNat ∧ (u.stop t).mp.serves = [v] ∧ v.hdr = p.hdr ∧ v.whole = true ∧ v.left = 1 ∧
      (u.stop t).si.inj = (s.stop t).si.inj ∧ s.stopOnly u t) ∧
  (∀ (t n : Nat) (p : Pkt) (s : State), s.servesPeer t p tMread → countOk p.hdr = true → (p.hdr.w6.extractLsb' 40 24).toNat = n → 1 ≤ n →
    s.serveOk p.hdr n 0 = true → p.hdr.addr.toNat % 256 + n ≤ 256 → (s.stop t).mp.serves = [] → (s.stop t).mp.line = [] →
    (s.stop t).mp.reqs = [] → s.img.act.watch = [] → s.rowHeld t = false →
    (s.stop t).mFree 4 (subCh t (granuleMap (p.hdr.addr.toNat % 2 ^ 40 / 256)).1) false = true →
    ∃ u m v, exec (.mreadArrive t p) s = .next u ∧ u.out = s.out ++ [.mMsg t 4 (subCh t m.slice) m] ∧ m.kind = .read ∧ m.ret = false ∧
      (m.slice, m.row) = granuleMap (p.hdr.addr.toNat % 2 ^ 40 / 256) ∧ m.lo = p.hdr.addr.toNat % 256 ∧ m.len = n ∧
      (u.stop t).mp.serves = [v] ∧ v.hdr = p.hdr ∧ v.read = true ∧ v.left = 1 ∧ (u.stop t).si = (s.stop t).si ∧ s.stopOnly u t) ∧
  (∀ (t n right : Nat) (i : Instr) (p : Pkt) (s : State), s.servesPeer t p (if right = 1 then tMwrite else tMread) → p.hdr.dmode = 0 →
    (i, n, right) ∈ [(Instr.mwriteArrive t p, p.hdr.plen.toNat, 1), (.mreadArrive t p, (p.hdr.w6.extractLsb' 40 24).toNat, 0)] →
    s.serveOk p.hdr n right = false →
    ∃ u, exec i s = .next u ∧ s.answersTo u t p.hdr nBounds true ∧ u.out = s.out ∧
      (u.stop t).mp = (if s.build == .hfE && s.ownMem p.hdr.addr.toNat n && !s.peerWindow p.hdr n right
        then (s.winRefused t).stop t else s.stop t).mp ∧ s.stopOnly u t)

/-! ## Combine units (06, 07) -/

/-- Contributions of one packet at a plan node below the root, whose segment has no key done or pending (R178, R199, R203, R204, R207, R208,
R211 to R216, R277, R553): the first child's claims the lowest slot that it may, as HEAD under the group's control word, seed and formats, and
is ACKed; the last due child's makes the slot SENDING with the fold's result, and the partial leaves for the parent; one whose segment is done
is ACKed and combined no more; where no slot is free it is answered BUSY and a loss is counted; one that ends with KILL leaves the elements of
its earlier beats combined, and no answer; and in a cycle in which the row may not combine, it waits. A RED_SMALL piece claims a slot in the
same way and is answered with RED_ANS. -/
def Obligations.ContributionsCombine : Prop :=
  (∀ (t k : Nat) (own : Bool) (ks : List Nat) (pk : Pkt) (g : Group) (p : Plan) (n : PlanNode) (i : Instr) (s : State),
    (i = .redUpArrive t pk own ∨ i = .cuPacketCombine t pk own none) → s.cuTakes t own pk g p n → s.nodeWorks t p n →
    contribOk (s.segCtx g pk.hdr.coll.toNat pk.hdr.seg.toNat) (g.acwOf pk.hdr.seg.toNat) n false pk.hdr = true →
    tagRootc pk.hdr = false → s.headOf t (segKey pk.hdr) = none → s.holdsOf t (segKey pk.hdr) = [] →
    s.claimable t false = k :: ks → pk.hdr.child = 0 → pk.hdr.pidx = 0 → pk.hdr.pcnt = 1 → 1 < n.children.length →
    ∃ u, exec i s = .next u ∧ (u.slot t k).state = 1 ∧ (u.slot t k).key = segKey pk.hdr ∧ (u.slot t k).mask = 1 ∧
      (u.slot t k).next = 1 ∧ (u.slot t k).sig = pk.hdr.sig ∧ (u.slot t k).acw = g.acwOf pk.hdr.seg.toNat ∧
      (u.slot t k).seed = (s.segCtx g pk.hdr.coll.toNat pk.hdr.seg.toNat).seed ∧ (u.slot t k).fmts = s.img.act.formats ∧
      (∀ j, j ≠ k → u.slot t j = s.slot t j) ∧ s.answersTo u t pk.hdr 0 true ∧ u.out = s.out ∧ s.stopOnly u t) ∧
  (∀ (t k : Nat) (own : Bool) (pk : Pkt) (g : Group) (p : Plan) (n q : PlanNode) (x : Slot) (i : Instr) (s : State),
    (i = .redUpArrive t pk own ∨ i = .cuPacketCombine t pk own none) → s.cuTakes t own pk g p n → s.nodeWorks t p n →
    contribOk x.ctx x.acw n false pk.hdr = true → s.dueAt t k pk.hdr x → pk.hdr.pidx = 0 → pk.hdr.pcnt = 1 →
    n.children.length = x.next + 1 → p.nodeOf n.parent n.stripe = some q → (s.stop t).cu.stopped = [] →
    ∃ u m, exec i s = .next u ∧ (u.slot t k).state = 3 ∧ (u.slot t k).mask = x.mask ||| 2 ^ pk.hdr.child.toNat ∧
      (u.slot t k).result = (x.ctx.finish (x.ctx.fold x.acc (nth default n.children pk.hdr.child.toNat).member
        (if (nth default n.children pk.hdr.child.toNat).member then g.weightOf (nth default n.children pk.hdr.child.toNat).index else none)
        pk.hdr.fmt.toNat (slice pk.data 0 pk.hdr.plen.toNat)) false g.nmem).1 ∧
      (u.stop t).si.msgs = (s.stop t).si.msgs ++ [m] ∧ m.owner = .partialOf k ∧ m.data = (u.slot t k).result ∧ m.hdr.type = tRedUp ∧
      m.hdr.vc = 2 ∧ m.hdr.dnode = BitVec.ofNat 12 q.node ∧ m.hdr.dtile = BitVec.ofNat 9 q.tile ∧ m.hdr.mseq = (s.stop t).si.rseq ∧
      (∀ j, j ≠ k → u.slot t j = s.slot t j) ∧ (u.stop t).si.inj.length = (s.stop t).si.inj.length + 1 ∧ u.out = s.out ∧ s.stopOnly u t) ∧
  (∀ (t : Nat) (own : Bool) (pk : Pkt) (g : Group) (p : Plan) (n : PlanNode) (i : Instr) (s : State),
    (i = .redUpArrive t pk own ∨ i = .cuPacketCombine t pk own none) → s.cuTakes t own pk g p n → pk.hdr.pidx = 0 →
    (∃ d ∈ (s.stop t).cu.done, d.1 = segKey pk.hdr ∧ s.ft < d.2) →
    ∃ u, exec i s = .next u ∧ s.answersTo u t pk.hdr 0 true ∧
      (u.stop t).cu = { (s.stop t).cu with ndup := inc8 (s.stop t).cu.ndup, waitO := [], lastOwn := own } ∧ u.out = s.out ∧ s.stopOnly u t) ∧
  (∀ (t : Nat) (own : Bool) (pk : Pkt) (g : Group) (p : Plan) (n : PlanNode) (i : Instr) (s : State),
    (i = .redUpArrive t pk own ∨ i = .cuPacketCombine t pk own none) → s.cuTakes t own pk g p n → s.nodeWorks t p n →
    tagRootc pk.hdr = false → s.headOf t (segKey pk.hdr) = none → s.claimable t false = [] → pk.hdr.pidx = 0 →
    ∃ u, exec i s = .next u ∧ s.answersTo u t pk.hdr nBusy true ∧ (u.stop t).cu.slots = (s.stop t).cu.slots ∧
      (u.stop t).cu.nbusy = inc8 (s.stop t).cu.nbusy ∧
      (u.stop t).cu.pending = [{ key := segKey pk.hdr, losses := 1, byp := false, sent := [], expires := s.ft + 2000000 }] ∧
      u.out = s.out ∧ s.stopOnly u t) ∧
  (∀ (t k b : Nat) (pk : Pkt) (g : Group) (p : Plan) (n : PlanNode) (x : Slot) (s : State),
    s.cuTakes t false pk g p n → s.nodeWorks t p n → contribOk x.ctx x.acw n false pk.hdr = true → s.dueAt t k pk.hdr x → pk.hdr.pidx = 0 →
    ∃ u, exec (.cuPacketCombine t pk false (some b)) s = .next u ∧
      u.slot t k = { x with
        got := slice pk.data 0 (min pk.hdr.plen.toNat (b * flitW s.build)), part := min pk.hdr.plen.toNat (b * flitW s.build), hdr := pk.hdr } ∧
      (∀ j, j ≠ k → u.slot t j = s.slot t j) ∧ (u.stop t).si = (s.stop t).si ∧ u.out = s.out ∧ s.stopOnly u t) ∧
  (∀ (t : Nat) (pk : Pkt) (killed : Option Nat) (s : State), s.stopRuns t → pk.hdr.type = tRedUp → s.cuMay t = false →
    (pk, killed) ∉ (s.stop t).cu.waitR →
    ∃ u, exec (.cuPacketCombine t pk false killed) s = .next u ∧
      u.stop t = { s.stop t with cu := { (s.stop t).cu with waitR := (s.stop t).cu.waitR ++ [(pk, killed)] } } ∧ u.out = s.out ∧ s.stopOnly u t) ∧
  (∀ (t k : Nat) (ks : List Nat) (m : CMsg) (g : Group) (p : Plan) (n : PlanNode) (s : State), s.stopRuns t → m.hdr.mkind = 6 →
    s.groupOf (smallPkt m).hdr.coll.toNat = some g → g.pan = m.hdr.pan.toNat → s.hasEnded t (smallPkt m).hdr = false →
    s.nodeFor t (smallPkt m).hdr = some (g, p, n) → s.nodeWorks t p n → (s.stop t).co.roots = [] →
    contribOk (s.segCtx g (smallPkt m).hdr.coll.toNat (smallPkt m).hdr.seg.toNat) (g.acwOf (smallPkt m).hdr.seg.toNat) n true
      (smallPkt m).hdr = true → tagRootc (smallPkt m).hdr = false → s.headOf t (segKey (smallPkt m).hdr) = none →
    s.holdsOf t (segKey (smallPkt m).hdr) = [] → s.claimable t false = k :: ks → (smallPkt m).hdr.child = 0 →
    (smallPkt m).hdr.pidx = 0 → (smallPkt m).hdr.pcnt = 1 → 1 < n.children.length →
    ∃ u a, exec (.redSmallArrive t m) s = .next u ∧ (u.slot t k).state = 1 ∧ (u.slot t k).mask = 1 ∧ (u.slot t k).small = true ∧
      s.cSends u t a ∧ a.hdr.mkind = 7 ∧ a.hdr.arg = 0x10 ∧ a.hdr.mseq = m.hdr.mseq ∧ a.hdr.dtile = m.hdr.stile ∧
      (u.stop t).si.inj = (s.stop t).si.inj ∧ u.out = s.out ∧ s.stopOnly u t)

/-- Answers to contributions at their sender, where the contribution is the only message of its SI (R208, R215 to R217, R277): the end of a
BUSY's backoff sends the contribution whole again; a BYPASS sends it to the group root's tile with ROOTC set; RED_ANS with code 0 frees the
slot of the partial it answers. -/
def Obligations.ContributionsAreAnswered : Prop :=
  (∀ (t mseq : Nat) (m : Msg) (s : State), s.stopRuns t → s.backedOff t mseq Msg.claim = some m → (s.stop t).si.msgs = [m] →
    m.small = false →
    ∃ u x, exec (.contributionBackoffExpire t mseq) s = .next u ∧ (u.stop t).si.msgs = [x] ∧ x.todo = List.range m.pcnt ∧ x.again = true ∧
      x.backoff = none ∧ x.hdr = m.hdr ∧ (u.stop t).si.resent = inc8 (s.stop t).si.resent ∧ u.out = s.out ∧ s.stopOnly u t) ∧
  (∀ (t : Nat) (p : Pkt) (m : Msg) (s : State), s.stopRuns t → isCtl p 1 3 = true → s.hdrOk p.hdr = true →
    p.hdr.e2e = 0 → s.isLate p.hdr = false →
    (s.stop t).si.msgs = [m] → m.issued = true → m.claim = true → m.small = false → m.hdr.coll = p.hdr.coll → m.hdr.seg = p.hdr.seg →
    m.hdr.child = p.hdr.child → m.hdr.sig = p.hdr.sig → m.hdr.pan = p.hdr.pan → tagPnode m.hdr = tagPnode p.hdr →
    ∃ u x, exec (.collBypass t p) s = .next u ∧ (u.stop t).si.msgs = [x] ∧ x.hdr.dnode = (ctlOfBytes p.data).arg.extractLsb' 9 12 ∧
      x.hdr.dtile = (ctlOfBytes p.data).arg.extractLsb' 0 9 ∧ tagRootc x.hdr = true ∧ tagPnode x.hdr = tagPnode m.hdr ∧
      x.hdr.mseq = m.hdr.mseq ∧ x.todo = List.range m.pcnt ∧ u.out = s.out ∧ s.stopOnly u t) ∧
  (∀ (t k : Nat) (m : CMsg) (x : Msg) (s : State), s.stopRuns t → m.hdr.mkind = 7 → (s.stop t).si.msgs = [x] → x.small = true →
    x.issued = true → x.hdr.mseq = m.hdr.mseq → x.hdr.pan = m.hdr.pan → x.hdr.dnode = m.hdr.snode → x.hdr.dtile = m.hdr.stile →
    x.owner = .partialOf k → m.hdr.arg.toNat % 16 = 0 →
    ∃ u, exec (.redAnsReceived t m) s = .next u ∧ (u.stop t).si.msgs = [] ∧ u.slot t k = default ∧
      (u.stop t).cu.done.head? = some ((s.slot t k).key, s.ft + 2000000) ∧ (∀ j, j ≠ k → u.slot t j = s.slot t j) ∧ u.out = s.out ∧
      s.stopOnly u t)

/-- Failures of lanes and banks, and the records that expire (R200, R202, R214, R216, R219 to R221, R223, R225, R255): an error of a lane in
use is counted and reported; its second within 1 ms brings in the spare lane, and where that is in use already the CU stops combining and
reports it; a corrected store error is counted by bank, and CTHR of them retire it; an uncorrectable one retires it at once; a retiring bank
whose slots are FREE gives way to the spare, or is RETIRED and reported where there is none; each record goes when its millisecond is over, and
no other goes with it. -/
def Obligations.UnitsDegrade : Prop :=
  (∀ (t lane : Nat) (s : State), s.stopRuns t → s.laneUsed t lane = true → Tab.get? (s.stop t).cu.laneErr lane = none →
    ∃ u, exec (.cuLaneError t lane) s = .next u ∧ s.reported u (unitId uCu (s.phys t)) 0x0401 ∧
      (u.stop t).cu = { (s.stop t).cu with laneerr := inc8 (s.stop t).cu.laneerr, laneErr := (s.stop t).cu.laneErr.set lane s.ft }) ∧
  (∀ (t lane f : Nat) (s : State), s.stopRuns t → s.laneUsed t lane = true → Tab.get? (s.stop t).cu.laneErr lane = some f →
    s.ft ≤ f + 2000000 → (s.stop t).cu.fenced = false → (s.stop t).cu.laneSpare = none →
    ∃ u, exec (.cuLaneError t lane) s = .next u ∧ s.reported u (unitId uCu (s.phys t)) 0x0401 ∧ (u.stop t).cu.laneSpare = some lane ∧
      (u.stop t).cu.fenced = false) ∧
  (∀ (t lane f k : Nat) (s : State), s.stopRuns t → s.laneUsed t lane = true → Tab.get? (s.stop t).cu.laneErr lane = some f →
    s.ft ≤ f + 2000000 → (s.stop t).cu.fenced = false → (s.stop t).cu.laneSpare = some k →
    ∃ u a b l, exec (.cuLaneError t lane) s = .next u ∧ u.out = s.out ++ .fault a :: .fault b :: l ∧ a.code = 0x0401 ∧ b.code = 0x0805 ∧
      (u.stop t).cu.fenced = true) ∧
  (∀ (t lane : Nat) (s : State), s.stopRuns t → s.laneUsed t lane = false → exec (.cuLaneError t lane) s = .next s) ∧
  (∀ (t slot : Nat) (s : State), s.stopRuns t →
    ∃ u, exec (.storeCorrected t slot) s = .next u ∧ s.reported u (unitId uCu (s.phys t)) 0x0402 ∧
      (u.stop t).cu.corr = inc8 (s.stop t).cu.corr ∧ Tab.get 0 (u.stop t).cu.corrBy (slot / 4) = Tab.get 0 (s.stop t).cu.corrBy (slot / 4) + 1 ∧
      ((s.cuCfg t).2.2 ≤ Tab.get 0 (s.stop t).cu.corrBy (slot / 4) + 1 → (u.stop t).cu.retiring.contains (slot / 4) = true) ∧
      (Tab.get 0 (s.stop t).cu.corrBy (slot / 4) + 1 < (s.cuCfg t).2.2 → (u.stop t).cu.retiring = (s.stop t).cu.retiring) ∧
      (u.stop t).cu.slots = (s.stop t).cu.slots) ∧
  (∀ (t slot : Nat) (s : State), s.stopRuns t → (s.slot t slot).state = 0 →
    ∃ u, exec (.storeUncorrectable t slot) s = .next u ∧ s.reported u (unitId uCu (s.phys t)) 0x0403 ∧
      (u.stop t).cu.uncor = inc8 (s.stop t).cu.uncor ∧ (u.stop t).cu.retiring.contains (slot / 4) = true ∧
      (u.stop t).cu.slots = (s.stop t).cu.slots) ∧
  (∀ (t bank : Nat) (s : State), s.stopRuns t → (s.stop t).cu.retiring.contains bank = true →
    (∀ i, i < 4 → (s.slot t (4 * bank + i)).state = 0) → s.spareFree t bank = true →
    ∃ u, exec (.bankSpareTakeover t bank) s = .next u ∧ (u.stop t).cu = { (s.stop t).cu with
        retiring := (s.stop t).cu.retiring.filter (· != bank), spared := (s.stop t).cu.spared ++ [bank]
        corrBy := (s.stop t).cu.corrBy.set bank 0 } ∧ u.out = s.out ∧ s.stopOnly u t) ∧
  (∀ (t bank : Nat) (s : State), s.stopRuns t → (s.stop t).cu.retiring.contains bank = true →
    (∀ i, i < 4 → (s.slot t (4 * bank + i)).state = 0) → s.spareFree t bank = false →
    ∃ u, exec (.bankSpareTakeover t bank) s = .next u ∧ (∀ i, i < 4 → (u.slot t (4 * bank + i)).state = 5) ∧
      (u.stop t).cu.retiring.contains bank = false ∧ s.reported u (unitId uCu (s.phys t)) 0x0804) ∧
  (∀ (t coll seg pnode : Nat) (s : State), s.stopRuns t →
    ∃ u, exec (.doneEntryExpire t coll seg pnode) s = .next u ∧
      (∀ d, d ∈ (u.stop t).cu.done ↔ d ∈ (s.stop t).cu.done ∧ ¬ (d.1 = { coll := coll, seg := seg, pnode := pnode } ∧ d.2 ≤ s.ft)) ∧
      u.stop t = { s.stop t with cu := { (s.stop t).cu with done := (u.stop t).cu.done } } ∧ u.out = s.out ∧ s.stopOnly u t) ∧
  (∀ (t coll seg pnode : Nat) (s : State), s.stopRuns t →
    ∃ u, exec (.bypassEntryExpire t coll seg pnode) s = .next u ∧
      (∀ e, e ∈ (u.stop t).cu.pending ↔ e ∈ (s.stop t).cu.pending ∧
        ¬ (e.key = { coll := coll, seg := seg, pnode := pnode } ∧ e.byp = true ∧ e.expires ≤ s.ft)) ∧
      u.stop t = { s.stop t with cu := { (s.stop t).cu with pending := (u.stop t).cu.pending } } ∧ u.out = s.out ∧ s.stopOnly u t) ∧
  (∀ (t coll sig : Nat) (s : State), s.stopRuns t →
    ∃ u, exec (.endedEntryExpire t coll sig) s = .next u ∧
      (∀ e, e ∈ (u.stop t).cu.ended ↔ e ∈ (s.stop t).cu.ended ∧ ¬ (e.coll = coll ∧ e.sig.toNat = sig ∧ e.expires ≤ s.ft)) ∧
      u.stop t = { s.stop t with cu := { (s.stop t).cu with ended := (u.stop t).cu.ended } } ∧ u.out = s.out ∧ s.stopOnly u t)

/-! ## Collectives (08) -/

/-- A collective descriptor at CMD (R236 to R240): an accepted one of any of the six kinds becomes the one live collective of an SI that has
none, with the group's next number in its COLL and its signature, and the group's number moves; a barrier's launch contribution joins the SI's
messages with the count of its segments and its COP; one whose COLL is live waits at the SI, and one that comes while the SI takes none waits
in the port; a refused one completes at once with its code, and a reserved COP with BOUNDS. COLL_DESCRIPTOR_RELEASE accepts or refuses the
one that waits once its COLL is free, and does nothing before, with none, or in DRAIN. -/
def Obligations.CollectivesStart : Prop :=
  (∀ (t : Nat) (d : Desc) (p : PanRec) (g : Group) (i : Instr) (s : State), s.cmdTakes t → descOf t d i → s.collCode t d = 0 →
    (s.stop t).co.live = [] → s.tilePan t = some p → s.img.act.groups.find? (fun g => g.id == d.group) = some g →
    ∃ u x, exec i s = .next u ∧ (u.stop t).co.live = [x] ∧
      x.coll = g.id * 64 + (Tab.get 0 (s.stop t).co.cseqs g.id).toNat % 64 ∧ x.sig = collSig d (Tab.get 0 (s.stop t).co.cseqs g.id) ∧
      x.cop = d.cop ∧ x.ctag = d.cctag ∧ x.rank = p.rankOf s.node t ∧ x.deadline = s.ft + 2 * g.gtl * 2000 ∧
      Tab.get 0 (u.stop t).co.cseqs g.id = Tab.get 0 (s.stop t).co.cseqs g.id + 1 ∧ s.stopOnly u t) ∧
  (∀ (t j : Nat) (d : Desc) (p : PanRec) (g : Group) (n : PlanNode) (s : State), s.cmdTakes t → d.kind = 3 → d.cop = 4 →
    s.collCode t d = 0 → (s.stop t).co.live = [] → (s.stop t).si.msgs = [] → s.tilePan t = some p → s.groupOf (d.group * 64) = some g →
    (s.planAt t g).leafOf ((s.memberIdx g (p.rankOf s.node t)).getD 0) 0 = some (n, j) →
    ∃ u m, exec (.collBarrier t d) s = .next u ∧ (u.stop t).si.msgs = [m] ∧
      m.owner = .contrib (g.id * 64 + (Tab.get 0 (s.stop t).co.cseqs g.id).toNat % 64) segLaunch ∧ m.data = bytesOf 4 0 ++ bytesOf 4 4 ∧
      m.hdr.type = tRedUp ∧ m.hdr.dnode = BitVec.ofNat 12 n.node ∧ m.hdr.dtile = BitVec.ofNat 9 n.tile ∧ m.hdr.child = BitVec.ofNat 8 j ∧
      m.hdr.mseq = (s.stop t).si.rseq ∧ m.hdr.sig = collSig d (Tab.get 0 (s.stop t).co.cseqs g.id) ∧ s.stopOnly u t) ∧
  (∀ (t : Nat) (d : Desc) (i : Instr) (s : State), s.cmdTakes t → descOf t d i → s.collCode t d = 0 → s.collMustWait t d = true →
    ∃ u, exec i s = .next u ∧ u.stop t = { s.stop t with co := { (s.stop t).co with waiting := [d] } } ∧ u.out = s.out ∧ s.stopOnly u t) ∧
  (∀ (t : Nat) (d : Desc) (i : Instr) (s : State), s.portTakes t (.cmd t) → descOf t d i → s.cmdReady t = false →
    (s.stop t).cmdq.length < 8 →
    ∃ u, exec i s = .next u ∧ u.stop t = { s.stop t with cmdq := (s.stop t).cmdq ++ [d] } ∧ u.out = s.out ∧ s.stopOnly u t) ∧
  (∀ (t : Nat) (d : Desc) (i : Instr) (s : State), s.cmdTakes t → descOf t d i → s.collCode t d ≠ 0 →
    ∃ u, exec i s = .next u ∧ (u.stop t).co = (s.stop t).co ∧ u.out = s.out ++ [.cmp t 3 (cmpData d.cctag 0 (s.collCode t d))] ∧
      s.stopOnly u t) ∧
  (∀ (t : Nat) (d : Desc) (s : State), s.cmdTakes t → d.kind = 3 → 6 ≤ d.cop → (s.stop t).ro.clientFenced = false →
    ∃ u, exec (.collAllReduce t d) s = .next u ∧ (u.stop t).co = (s.stop t).co ∧ u.out = s.out ++ [.cmp t 3 (cmpData d.cctag 0 nBounds)] ∧
      s.stopOnly u t) ∧
  (∀ (t : Nat) (d : Desc) (rest : List Desc) (s : State), s.stopRuns t →
    (s.stop t).co.waiting = d :: rest → s.collMustWait t d = false → s.draining t = false → s.collCode t d = 0 → (s.stop t).co.live = [] →
    ∃ u x, exec (.collDescriptorRelease t) s = .next u ∧ (u.stop t).co.waiting = rest ∧ (u.stop t).co.live = [x] ∧ x.cop = d.cop ∧
      x.ctag = d.cctag ∧ s.stopOnly u t) ∧
  (∀ (t : Nat) (d : Desc) (rest : List Desc) (s : State), s.stopRuns t →
    (s.stop t).co.waiting = d :: rest → s.collMustWait t d = false → s.draining t = false → s.collCode t d ≠ 0 →
    ∃ u, exec (.collDescriptorRelease t) s = .next u ∧ (u.stop t).co = { (s.stop t).co with waiting := rest } ∧
      u.out = s.out ++ [.cmp t 3 (cmpData d.cctag 0 (s.collCode t d))] ∧ s.stopOnly u t) ∧
  (∀ (t : Nat) (s : State), s.stopRuns t →
    (∀ d ∈ (s.stop t).co.waiting, s.collMustWait t d = true ∨ s.draining t = true) → exec (.collDescriptorRelease t) s = .next s)

/-- What reaches a member (R249, R255, R263): the result of a segment in one packet is written where the segment lies, and a fenced client's is
discarded; the launch result lets a data kind begin; a final COMMIT of status 0 or 1 ends the member's collective with the status, the rank and
the flags that it names, and an ABORT with its status, of which QC_EVT tells the windows; each leaves the collective in the ended list, a COMMIT
of another signature touches no live collective, and a fenced client's collective ends without a completion. -/
def Obligations.MembersFollowTheRoot : Prop :=
  (∀ (t a : Nat) (p : Pkt) (g : Group) (m : CollM) (s : State), s.downTakes t p g → s.wholeNew t p → (s.stop t).ro.clientFenced = false →
    p.hdr.dmode = 0 → s.egressTrees t p.hdr = [] → s.memberOf t p.hdr = some m → s.resultAt m g p.hdr.seg.toNat = some a →
    ∃ u, exec (.redDownArrive t p) s = .next u ∧
      u.out = s.out ++ [.tpWrite t (a + p.hdr.addr.toNat) (slice p.data 0 p.hdr.plen.toNat)] ∧ s.answersTo u t p.hdr 0 true ∧
      (u.stop t).co = (s.stop t).co ∧ s.stopOnly u t) ∧
  (∀ (t : Nat) (p : Pkt) (g : Group) (m : CollM) (s : State), s.downTakes t p g → s.wholeNew t p → (s.stop t).ro.clientFenced = false →
    p.hdr.dmode = 0 → s.egressTrees t p.hdr = [] → p.hdr.seg.toNat = segLaunch → (s.stop t).co.live = [m] → m.coll = p.hdr.coll.toNat →
    m.sig = p.hdr.sig →
    ∃ u x, exec (.redDownArrive t p) s = .next u ∧ (u.stop t).co.live = [x] ∧ x.launched = true ∧ x.coll = m.coll ∧ x.sig = m.sig ∧
      x.cop = m.cop ∧ s.answersTo u t p.hdr 0 true ∧ s.stopOnly u t) ∧
  (∀ (t : Nat) (p : Pkt) (g : Group) (s : State), s.downTakes t p g → (s.stop t).ro.clientFenced = true →
    exec (.redDownArrive t p) s = .next s) ∧
  (∀ (t : Nat) (p : Pkt) (g : Group) (m : CollM) (s : State), s.ctlTakes t p g 3 3 → (s.stop t).ro.clientFenced = false →
    (s.stop t).co.live = [m] → m.coll = p.hdr.coll.toNat → m.sig = p.hdr.sig → ((ctlOfBytes p.data).arg.extractLsb' 17 4).toNat ≤ 1 →
    ∃ (u : State) (x : BitVec 128), exec (.collCommitFinal t p) s = .next u ∧ u.out = s.out ++ [.cmp t 3 x] ∧
      x.extractLsb' 0 4 = (ctlOfBytes p.data).arg.extractLsb' 17 4 ∧ x.extractLsb' 4 8 = (ctlOfBytes p.data).saf ∧
      x.extractLsb' 12 20 = 0 ∧ x.extractLsb' 32 20 = (ctlOfBytes p.data).rank ∧ x.extractLsb' 96 32 = m.ctag ∧ (u.stop t).co.live = [] ∧
      (u.stop t).co.lastst = (ctlOfBytes p.data).arg.extractLsb' 17 4 ∧
      (u.stop t).cu.ended.head? = some { coll := p.hdr.coll.toNat, sig := p.hdr.sig, expires := s.ft + 2000000 } ∧ s.stopOnly u t) ∧
  (∀ (t : Nat) (p : Pkt) (g : Group) (s : State), s.ctlTakes t p g 3 3 →
    (∀ m ∈ (s.stop t).co.live, m.coll ≠ p.hdr.coll.toNat ∨ m.sig ≠ p.hdr.sig) →
    ∃ u, exec (.collCommitFinal t p) s = .next u ∧ (u.stop t).co.live = (s.stop t).co.live ∧ u.out = s.out ∧
      (u.stop t).cu.ended.head? = some { coll := p.hdr.coll.toNat, sig := p.hdr.sig, expires := s.ft + 2000000 } ∧ s.stopOnly u t) ∧
  (∀ (t : Nat) (p : Pkt) (g : Group) (m : CollM) (s : State), s.ctlTakes t p g 4 3 → (s.stop t).ro.clientFenced = false →
    (s.stop t).co.live = [m] → m.coll = p.hdr.coll.toNat →
    ∃ (u : State) (x : BitVec 128), exec (.collAbort t p) s = .next u ∧ u.out = s.out ++ [.cmp t 3 x] ∧
      x.extractLsb' 0 4 = (ctlOfBytes p.data).arg.extractLsb' 17 4 ∧ x.extractLsb' 96 32 = m.ctag ∧
      x.extractLsb' 12 20 = (if (ctlOfBytes p.data).arg.extractLsb' 17 4 = 2 then (ctlOfBytes p.data).rank else 0) ∧
      x.extractLsb' 32 20 = (if (ctlOfBytes p.data).arg.extractLsb' 17 4 = 2 then 0 else (ctlOfBytes p.data).rank) ∧
      (u.stop t).co.live = [] ∧ (u.stop t).co.aborts = inc8 (s.stop t).co.aborts ∧ s.stopsBut u t ∧
      u = { s with stops := u.stops, rake := u.rake, out := u.out, ctrl := { s.ctrl with qcEvt := u.ctrl.qcEvt } }) ∧
  (∀ (t k : Nat) (i : Instr) (p : Pkt) (g : Group) (m : CollM) (s : State),
    (k = 3 ∧ i = .collCommitFinal t p ∨ k = 4 ∧ i = .collAbort t p) → s.ctlTakes t p g k 3 → (s.stop t).ro.clientFenced = true →
    (s.stop t).co.live = [m] → m.coll = p.hdr.coll.toNat → m.sig = p.hdr.sig →
    ∃ u, exec i s = .next u ∧ (u.stop t).co.live = [] ∧ u.out = s.out ∧ s.stopOnly u t)

/-- Control records between members, root and deputy (R254, R258 to R262): a difference that a member reports aborts the collective with
MISMATCH and the rank it names, also where nothing has reached the root before; progress moves the deputy's L; a cause makes the root of an
all-reduce or reduce-scatter that runs replay under its order, on the plan in force (cause 3) or on the node's fallback plan (causes 1, 2 and
4), or abort where it has replayed twice or a member is lost, and makes the deputy wait 50 µs; an order is applied once, with its plan, by the
tile's CU and member, and one of the deputy's frees the record of the root it replaces. -/
def Obligations.RecordsMoveACollective : Prop :=
  (∀ (t : Nat) (p : Pkt) (g : Group) (r : CollRoot) (s : State), s.ctlTakes t p g 2 2 → p.hdr.dmode = 0 →
    (s.stop t).co.roots = [r] → r.coll = p.hdr.coll.toNat → r.state ≠ 4 → (ctlOfBytes p.data).arg.getLsbD 20 = false →
    ∃ u, exec (.collMismatchRecord t p) s = .next u ∧ (u.stop t).co.roots = [{ r with state := 4, due := some (s.ft + 2000000) }] ∧
      s.sendsDown u t (s.planAt t g).ctlTree r.coll .abort (ctlRec 4 (2 * 2 ^ 17) (ctlOfBytes p.data).rank.toNat 0) ∧
      s.answersTo u t p.hdr 0 true ∧ u.out = s.out ∧ s.stopOnly u t) ∧
  (∀ (t : Nat) (p : Pkt) (g : Group) (s : State), s.ctlTakes t p g 2 2 → p.hdr.dmode = 0 → (s.stop t).co.roots = [] →
    (ctlOfBytes p.data).arg.getLsbD 20 = false →
    ∃ u x, exec (.collMismatchRecord t p) s = .next u ∧ (u.stop t).co.roots = [x] ∧ x.coll = p.hdr.coll.toNat ∧ x.sig = p.hdr.sig ∧
      x.state = 4 ∧ x.due = some (s.ft + 2000000) ∧
      s.sendsDown u t (s.planAt t g).ctlTree p.hdr.coll.toNat .abort (ctlRec 4 (2 * 2 ^ 17) (ctlOfBytes p.data).rank.toNat 0) ∧
      s.answersTo u t p.hdr 0 true ∧ u.out = s.out ∧ s.stopOnly u t) ∧
  (∀ (t : Nat) (p : Pkt) (g : Group) (s : State), s.ctlTakes t p g 3 2 → p.hdr.dmode = 0 →
    ∃ u, exec (.collCommitProgress t p) s = .next u ∧
      (∃ d ∈ (u.stop t).co.deps, d.coll = p.hdr.coll.toNat ∧ d.sig = p.hdr.sig) ∧
      (∀ d ∈ (u.stop t).co.deps, d.coll = p.hdr.coll.toNat → d.sig = p.hdr.sig → d.l = (ctlOfBytes p.data).rank.toNat) ∧
      s.answersTo u t p.hdr 0 true ∧ u.out = s.out ∧ s.stopOnly u t) ∧
  (∀ (t : Nat) (p : Pkt) (g : Group) (r : CollRoot) (s : State), s.ctlTakes t p g 5 2 → p.hdr.dmode = 0 →
    (s.stop t).si.msgs = [] → (s.stop t).co.roots = [r] → r.coll = p.hdr.coll.toNat → r.sig = p.hdr.sig → r.state < 4 → r.replays < 2 →
    r.launch = 2 → r.cop ≤ 1 →
    (ctlOfBytes p.data).arg.extractLsb' 17 4 = 3 → r.acted.contains (3, ((ctlOfBytes p.data).arg.extractLsb' 0 12).toNat) = false →
    ∃ u x, exec (.collReplayCause t p) s = .next u ∧ (u.stop t).co.roots = [x] ∧ x.coll = r.coll ∧ x.sig = r.sig ∧ x.state = 2 ∧
      x.replays = r.replays + 1 ∧ x.l = r.l ∧ x.progress = none ∧ x.acted = [(3, ((ctlOfBytes p.data).arg.extractLsb' 0 12).toNat)] ∧
      s.sendsDown u t (s.planAt t g).ctlTree r.coll .order (ctlRec 5 (3 * 2 ^ 17 + ((ctlOfBytes p.data).arg.extractLsb' 0 12).toNat) r.l
        (orderSaf (Tab.get 0 (s.stop t).cu.plans g.id) (r.replays + 1) false false r.dep)) ∧
      s.answersTo u t p.hdr 0 true ∧ u.out = s.out ∧ s.stopOnly u t) ∧
  (∀ (t cause pnode : Nat) (p : Pkt) (g : Group) (r : CollRoot) (n : PlanNode) (s : State), s.ctlTakes t p g 5 2 → p.hdr.dmode = 0 →
    (s.stop t).si.msgs = [] → (s.stop t).co.roots = [r] → r.coll = p.hdr.coll.toNat → r.sig = p.hdr.sig → r.state < 4 → r.replays < 2 →
    r.launch = 2 → r.cop ≤ 1 → cause = ((ctlOfBytes p.data).arg.extractLsb' 17 4).toNat → cause = 1 ∨ cause = 2 ∨ cause = 4 →
    pnode = ((ctlOfBytes p.data).arg.extractLsb' 0 12).toNat → r.acted.contains (cause, pnode) = false →
    (s.planAt t g).nodes.find? (fun n => n.pnode == pnode && n.fallback != 0) = some n →
    ∃ u x, exec (.collReplayCause t p) s = .next u ∧ (u.stop t).co.roots = [x] ∧ x.coll = r.coll ∧ x.sig = r.sig ∧ x.state = 2 ∧
      x.replays = r.replays + 1 ∧ x.l = r.l ∧ x.acted = [(cause, pnode)] ∧ Tab.get 0 (u.stop t).cu.plans g.id = n.fallback ∧
      s.sendsDown u t (nth default g.plans n.fallback).ctlTree r.coll .order (ctlRec 5 (cause * 2 ^ 17 + pnode) r.l
        (orderSaf n.fallback (r.replays + 1) false false r.dep)) ∧
      s.answersTo u t p.hdr 0 true ∧ u.out = s.out ∧ s.stopOnly u t) ∧
  (∀ (t cause : Nat) (p : Pkt) (g : Group) (r : CollRoot) (s : State), s.ctlTakes t p g 5 2 → p.hdr.dmode = 0 →
    (s.stop t).co.roots = [r] → r.coll = p.hdr.coll.toNat → r.sig = p.hdr.sig → r.state < 4 →
    cause = ((ctlOfBytes p.data).arg.extractLsb' 17 4).toNat →
    r.acted.contains (cause, ((ctlOfBytes p.data).arg.extractLsb' 0 12).toNat) = false → (cause = 5 ∨ 2 ≤ r.replays) →
    ∃ u, exec (.collReplayCause t p) s = .next u ∧ (u.stop t).co.roots = [{ r with state := 4, due := some (s.ft + 2000000) }] ∧
      s.sendsDown u t (s.planAt t g).ctlTree r.coll .abort (ctlRec 4 ((if cause = 5 then 5 else 3) * 2 ^ 17) r.l 0) ∧
      s.answersTo u t p.hdr 0 true ∧ u.out = s.out ∧ s.stopOnly u t) ∧
  (∀ (t : Nat) (p : Pkt) (g : Group) (s : State), s.ctlTakes t p g 5 2 → p.hdr.dmode = 0 →
    (s.stop t).co.roots = [] → (s.planAt t g).deputy = some (s.node, t) → (s.stop t).co.deps = [] →
    ∃ u, exec (.collReplayCause t p) s = .next u ∧
      (u.stop t).co.deps = [(⟨p.hdr.coll.toNat, p.hdr.sig, p.hdr.pan.toNat, 0,
        some (s.ft + 100000, ((ctlOfBytes p.data).arg.extractLsb' 17 4).toNat, ((ctlOfBytes p.data).arg.extractLsb' 0 12).toNat)⟩ : CollDep)] ∧
      s.answersTo u t p.hdr 0 true ∧ u.out = s.out ∧ s.stopOnly u t) ∧
  (∀ (t : Nat) (p : Pkt) (g : Group) (s : State), s.ctlTakes t p g 5 3 →
    s.orderNewer t p.hdr ((ctlOfBytes p.data).saf.extractLsb' 4 2).toNat ((ctlOfBytes p.data).saf.getLsbD 1) = true →
    (s.stop t).co.live = [] →
    ∃ u, exec (.collReplayOrder t p) s = .next u ∧ Tab.get 0 (u.stop t).cu.plans g.id = ((ctlOfBytes p.data).saf.extractLsb' 6 2).toNat ∧
      (u.stop t).cu.orders.head? = some
        { coll := p.hdr.coll.toNat, sig := p.hdr.sig, no := ((ctlOfBytes p.data).saf.extractLsb' 4 2).toNat, dep := (ctlOfBytes p.data).saf.getLsbD 1 } ∧
      (u.stop t).co.replays = inc8 (s.stop t).co.replays ∧ s.stopOnly u t) ∧
  (∀ (t : Nat) (p : Pkt) (g : Group) (m : CollM) (s : State), s.ctlTakes t p g 5 3 →
    s.orderNewer t p.hdr ((ctlOfBytes p.data).saf.extractLsb' 4 2).toNat ((ctlOfBytes p.data).saf.getLsbD 1) = true →
    (s.stop t).co.live = [m] → m.coll = p.hdr.coll.toNat → m.sig = p.hdr.sig →
    ∃ u x, exec (.collReplayOrder t p) s = .next u ∧ (u.stop t).co.live = [x] ∧ x.coll = m.coll ∧ x.known = (ctlOfBytes p.data).rank.toNat ∧
      s.stopOnly u t) ∧
  (∀ (t : Nat) (p : Pkt) (g : Group) (r : CollRoot) (s : State), s.ctlTakes t p g 5 3 → (ctlOfBytes p.data).saf.getLsbD 1 = true →
    (s.stop t).co.roots = [r] → r.coll = p.hdr.coll.toNat → r.sig = p.hdr.sig → r.dep = false →
    ∃ u, exec (.collReplayOrder t p) s = .next u ∧ (u.stop t).co.roots = [] ∧ s.stopOnly u t)

/-- The timers of a collective, its end and a host's abort (R249 to R252, R256, R262): progress names the highest L due, at most once per µs;
the group's time limit aborts with TIMEOUT and L; a member that has waited two limits reports 0x0404 and completes with TIMEOUT; an ended
record goes when it is due; a deputy without an order takes the root's record over on the fallback plan; none acts before its time. -/
def Obligations.CollectiveTimersAct : Prop :=
  (∀ (t coll : Nat) (r : CollRoot) (d : Nat × Nat) (s : State), s.stopRuns t → (s.stop t).co.roots = [r] → r.coll = coll → r.state = 1 →
    r.progress = none → r.progressAt ≤ s.ft → r.l < r.dueL → r.deputy = some d →
    ∃ u, exec (.commitProgressTimer t coll) s = .next u ∧
      (u.stop t).co.roots = [{ r with progress := some r.dueL, progressAt := s.ft + 2000 }] ∧
      s.sendsCtl u t d coll (ctlRec 3 0 r.dueL 0) ∧ u.out = s.out ∧ s.stopOnly u t) ∧
  (∀ (t coll : Nat) (r : CollRoot) (g : Group) (s : State), s.stopRuns t → (s.stop t).co.roots = [r] → r.coll = coll → r.state < 3 →
    r.gtl ≤ s.ft → s.groupOf coll = some g →
    ∃ u, exec (.gtlTimeout t coll) s = .next u ∧ (u.stop t).co.roots = [{ r with state := 4, due := some (s.ft + 2000000) }] ∧
      s.sendsDown u t (s.planAt t g).ctlTree coll .abort (ctlRec 4 (3 * 2 ^ 17) r.l 0) ∧ u.out = s.out ∧ s.stopOnly u t) ∧
  (∀ (t coll : Nat) (m : CollM) (s : State), s.stopRuns t → (s.stop t).co.live = [m] → m.coll = coll →
    (m.waiting = true ∨ ∀ x ∈ (s.stop t).si.msgs, x.ofColl coll = false) → m.deadline ≤ s.ft →
    ∃ (u : State) (f : FaultMsg) (x : BitVec 128), exec (.memberTimeout t coll) s = .next u ∧ u.out = s.out ++ [.fault f, .cmp t 3 x] ∧
      f.code = 0x0404 ∧ f.unit = BitVec.ofNat 16 (unitId uSi (s.phys t)) ∧ x.extractLsb' 0 4 = 3 ∧ x.extractLsb' 96 32 = m.ctag ∧
      (u.stop t).co.live = [] ∧ s.stopsBut u t) ∧
  (∀ (t coll d : Nat) (r : CollRoot) (s : State), s.stopRuns t → (s.stop t).co.roots = [r] → r.coll = coll → r.due = some d → d ≤ s.ft →
    ∃ u, exec (.rootRecordEnd t coll) s = .next u ∧ (u.stop t).co.roots = [] ∧ u.out = s.out ∧ s.stopOnly u t) ∧
  (∀ (t coll due cause pnode : Nat) (d : CollDep) (g : Group) (n : PlanNode) (s : State), s.stopRuns t → (s.stop t).si.msgs = [] →
    (s.stop t).co.roots = [] → (s.stop t).co.deps = [d] → d.coll = coll → s.groupOf coll = some g → d.cause = some (due, cause, pnode) → due ≤ s.ft →
    (nth default g.plans (Tab.get 0 (s.stop t).cu.plans g.id)).nodes.find? (fun n => n.pnode == pnode && n.fallback != 0) = some n →
    ∃ u x, exec (.deputyTakeover t coll) s = .next u ∧ (u.stop t).co.roots = [x] ∧ x.coll = coll ∧ x.sig = d.sig ∧ x.dep = true ∧
      x.l = d.l ∧ x.state = 2 ∧ x.replays = 1 ∧ (u.stop t).co.deps = [] ∧ (u.stop t).co.takeovers = inc8 (s.stop t).co.takeovers ∧
      Tab.get 0 (u.stop t).cu.plans g.id = n.fallback ∧
      s.sendsDown u t (nth default g.plans n.fallback).ctlTree coll .order
        (ctlRec 5 (cause * 2 ^ 17 + pnode) d.l (orderSaf n.fallback 1 true false true)) ∧ u.out = s.out ∧ s.stopOnly u t) ∧
  (∀ (t : Nat) (m : CMsg) (r : CollRoot) (g : Group) (s : State), s.stopRuns t → s.regWrite t 0x510 m → (s.stop t).co.roots = [r] →
    r.coll = (regData m).toNat % 65536 → r.state < 3 → s.groupOf r.coll = some g →
    ∃ u, exec (.stopCollAbortWrite t m) s = .next u ∧ (u.stop t).co.roots = [{ r with state := 4, due := some (s.ft + 2000000) }] ∧
      s.sendsDown u t (s.planAt t g).ctlTree r.coll .abort (ctlRec 4 (3 * 2 ^ 17) r.l 0) ∧ s.regAnswered u t m rOk 0 ∧ u.out = s.out ∧
      s.stopOnly u t) ∧
  (∀ (t : Nat) (m : CMsg) (s : State), s.stopRuns t → s.regWrite t 0x510 m → (s.stop t).co.roots = [] →
    ∃ u, exec (.stopCollAbortWrite t m) s = .next u ∧ s.regAnswered u t m rError 0 ∧ u.out = s.out ∧ (u.stop t).co = (s.stop t).co ∧
      s.stopOnly u t) ∧
  (∀ (t coll : Nat) (i : Instr) (s : State), s.stopRuns t →
    (i = .gtlTimeout t coll ∧ (∀ r ∈ (s.stop t).co.roots, s.ft < r.gtl) ∨
      i = .memberTimeout t coll ∧ (∀ m ∈ (s.stop t).co.live, s.ft < m.deadline) ∨
      i = .commitProgressTimer t coll ∧ (∀ r ∈ (s.stop t).co.roots, s.ft < r.progressAt) ∨
      i = .rootRecordEnd t coll ∧ (∀ r ∈ (s.stop t).co.roots, r.due = none)) → exec i s = .next s)

/-! ## Lanes and bring-up (11) -/

/-- The keeper lane (R338 to R342, R347): each character's 8b/10b code is that character again; three aligned idle sets lock it and 64 characters
without K28.5 unlock it; the bytes between K27.7 and K29.7 are a message where CRC, type and length agree, and a bad CRC is counted and reported
as 0x0701; the transmitter hands over the code of one character at phase 0 of a tick and nothing in another phase, the message of the first place
next and an idle set between messages; a request without an answer is sent again three times; the loss of lock for 100 µs, or a DOWN message,
takes an ACTIVE link to DOWN with the fault 0x0704. The message that departs here is no tide message. -/
def Obligations.KeeperLaneCarriesMessages : Prop :=
  (∀ (rd : Bool) (b : Byte), decChar rd (encChar rd (.d b)) = .d b) ∧
  (∀ (n : Nat) (v : BitVec 10) (s : State), s.linkRuns n → (s.link n).state ≠ 0 → (s.link n).kpr.decode v = .d 0x50 →
    (s.link n).kpr.locked = false → (s.link n).kpr.sets = 2 → (s.link n).kpr.pos = true →
    ∃ u, exec (.keeperCharacter n v) s = .next u ∧ (u.link n).kpr.locked = true ∧ (u.link n).kpr.lostAt = none ∧ s.linkOnly u n ∧
      u.out = s.out) ∧
  (∀ (n : Nat) (v : BitVec 10) (s : State), s.linkRuns n → (s.link n).state ≠ 0 → (s.link n).kpr.decode v ≠ .k28_5 →
    (s.link n).kpr.locked = true → 63 ≤ (s.link n).kpr.since →
    ∃ u, exec (.keeperCharacter n v) s = .next u ∧ (u.link n).kpr.locked = false ∧ (u.link n).kpr.lostAt = some s.fc ∧
      (u.link n).kpr.rx = none ∧ (u.link n).kpr.comma = inc8 (s.link n).kpr.comma ∧ s.linkOnly u n ∧ u.out = s.out) ∧
  (∀ (n : Nat) (v : BitVec 10) (s : State), s.linkRuns n → (s.link n).kpr.decode v = .k27_7 → s.keeperHears n → (s.link n).kpr.rx = none →
    ∃ u, exec (.keeperCharacter n v) s = .next u ∧ (u.link n).kpr.rx = some [] ∧ (u.link n).kpr.rxAt = s.nowFc ∧ s.linkOnly u n ∧
      u.out = s.out) ∧
  (∀ (n : Nat) (v : BitVec 10) (b : Byte) (bs : List Byte) (s : State), s.linkRuns n → (s.link n).kpr.decode v = .d b → s.keeperHears n →
    (s.link n).kpr.rx = some bs → bs.length < 28 →
    ∃ u, exec (.keeperCharacter n v) s = .next u ∧ (u.link n).kpr.rx = some (bs ++ [b]) ∧ s.linkOnly u n ∧ u.out = s.out) ∧
  (∀ (n : Nat) (v : BitVec 10) (ty q : Byte) (data : List Byte) (s : State), s.linkRuns n → (s.link n).kpr.decode v = .k29_7 →
    s.keeperHears n → (s.link n).kpr.rx = some (ty :: q :: data ++ bytesOf 2 (crc16 (ty :: q :: data)).toNat) → kLen ty = some data.length →
    ∃ u, exec (.keeperCharacter n v) s = .next u ∧ (u.link n).kpr.rx = none ∧
      u.out = s.out ++ [.keeper n { ktype := ty, kseq := q, data := data }] ∧ s.linkOnly u n) ∧
  (∀ (n : Nat) (v : BitVec 10) (bs : List Byte) (s : State), s.linkRuns n → (s.link n).kpr.decode v = .k29_7 → s.keeperHears n →
    (s.link n).kpr.rx = some bs → 4 ≤ bs.length → (crc16 (bs.take (bs.length - 2))).toNat ≠ leAt bs (bs.length - 2) 2 →
    ∃ u, exec (.keeperCharacter n v) s = .next u ∧ (u.link n).kpr.rx = none ∧ (u.link n).kpr.crcErr = inc8 (s.link n).kpr.crcErr ∧
      s.reported u (unitId uPhy n) 0x0701 ∧ s.linksBut u n) ∧
  (∀ (n : Nat) (c : KChar) (cs : List KChar) (s : State), s.linkRuns n → s.tide.phase = 0 → (s.link n).keeperOn = true →
    (s.link n).kpr.sending = c :: cs →
    ∃ u, exec (.keeperTransmit n) s = .next u ∧ s.codeLeaves u n c ∧ (u.link n).kpr.sending = cs ∧
      (u.link n).kpr.tx = (s.link n).kpr.tx ∧ (u.link n).kpr.waits = (s.link n).kpr.waits ∧ s.linkOnly u n) ∧
  (∀ (n : Nat) (s : State), s.linkRuns n → s.tide.phase = 0 → (s.link n).keeperOn = true → (s.link n).kpr.sending = [] →
    (s.link n).kpr.tx = [] →
    ∃ u, exec (.keeperTransmit n) s = .next u ∧ s.codeLeaves u n .k28_5 ∧ (u.link n).kpr.sending = [.d 0x50] ∧ (u.link n).kpr.idled = true ∧
      (u.link n).kpr.tx = [] ∧ (u.link n).kpr.waits = (s.link n).kpr.waits ∧ s.linkOnly u n) ∧
  (∀ (n : Nat) (k : KMsg) (s : State), s.linkRuns n → s.tide.phase = 0 → (s.link n).keeperOn = true → (s.link n).kpr.sending = [] →
    kPick (s.link n).kpr.tx = some k → (s.link n).kpr.idled = true → (s.link n).idleOnly = false → k.ktype ≠ 0x09 → k.ktype ≠ 0x0A →
    ∃ u, exec (.keeperTransmit n) s = .next u ∧ s.codeLeaves u n .k27_7 ∧ (u.link n).kpr.tx = (s.link n).kpr.tx.erase k ∧
      (u.link n).kpr.sending = (kmsgChars k).drop 1 ∧ (u.link n).kpr.idled = false ∧
      (∀ w ∈ (s.link n).kpr.waits, w.1 = k → (k, s.fc + 20000, w.2.2) ∈ (u.link n).kpr.waits) ∧ s.linkOnly u n) ∧
  (∀ (n : Nat) (s : State), s.linkRuns n → s.tide.phase ≠ 0 → exec (.keeperTransmit n) s = .next s) ∧
  (∀ (n d i : Nat) (k : KMsg) (s : State), s.linkRuns n → (s.link n).kpr.waits = [(k, d, i)] → d ≠ 0 → d ≤ s.fc → i < 3 →
    ∃ u, exec (.keeperResendTimeout n) s = .next u ∧ s.keeperSends u n k ∧ (u.link n).kpr.waits = [(k, 0, i + 1)] ∧
      (u.link n).kpr.resend = inc8 (s.link n).kpr.resend ∧ s.linkOnly u n ∧ u.out = s.out) ∧
  (∀ (n d : Nat) (k : KMsg) (s : State), s.linkRuns n → (s.link n).kpr.waits = [(k, d, 3)] → d ≠ 0 → d ≤ s.fc → k.ktype ≠ 0x0D →
    k.ktype ≠ 0x09 →
    ∃ u, exec (.keeperResendTimeout n) s = .next u ∧ u.link n = { s.link n with kpr := { (s.link n).kpr with waits := [] } } ∧ s.linkOnly u n ∧
      u.out = s.out) ∧
  (∀ (n a : Nat) (s : State), s.linkRuns n → (s.link n).state = 5 → (s.link n).kpr.lostAt = some a → a + 200000 ≤ s.fc →
    ∃ u, exec (.keeperLossTimeout n) s = .next u ∧ s.goesDown u n 3 ∧ s.reported u (unitId uPhy n) 0x0704) ∧
  (∀ (n : Nat) (k : KMsg) (s : State), s.linkRuns n → (s.link n).state = 5 → k.ktype = 0x0F →
    ∃ u, exec (.keeperDownReceived n k) s = .next u ∧ s.goesDown u n 5 ∧ s.reported u (unitId uPhy n) 0x0704)

/-- The stages from DETECT to ACTIVE (R341, R343 to R346, R348): DETECT notes the far terminations and begins its 2 ms; HELLO leaves at its
times and takes the link to TRAIN for 20 ms, every lane at its first taps; a TRAIN_REQ moves the lane's taps and is answered; a quiet window
makes a lane ready, which the far end hears; TRAIN ends in LOCK with the two lowest ready lanes as logical lanes and a third as the spare;
LOCK ends in CAPS when both ends are locked; CAPS is judged and answered, and ends in ACTIVE when result 0 has gone both ways; a wrong peer
is the fault 0x0705 and DOWN. -/
def Obligations.LinksComeUp : Prop :=
  (∀ (n : Nat) (present : BitVec 3) (s : State), s.linkRuns n → (s.link n).state = 1 → (s.link n).kdet = none →
    ∃ u, exec (.receiverDetect n present true) s = .next u ∧ (u.link n).kdet = some s.fc ∧ (u.link n).stageDue = some (s.fc + 4000000) ∧
      (∀ k, k < 3 → ((u.link n).lane k).detected = present.getLsbD k) ∧ (u.link n).state = 1 ∧ u.out = s.out ∧ s.linkOnly u n) ∧
  (∀ (n : Nat) (s : State), s.linkRuns n → (s.link n).state ≠ 0 → (s.link n).helloDue ≤ s.fc →
    ∃ u, exec (.helloTimer n) s = .next u ∧ s.keeperSends u n (s.helloMsg n) ∧
      (u.link n).helloDue = s.fc + (if (s.link n).state = 1 then 20000 else 2000000) ∧ u.out = s.out ∧ s.linkOnly u n) ∧
  (∀ (n : Nat) (k : KMsg) (s : State), s.linkRuns n → (s.link n).state = 1 → (s.link n).kpr.locked = true → k.ktype = 0x01 →
    nth 0 k.data 7 ≠ 7 → nth 0 k.data 7 ≠ 8 →
    ∃ u, exec (.helloReceived n k) s = .next u ∧ (u.link n).state = 2 ∧ (u.link n).stageDue = some (s.fc + 40000000) ∧
      (∀ i, i < 3 → ((u.link n).lane i).ready = false ∧ ((u.link n).lane i).winEnd = some (s.fc + 2000000) ∧
        (((s.link n).lane i).next = none → s.calibOf n i = none → (s.link n).preset = 1 →
          ((u.link n).lane i).pre = 0 ∧ ((u.link n).lane i).post = 8 ∧ ((u.link n).lane i).main = 56)) ∧ u.out = s.out ∧ s.linkOnly u n) ∧
  (∀ (n lane : Nat) (k : KMsg) (s : State), s.linkRuns n → (s.link n).state = 2 → s.keeperNew n k → k.ktype = 0x02 →
    lane = (nth 0 k.data 0).toNat → lane < 3 → ((s.link n).lane lane).ovr = false → nth 0 k.data 1 = 0x80 →
    ∃ u, exec (.trainReqReceived n k) s = .next u ∧ ((u.link n).lane lane).pre = 4 ∧ ((u.link n).lane lane).post = 8 ∧
      ((u.link n).lane lane).main = 52 ∧ ((u.link n).lane lane).farReady = (nth 0 k.data 2).getLsbD 0 ∧
      s.keeperSends u n (kAnswer k 0x03 [BitVec.ofNat 8 lane, 0b010101, 0, 0]) ∧ u.out = s.out ∧ s.linkOnly u n) ∧
  (∀ (n lane : Nat) (k : KMsg) (x : Lane) (s : State), s.linkRuns n → (s.link n).state = 2 → s.keeperNew n k → k.ktype = 0x02 →
    lane = (nth 0 k.data 0).toNat → lane < 3 → (s.link n).lane lane = x → x.ovr = false → nth 0 k.data 1 = 0x20 → x.post.toNat < 20 →
    x.pre.toNat + x.post.toNat < 32 → x.pre.toNat + x.post.toNat + x.main.toNat = 64 →
    ∃ u, exec (.trainReqReceived n k) s = .next u ∧ ((u.link n).lane lane).pre = x.pre ∧ ((u.link n).lane lane).post = x.post + 1 ∧
      ((u.link n).lane lane).main = x.main - 1 ∧ s.keeperSends u n (kAnswer k 0x03 [BitVec.ofNat 8 lane, 0b010100, 0, 0]) ∧ u.out = s.out) ∧
  (∀ (n : Nat) (k : KMsg) (s : State), s.linkRuns n → (s.link n).state = 2 → k.ktype = 0x03 →
    (∀ i, i < 3 → ((s.link n).lane i).ready = true ∧ ((s.link n).lane i).farReady = true) → (s.link n).spareEn = true →
    ∃ u, exec (.trainAnsReceived n k) s = .next u ∧ (∀ w ∈ (u.link n).kpr.waits, w.1.ktype ≠ 0x02 ∨ w.1.kseq ≠ k.kseq) ∧
      (u.link n).state = 3 ∧ (u.link n).stageDue = some (s.fc + 2000000) ∧ (u.link n).tx0 = 0 ∧ (u.link n).tx1 = 1 ∧
      ((u.link n).lane 2).txst = 2 ∧ (u.link n).lockAt = s.fc ∧ u.out = s.out ∧ s.linkOnly u n) ∧
  (∀ (n lane errors e : Nat) (giveUp : Bool) (s : State), s.linkRuns n → (s.link n).state = 2 → lane < 3 →
    ((s.link n).lane lane).winEnd = some e → e ≤ s.fc → ((s.link n).lane lane).ready = false → errors ≤ 2048 →
    ∃ u, exec (.trainWindowEnd n lane errors giveUp) s = .next u ∧ ((u.link n).lane lane).ready = true ∧
      s.keeperAsks u n 0x02 [BitVec.ofNat 8 lane, 0, 1, 0] ∧ u.out = s.out ∧ s.linkOnly u n) ∧
  (∀ (n lane errors e : Nat) (giveUp : Bool) (s : State), s.linkRuns n → (s.link n).state = 2 → lane < 3 →
    ((s.link n).lane lane).winEnd = some e → e ≤ s.fc → ((s.link n).lane lane).ready = false → 2048 < errors →
    ∃ u, exec (.trainWindowEnd n lane errors giveUp) s = .next u ∧ ((u.link n).lane lane).ready = false ∧
      ((u.link n).lane lane).giveUp = giveUp ∧ (((s.link n).lane lane).ovr = true → ((u.link n).lane lane).ctle = ((s.link n).lane lane).ctle) ∧
      u.out = s.out ∧ s.linkOnly u n) ∧
  (∀ (n : Nat) (s : State), s.linkRuns n → (s.link n).state = 3 → (s.link n).lockDue ≤ s.fc → (s.link n).farLock = false →
    ∃ u, exec (.lockMsgTimer n) s = .next u ∧ s.keeperSends u n (s.link n).lockMsg ∧ (u.link n).lockDue = s.fc + 20000 ∧
      (u.link n).lockTold = (s.link n).ownLock ∧ (u.link n).state = 3 ∧ u.out = s.out ∧ s.linkOnly u n) ∧
  (∀ (n : Nat) (k : KMsg) (s : State), s.linkRuns n → (s.link n).state = 3 → k.ktype = 0x04 → (s.link n).ownLock = true → (s.link n).lockTold = true →
    (nth 0 k.data 0).toNat &&& (s.link n).txMask = (s.link n).txMask → (nth 0 k.data 1).getLsbD 0 = true →
    ∃ u, exec (.lockMsgReceived n k) s = .next u ∧ (u.link n).state = 4 ∧ (u.link n).stageDue = some (s.fc + 2000000) ∧
      s.keeperAsks u n 0x05 (s.capsData n) ∧ u.out = s.out ∧ s.linksBut u n) ∧
  (∀ (n : Nat) (k : KMsg) (s : State), s.linkRuns n → (s.link n).state = 4 → s.keeperNew n k → k.ktype = 0x05 → s.capsResult n k.data = 0 →
    (s.link n).capsRcvd = false →
    ∃ u, exec (.capsReceived n k) s = .next u ∧ (u.link n).state = 4 ∧ (u.link n).capsSent = true ∧ (u.link n).farVld = true ∧
      (u.link n).farLink = nth 0 k.data 6 ∧ (u.link n).farNode = BitVec.ofNat 12 (leAt k.data 4 2) ∧
      s.keeperSends u n (kAnswer k 0x06 [0, 0, 0, 0]) ∧ u.out = s.out ∧ s.linkOnly u n) ∧
  (∀ (n res : Nat) (k : KMsg) (s : State), s.linkRuns n → (s.link n).state = 4 → s.keeperNew n k → k.ktype = 0x05 →
    s.capsResult n k.data = res → res = 3 →
    ∃ u, exec (.capsReceived n k) s = .next u ∧ s.goesDown u n 8 ∧ s.reported u (unitId uPhy n) 0x0705 ∧
      (u.link n).kpr.tx.getLast? = some (kAnswer k 0x06 [3, 0, 0, 0])) ∧
  (∀ (n : Nat) (k : KMsg) (s : State), s.linkRuns n → (s.link n).state = 4 → k.ktype = 0x06 →
    ((s.link n).kpr.asked 0x05 k.kseq).isSome = true → nth 0 k.data 0 = 0 → (s.link n).capsSent = true → (s.link n).ll.lossDue = false →
    ∃ u, exec (.capsAckReceived n k) s = .next u ∧ (u.link n).state = 5 ∧ (u.link n).attempts = 0 ∧ (u.link n).stageDue = none ∧
      (u.link n).ll.nextSeq = 0 ∧ (u.link n).ll.expected = 0 ∧
      (∀ vc, vc < 6 → Tab.get 0 (u.link n).ll.credit vc = (if vc < 4 then (s.link n).ll.farT else (s.link n).ll.farC)) ∧
      ((u.stop (linkTile s.build n)).rt.outp (5 + linkPort s.build n)).dead = false ∧ u.out = s.out ∧ s.linksBut u n) ∧
  (∀ (n : Nat) (k : KMsg) (s : State), s.linkRuns n → (s.link n).state = 4 → k.ktype = 0x06 →
    ((s.link n).kpr.asked 0x05 k.kseq).isSome = true → (nth 0 k.data 0).toNat ≠ 0 → (nth 0 k.data 0).toNat ≠ 3 →
    ∃ u, exec (.capsAckReceived n k) s = .next u ∧ s.goesDown u n 7)

/-- Data lanes and their spares (R333 to R337, R349 to R351, R555): a codeword on a locked lane is counted, unless the event crossing is full
(R32); the blocks of one on the only logical lane are descrambled and join the link stream, whose whole frames leave for the link layer; two
markers 256 apart lock a lane and three uncorrectable codewords in a row unlock it, and a logical lane that fails so is marked failed and asked to
be replaced; so is one whose window holds too many corrections, while a spare is only marked; a request for a spare or for fewer lanes is granted
for a codeword count to come with its fault, or refused; the maps change at that count; with no lane left the link goes to DOWN. -/
def Obligations.LanesAreSpared : Prop :=
  (∀ (n lane : Nat) (c : Codeword) (x : Lane) (s : State), s.linkRuns n → lane < 3 → (s.link n).state = 5 → (s.link n).lane lane = x →
    x.cwlock = true → x.rxst ≠ 1 → c.uncorrectable = false → (x.cw + 1).toNat % 256 ≠ 0 → x.badMark < 2 →
    ∃ u, exec (.codewordReceived n lane c false) s = .next u ∧ ((u.link n).lane lane).cw = x.cw + 1 ∧ ((u.link n).lane lane).badCw = 0 ∧
      ((u.link n).lane lane).corr = satAdd x.corr c.errs.length ∧ ((u.link n).lane lane).uncor = x.uncor ∧
      ((u.link n).lane lane).cwlock = true ∧ (∀ j, j ≠ lane → (u.link n).lane j = (s.link n).lane j) ∧ u.out = s.out ∧ s.linkOnly u n) ∧
  (∀ (n lane : Nat) (c : Codeword) (x : Lane) (s : State), s.linkRuns n → lane < 3 → (s.link n).state = 5 → (s.link n).lane lane = x →
    x.cwlock = true → x.rxst ≠ 1 → c.uncorrectable = false → c.errs ≠ [] → (x.cw + 1).toNat % 256 ≠ 0 → x.badMark < 2 →
    ∃ u, exec (.codewordReceived n lane c true) s = .next u ∧ (u.link n).ll.ovrEv = true ∧ ((u.link n).lane lane).cw = x.cw + 1 ∧
      ((u.link n).lane lane).corr = x.corr ∧ ((u.link n).lane lane).uncor = x.uncor ∧ u.out = s.out ∧ s.linkOnly u n) ∧
  (∀ (n lane : Nat) (c : Codeword) (x : Lane) (blocks rest : List (List Byte)) (st : BitVec 58) (fs : List Frame) (s : State),
    s.linkRuns n → lane < 3 → (s.link n).state = 5 → (s.link n).rx0 = lane → (s.link n).rx1 = 3 → (s.link n).lane lane = x →
    x.cwlock = true → x.rxst = 1 → x.rxcw = [] → c.uncorrectable = false → (x.cw + 1).toNat % 256 ≠ 0 → x.badMark < 2 →
    takeBlocks c.blocks x.dscr = (blocks, st) → takeFrames 64 ((s.link n).rxb ++ blocks) = (fs, rest) →
    ∃ u, exec (.codewordReceived n lane c false) s = .next u ∧ u.out = s.out ++ fs.map (.rxFrame n) ∧ (u.link n).rxb = rest ∧
      ((u.link n).lane lane).dscr = st ∧ ((u.link n).lane lane).cw = x.cw + 1 ∧ s.linkOnly u n) ∧
  (∀ (n lane : Nat) (c : Codeword) (m : BitVec 32) (two : Bool) (ll pl : BitVec 2) (x : Lane) (s : State), s.linkRuns n → lane < 3 →
    (s.link n).state = 5 → (s.link n).lane lane = x → x.cwlock = false → x.rxst ≠ 1 → c.uncorrectable = false → 3 ≤ x.hunt → x.huntCw < 512 →
    x.huntMark = some m → x.huntCw = x.huntAt + 256 → c.marker = some (m + 256, two, ll, pl) →
    ∃ u, exec (.codewordReceived n lane c false) s = .next u ∧ ((u.link n).lane lane).cwlock = true ∧ ((u.link n).lane lane).cw = m + 256 ∧
      ((u.link n).lane lane).llane = ll.toNat ∧ ((u.link n).lane lane).two = two ∧ u.out = s.out ∧ s.linkOnly u n) ∧
  (∀ (n lane : Nat) (c : Codeword) (full : Bool) (x : Lane) (s : State), s.linkRuns n → lane < 3 → (s.link n).state = 5 →
    (s.link n).lane lane = x → x.cwlock = true → x.rxst = 1 → c.uncorrectable = true → x.badCw = 2 → (s.link n).rx0 = lane →
    (s.link n).rxSpare < 3 → s.pwr.asleep = [] →
    ∃ u, exec (.codewordReceived n lane c full) s = .next u ∧ ((u.link n).lane lane).cwlock = false ∧ ((u.link n).lane lane).rxst = 3 ∧
      s.keeperAsks u n 0x07 ([0, 1, 1, 0] ++ bytesOf 4 (x.cw + 1).toNat) ∧ u.out = s.out ∧ s.linkOnly u n) ∧
  (∀ (n lane : Nat) (s : State), s.linkRuns n → lane < 3 → ((s.link n).lane lane).cwlock = false →
    ∃ u, exec (.laneLossOfSignal n lane) s = .next u ∧ ((u.link n).lane lane).los = true ∧ ((u.link n).lane lane).hunt = 0 ∧
      (u.link n).kpr = (s.link n).kpr ∧ u.out = s.out ∧ s.linkOnly u n) ∧
  (∀ (n lane : Nat) (s : State), s.linkRuns n → lane < 3 → (s.link n).fecOn = true → ((s.link n).lane lane).cwlock = true →
    ((s.link n).lane lane).rxst = 2 → (s.link n).rx0 ≠ lane → (s.link n).rx1 ≠ lane → s.pwr.asleep = [] →
    ∃ u, exec (.laneLossOfSignal n lane) s = .next u ∧ ((u.link n).lane lane).los = true ∧ ((u.link n).lane lane).cwlock = false ∧
      ((u.link n).lane lane).rxst = 3 ∧ (u.link n).kpr = (s.link n).kpr ∧ u.out = s.out ∧ s.linkOnly u n) ∧
  (∀ (n lane e : Nat) (x : Lane) (s : State), s.linkRuns n → lane < 3 → (s.link n).fecOn = true → (s.link n).lane lane = x →
    x.winEnd = some e → e ≤ s.fc → x.winCorr ≤ (s.link n).corrLim.toNat → x.winUnc < (s.link n).uncLim.toNat →
    ∃ u, exec (.laneHealthWindow n lane) s = .next u ∧
      (u.link n).lane lane = { x with winCorr := 0, winUnc := 0, winEnd := some (e + 2000000) } ∧ u.out = s.out ∧ s.linkOnly u n) ∧
  (∀ (n lane e : Nat) (x : Lane) (s : State), s.linkRuns n → lane < 3 → (s.link n).fecOn = true → (s.link n).lane lane = x →
    x.winEnd = some e → e ≤ s.fc → (s.link n).corrLim.toNat < x.winCorr → x.rxst = 2 → (s.link n).rx0 ≠ lane → (s.link n).rx1 ≠ lane →
    ∃ u, exec (.laneHealthWindow n lane) s = .next u ∧ ((u.link n).lane lane).rxst = 3 ∧ (u.link n).kpr = (s.link n).kpr ∧ u.out = s.out ∧
      s.linkOnly u n) ∧
  (∀ (n lane ll reason : Nat) (s : State), s.linkRuns n → lane < 3 → (s.link n).swapDue = some (ll, reason) →
    ((s.link n).lane lane).rxst = 2 →
    ∃ u, exec (.spareLaneWake n lane) s = .next u ∧ (u.link n).swapDue = none ∧ ((u.link n).lane lane).cwlock = true ∧
      s.keeperAsks u n 0x07 ([BitVec.ofNat 8 ll, 1, BitVec.ofNat 8 reason, 0] ++ bytesOf 4 ((s.link n).lane lane).cw.toNat) ∧ u.out = s.out ∧
      s.linkOnly u n) ∧
  (∀ (n sp : Nat) (k : KMsg) (s : State), s.linkRuns n → isSwap k 1 = true → (s.link n).fecOn = true → s.keeperNew n k →
    (s.link n).swapWait = [] → (s.link n).txSw = none → nth 0 k.data 0 = 0 → (s.link n).txSpare = sp → sp < 3 → (s.link n).tx0 < 3 →
    ∃ u, exec (.swapReqSpareIn n k) s = .next u ∧ (u.link n).txSw = some
        { n := BitVec.ofNat 32 (swapN (s.txCount (s.link n))), map0 := sp, map1 := (s.link n).tx1, freed := (s.link n).tx0 } ∧
      s.reported u (unitId uPhy n) 0x0706 ∧ s.keeperSends u n (swapAck k 0 1 0 sp (swapN (s.txCount (s.link n)))) ∧
      (u.link n).tx0 = (s.link n).tx0 ∧ s.linksBut u n) ∧
  (∀ (n : Nat) (k : KMsg) (s : State), s.linkRuns n → isSwap k 2 = true → (s.link n).fecOn = true → s.keeperNew n k →
    (s.link n).swapWait = [] → (s.link n).txSw = none → nth 0 k.data 0 = 1 → (s.link n).tx0 < 3 → (s.link n).tx1 < 3 →
    ∃ u, exec (.swapReqDropLane n k) s = .next u ∧ (u.link n).txSw = some
        { n := BitVec.ofNat 32 (swapN (s.txCount (s.link n))), map0 := (s.link n).tx0, map1 := 3, freed := (s.link n).tx1 } ∧
      s.reported u (unitId uPhy n) 0x0707 ∧ s.linksBut u n) ∧
  (∀ (n : Nat) (k : KMsg) (s : State), s.linkRuns n → isSwap k 2 = true → (s.link n).fecOn = true → s.keeperNew n k →
    (s.link n).swapWait = [] → (s.link n).txSw = none → nth 0 k.data 0 = 0 → (s.link n).tx1 = 3 →
    ∃ u, exec (.swapReqDropLane n k) s = .next u ∧ (u.link n).txSw = none ∧ s.keeperSends u n (swapAck k 0 2 2 3 0) ∧ u.out = s.out ∧
      s.linkOnly u n) ∧
  (∀ (n : Nat) (k q : KMsg) (s : State), s.linkRuns n → k.ktype = 0x08 → (s.link n).kpr.asked 0x07 k.kseq = some q → nth 0 k.data 2 = 1 →
    ∃ u, exec (.swapAckReceived n k) s = .next u ∧
      s.keeperAsks u n 0x07 ([nth 0 q.data 0, 2, nth 0 q.data 2, 0] ++ bytesOf 4 (leAt q.data 4 4)) ∧ u.out = s.out ∧ s.linkOnly u n) ∧
  (∀ (n : Nat) (k q : KMsg) (s : State), s.linkRuns n → k.ktype = 0x08 → (s.link n).kpr.asked 0x07 k.kseq = some q → nth 0 k.data 2 = 2 →
    (s.link n).fecOn = true → ∃ u, exec (.swapAckReceived n k) s = .next u ∧ s.goesDown u n 4) ∧
  (∀ (n : Nat) (w : MapSwitch) (s : State), s.linkRuns n → (s.link n).fecOn = true → (s.link n).txSw = some w →
    w.n.toNat ≤ s.txCount (s.link n) → w.map0 < 3 → w.freed < 3 → w.freed ≠ w.map0 → w.freed ≠ w.map1 → (s.link n).swapWait = [] →
    ∃ u, exec (.txMapSwitch n) s = .next u ∧ (u.link n).tx0 = w.map0 ∧ (u.link n).tx1 = w.map1 ∧ (u.link n).txSw = none ∧
      ((u.link n).lane w.freed).txst = 3 ∧ ((u.link n).lane w.map0).txst = 1 ∧ u.out = s.out ∧ s.linkOnly u n) ∧
  (∀ (n a : Nat) (s : State), s.linkRuns n → (s.link n).fecOn = true → (s.link n).markedAs 0 = a → a < 3 → ((s.link n).lane a).two = false →
    ((s.link n).lane a).rxst ≠ 3 →
    ∃ u, exec (.rxMapSwitch n) s = .next u ∧ (u.link n).rx0 = a ∧ (u.link n).rx1 = 3 ∧ ((u.link n).lane a).rxst = 1 ∧ u.out = s.out ∧
      s.linkOnly u n) ∧
  (∀ (n : Nat) (s : State), s.linkRuns n → (s.link n).fecOn = true → (∀ k, k < 3 → ((s.link n).lane k).cwlock = false) →
    ∃ u, exec (.rxMapSwitch n) s = .next u ∧ s.goesDown u n 4)

/-- LINK_CTL, the times of the stages, and tests (R343, R347, R352 to R356, R359): setting EN begins DETECT; clearing it takes a link in use
to DOWN and any other to DISABLED; RETRAIN goes to DOWN, and forgets the attempts of a FAILED link; LOOP goes to TEST, and a far-end loop that
cannot be asked for is an ERROR; a stage out of time ends in DOWN, TRAIN in LOCK where a lane is ready both ways; the holdoff ends in
DISABLED, in FAILED with the fault 0x0702 after three attempts, else in DETECT; an expected link not seen is the fault 0x0703; the test
requests act and are answered; a checker in lock counts the bits that differ from its pattern; the looping side sends its bits back; and in a
near-end loop the pins bring nothing. -/
def Obligations.LinksFollowControl : Prop :=
  (∀ (n : Nat) (m : CMsg) (s : State), s.linkFabRuns n → linkWrites n 0x000 m → (regData m).getLsbD 31 = true → (s.link n).en = false →
    (regData m).extractLsb' 26 2 = 0 → (s.link n).loop = 0 → (regData m).getLsbD 29 = false → (s.link n).state = 0 →
    ∃ u, exec (.linkEnable n m) s = .next u ∧ (u.link n).state = 1 ∧ (u.link n).en = true ∧
      (u.link n).expectDue = some (s.fc + 200000000) ∧ (u.link n).expect = (regData m).getLsbD 30 ∧
      (u.link n).preset = ((regData m).extractLsb' 24 2).toNat ∧ s.regAnswered u (linkTile s.build n) m rOk 0 ∧ u.out = s.out ∧
      s.linksBut u n) ∧
  (∀ (n : Nat) (m : CMsg) (s : State), s.linkFabRuns n → linkWrites n 0x000 m → (regData m).getLsbD 31 = false → (s.link n).en = true →
    (regData m).extractLsb' 26 2 = 0 → (s.link n).loop = 0 → 2 ≤ (s.link n).state → (s.link n).state ≤ 5 →
    ∃ u, exec (.linkDisable n m) s = .next u ∧ s.goesDown u n 1 ∧ (u.link n).en = false) ∧
  (∀ (n : Nat) (m : CMsg) (s : State), s.linkFabRuns n → linkWrites n 0x000 m → (regData m).getLsbD 31 = false → (s.link n).en = true →
    (regData m).extractLsb' 26 2 = 0 → (s.link n).loop = 0 → (s.link n).state = 1 →
    ∃ u, exec (.linkDisable n m) s = .next u ∧ (u.link n).state = 0 ∧ (u.link n).reason = 1 ∧
      s.regAnswered u (linkTile s.build n) m rOk 0 ∧ u.out = s.out ∧ s.linksBut u n) ∧
  (∀ (n : Nat) (m : CMsg) (s : State), s.linkFabRuns n → linkWrites n 0x000 m → (regData m).getLsbD 31 = true → (s.link n).en = true →
    (regData m).extractLsb' 26 2 = 0 → (s.link n).loop = 0 → (regData m).getLsbD 29 = true →
    ∃ u, exec (.linkRetrain n m) s = .next u ∧ (u.link n).state = 6 ∧ (u.link n).reason = 2 ∧
      (u.link n).attempts = (if (s.link n).state = 7 then 1 else min 3 ((s.link n).attempts + 1)) ∧ s.linksBut u n) ∧
  (∀ (n : Nat) (m : CMsg) (s : State), s.linkFabRuns n → linkWrites n 0x000 m → (regData m).extractLsb' 26 2 = 1 → (s.link n).loop ≠ 1 →
    ∃ u, exec (.linkLoopWrite n m) s = .next u ∧ (u.link n).state = 8 ∧ (u.link n).loop = 1 ∧ (u.link n).reason = 9 ∧
      (u.link n).holdoff = none ∧ s.linksBut u n) ∧
  (∀ (n : Nat) (m : CMsg) (s : State), s.linkFabRuns n → linkWrites n 0x000 m → (regData m).extractLsb' 26 2 = 3 → (s.link n).loop ≠ 3 →
    (s.link n).loopOk = false →
    ∃ u, exec (.linkLoopWrite n m) s = .next u ∧ u.links = s.links ∧ s.regAnswered u (linkTile s.build n) m rError 0 ∧ u.out = s.out) ∧
  (∀ (n lane : Nat) (m : CMsg) (s : State), s.linkFabRuns n → lane < 3 → linkWrites n (0x008 + 4 * lane) m →
    ((regData m).getLsbD 26 = false ∨ ((regData m).extractLsb' 12 4).toNat ≤ 12 ∧ ((regData m).extractLsb' 7 5).toNat ≤ 20) →
    ∃ u, exec (.linkLaneWrite n lane m) s = .next u ∧ (u.link n).lane lane = { (s.link n).lane lane with
        ovr := (regData m).getLsbD 26
        next := some ((regData m).extractLsb' 21 5, (regData m).extractLsb' 12 4, (regData m).extractLsb' 7 5) } ∧
      s.regAnswered u (linkTile s.build n) m rOk 0 ∧ u.out = s.out ∧ s.linksBut u n) ∧
  (∀ (n lane : Nat) (m : CMsg) (s : State), s.linkFabRuns n → lane < 3 → linkWrites n (0x008 + 4 * lane) m →
    (regData m).getLsbD 26 = true → (12 < ((regData m).extractLsb' 12 4).toNat ∨ 20 < ((regData m).extractLsb' 7 5).toNat) →
    ∃ u, exec (.linkLaneWrite n lane m) s = .next u ∧ u.links = s.links ∧ s.regAnswered u (linkTile s.build n) m rError 0 ∧ u.out = s.out) ∧
  (∀ (n : Nat) (m : CMsg) (s : State), s.linkFabRuns n → linkWrites n 0x030 m → (s.link n).state = 8 → (regData m).extractLsb' 30 2 ≠ 3 →
    ∃ u, exec (.linkPrbsCtlWrite n m) s = .next u ∧ (u.link n).pat = ((regData m).extractLsb' 30 2).toNat ∧
      (u.link n).gen = (regData m).extractLsb' 8 3 ∧ (u.link n).chkEn = (regData m).extractLsb' 4 3 ∧
      s.regAnswered u (linkTile s.build n) m rOk 0 ∧ u.out = s.out ∧ s.linksBut u n) ∧
  (∀ (n : Nat) (m : CMsg) (s : State), s.linkFabRuns n → linkWrites n 0x030 m → (s.link n).state ≠ 8 →
    ∃ u, exec (.linkPrbsCtlWrite n m) s = .next u ∧ u.links = s.links ∧ s.regAnswered u (linkTile s.build n) m rBusy 0 ∧ u.out = s.out) ∧
  (∀ (n d : Nat) (s : State), s.linkRuns n → (s.link n).stageDue = some d → d ≤ s.fc → (s.link n).state ≠ 2 →
    ∃ u, exec (.stageTimeout n) s = .next u ∧ s.goesDown u n 6) ∧
  (∀ (n d : Nat) (s : State), s.linkRuns n → (s.link n).stageDue = some d → d ≤ s.fc → (s.link n).state = 2 →
    ((s.link n).lane 0).ready = true → ((s.link n).lane 0).farReady = true →
    ∃ u, exec (.stageTimeout n) s = .next u ∧ (u.link n).state = 3 ∧ (u.link n).tx0 = 0 ∧
      (∀ k, k < 3 → ((u.link n).lane k).giveUp = !((s.link n).lane k).ready) ∧ u.out = s.out ∧ s.linkOnly u n) ∧
  (∀ (n d : Nat) (s : State), s.linkRuns n → (s.link n).expectDue = some d → d ≤ s.fc → (s.link n).expect = true → (s.link n).state = 1 →
    ∃ u, exec (.linkNotDetected n) s = .next u ∧ s.reported u (unitId uPhy n) 0x0703 ∧
      u.link n = { s.link n with expectDue := none } ∧ s.linksBut u n) ∧
  (∀ (n d : Nat) (s : State), s.linkRuns n → (s.link n).holdoff = some d → d ≤ s.fc → (s.link n).state = 6 → (s.link n).en = true →
    3 ≤ (s.link n).attempts →
    ∃ u, exec (.downHoldoffEnd n) s = .next u ∧ (u.link n).state = 7 ∧ (u.link n).holdoff = none ∧ s.reported u (unitId uPhy n) 0x0702 ∧
      s.linksBut u n) ∧
  (∀ (n d : Nat) (s : State), s.linkRuns n → (s.link n).holdoff = some d → d ≤ s.fc → (s.link n).state = 6 →
    ((s.link n).en = true → (s.link n).attempts < 3) →
    ∃ u, exec (.downHoldoffEnd n) s = .next u ∧ (u.link n).state = (if (s.link n).en then 1 else 0) ∧ (u.link n).holdoff = none ∧
      u.out = s.out ∧ s.linkOnly u n) ∧
  (∀ (n : Nat) (k : KMsg) (s : State), s.linkRuns n → isTest k 1 = true → s.keeperNew n k → (s.link n).en = true →
    ∃ u, exec (.testReqLoop n k) s = .next u ∧ (u.link n).state = 8 ∧ (u.link n).looping = true ∧ (u.link n).reason = 9 ∧
      (u.link n).kpr.tx.getLast? = some (testAck k 0) ∧ s.linksBut u n) ∧
  (∀ (n : Nat) (k : KMsg) (s : State), s.linkRuns n → isTest k 1 = true → s.keeperNew n k → (s.link n).en = false →
    ∃ u, exec (.testReqLoop n k) s = .next u ∧ (u.link n).state = (s.link n).state ∧ s.keeperSends u n (testAck k 1) ∧ u.out = s.out ∧
      s.linkOnly u n) ∧
  (∀ (n : Nat) (k : KMsg) (s : State), s.linkRuns n → isTest k 0 = true → s.keeperNew n k → (s.link n).state = 8 → (s.link n).loop = 0 →
    ∃ u, exec (.testReqStop n k) s = .next u ∧ s.goesDown u n 9 ∧ (u.link n).kpr.tx.getLast? = some (testAck k 0)) ∧
  (∀ (n : Nat) (k : KMsg) (s : State), s.linkRuns n → isTest k 2 = true → s.keeperNew n k → (s.link n).state = 8 →
    (nth 0 k.data 2).toNat ≤ 2 →
    ∃ u, exec (.testReqPattern n k) s = .next u ∧
      (∀ i, i < 3 → ((u.link n).lane i).sends =
        (if (nth 0 k.data 1).getLsbD i then some (nth 0 k.data 2).toNat else ((s.link n).lane i).sends)) ∧
      s.keeperSends u n (testAck k 0) ∧ u.out = s.out ∧ s.linkOnly u n) ∧
  (∀ (n : Nat) (k q : KMsg) (s : State), s.linkRuns n → k.ktype = 0x0E → (s.link n).kpr.asked 0x0D k.kseq = some q → nth 0 q.data 0 = 1 →
    (s.link n).state = 8 → (s.link n).loop = 3 →
    ∃ u, exec (.testAckReceived n k) s = .next u ∧ (u.link n).farLoop = decide (nth 0 k.data 0 = 0) ∧
      (∀ w ∈ (u.link n).kpr.waits, w.1.ktype ≠ 0x0D ∨ w.1.kseq ≠ k.kseq) ∧ u.out = s.out ∧ s.linkOnly u n) ∧
  (∀ (n lane : Nat) (b want : Bool) (x : Lane) (s : State), s.linkRuns n → (s.link n).state = 8 → lane < 3 →
    (s.link n).chkEn.getLsbD lane = true → (s.link n).pat = 0 → (s.link n).lane lane = x → x.plock = true → 7 ≤ x.hist.length →
    (s.link n).nearLoop = false → (s.link n).looping = false → (x.errs.filter id).length < 256 → want = (nth false x.hist 6 != nth false x.hist 5) →
    ∃ u, exec (.patternCheckerReceive n lane [b]) s = .next u ∧ ((u.link n).lane lane).hist = (want :: x.hist).take 31 ∧
      ((u.link n).lane lane).prbsErr = (if b = want then x.prbsErr else satAdd x.prbsErr 1) ∧ ((u.link n).lane lane).plock = true ∧
      u.out = s.out ∧ s.linkOnly u n) ∧
  (∀ (n lane : Nat) (bs : List Bool) (s : State), s.linkRuns n → (s.link n).state = 8 → lane < 3 → (s.link n).nearLoop = false →
    (s.link n).looping = true → (s.link n).chkEn.getLsbD lane = false →
    exec (.patternCheckerReceive n lane bs) s = .next { s with out := s.out ++ [.levels n lane (levelsOf bs)] }) ∧
  (∀ (n lane : Nat) (bs : List Bool) (s : State), s.linkRuns n → (s.link n).nearLoop = true →
    exec (.patternCheckerReceive n lane bs) s = .next s)
/-! ## Links, the loss of links and chips, and relays (12, 08) -/

/-- Frames in (R363 to R371, R383): the expected data frame moves the expected sequence and goes to its receive buffer, which the router
empties as it has room; any other asks for a replay unless a NAK is outstanding, as a bad frame does, which is counted; acknowledgements free
the replay buffer, credit returns add up, and a NAK replays all that is unacknowledged; a CTRL ahead of the sequence asks for a replay; a
circuit flit waits for its send time plus the circuit's offset, and a late one is dropped with the fault 0x0306. A frame of any type that finds
its crossing full is lost and sets OVR_RX (R31, R32). -/
def Obligations.FramesArrive : Prop :=
  (∀ (n : Nat) (f : Frame) (s : State), s.frameTakes n f 1 → s.frameQuiet n f → f.hdr.fseq = (s.link n).ll.expected → f.hdr.det = 0 →
    f.hdr.first = 1 → (s.link n).ll.rxOpen.contains f.hdr.vc.toNat = false →
    ∃ u v, exec (.frameTdataReceived n f false) s = .next u ∧ u = v.linkPump n ∧ s.linkOnly v n ∧ v.out = s.out ∧
      (v.link n).ll.expected = (s.link n).ll.expected + 1 ∧ (v.link n).ll.nakUntil = none ∧ (v.link n).ll.nakDue = false ∧
      Tab.get [] (v.link n).ll.rxq f.hdr.vc.toNat = Tab.get [] (s.link n).ll.rxq f.hdr.vc.toNat ++ frameFlits s.build f ∧
      (v.link n).ll.rxOpen.contains f.hdr.vc.toNat = (f.hdr.last == 0)) ∧
  (∀ (n : Nat) (f : Frame) (s : State), s.frameTakes n f 1 → s.frameQuiet n f → f.hdr.fseq ≠ (s.link n).ll.expected →
    ∃ u, exec (.frameTdataReceived n f false) s = .next u ∧ s.linkOnly u n ∧ u.out = s.out ∧
      u.link n = { s.link n with ll := { (s.link n).ll with nakDue := (s.link n).ll.nakDue || (s.link n).ll.nakUntil.isNone } }) ∧
  (∀ (n : Nat) (f : Frame) (s : State), s.linkFabRuns n → (s.link n).state = 5 → s.shut (.linkRx n) = false →
    (s.link n).ll.lossDue = false → frameOk f = false → f.hdr.ftype ≠ 3 →
    ∃ u, exec (.frameTdataReceived n f false) s = .next u ∧ s.linkOnly u n ∧ u.out = s.out ∧
      u.link n = { s.link n with ll := { (s.link n).ll with
        crcErr := inc8 (s.link n).ll.crcErr, nakDue := (s.link n).ll.nakDue || (s.link n).ll.nakUntil.isNone } }) ∧
  (∀ (n vc : Nat) (f : Frame) (s : State), s.frameTakes n f 2 → s.frameQuiet n f → f.hdr.fseq = (s.link n).ll.expected → f.hdr.det = 0 →
    vc = 4 + f.hdr.vc.toNat % 2 →
    ∃ u v a, exec (.frameCdataReceived n f false) s = .next u ∧ u = v.linkPump n ∧ s.linkOnly v n ∧ v.out = s.out ∧
      (v.link n).ll.expected = (s.link n).ll.expected + 1 ∧
      Tab.get [] (v.link n).ll.rxc vc = Tab.get [] (s.link n).ll.rxc vc ++ [(a, f.hdr.nblk.toNat)] ∧
      a.length = 1 + ceilDiv (chdrOfBytes f.data).plen.toNat 16 ∧ (∀ c ∈ a, c.vc = BitVec.ofNat 1 (vc - 4))) ∧
  (∀ (n k : Nat) (f : Frame) (s : State), s.frameTakes n f 4 → f.hdr.nak = 0 → f.hdr.crvc = 7 → 0 < k → k ≤ (s.link n).ll.replay.length →
    (s.link n).ll.replay.length < 1024 →
    f.hdr.ackseq = (s.link n).ll.nextSeq - BitVec.ofNat 10 (s.link n).ll.replay.length + BitVec.ofNat 10 k →
    f.hdr.fseq = (s.link n).ll.expected → (∀ r ∈ (s.link n).ll.replay.take k, r.frame.hdr.last = 0) →
    ∃ u, exec (.frameCtrlReceived n f false) s = .next u ∧ s.linkOnly u n ∧ u.out = s.out ∧
      (u.link n).ll.replay = (s.link n).ll.replay.drop k ∧ (u.link n).ll.replays = 0 ∧ (u.link n).ll.nextSeq = (s.link n).ll.nextSeq) ∧
  (∀ (n : Nat) (f : Frame) (s : State), s.frameTakes n f 4 → f.hdr.nak = 0 → f.hdr.crvc.toNat < 6 →
    f.hdr.ackseq = (s.link n).ll.nextSeq - BitVec.ofNat 10 (s.link n).ll.replay.length → f.hdr.fseq = (s.link n).ll.expected →
    ∃ u, exec (.frameCtrlReceived n f false) s = .next u ∧ s.linkOnly u n ∧ u.out = s.out ∧
      Tab.get 0 (u.link n).ll.credit f.hdr.crvc.toNat = Tab.get 0 (s.link n).ll.credit f.hdr.crvc.toNat + f.hdr.crcnt.toNat ∧
      (∀ v, v ≠ f.hdr.crvc.toNat → Tab.get 0 (u.link n).ll.credit v = Tab.get 0 (s.link n).ll.credit v)) ∧
  (∀ (n : Nat) (f : Frame) (s : State), s.frameTakes n f 4 → f.hdr.nak = 1 → f.hdr.crvc = 7 →
    f.hdr.ackseq = (s.link n).ll.nextSeq - BitVec.ofNat 10 (s.link n).ll.replay.length → f.hdr.fseq = (s.link n).ll.expected →
    (s.link n).ll.replay ≠ [] → (s.link n).ll.replays + 1 < (s.link n).ll.rlim.toNat →
    ∃ u, exec (.frameCtrlReceived n f false) s = .next u ∧ s.linkOnly u n ∧ u.out = s.out ∧
      u.link n = { s.link n with ll := { (s.link n).ll with
        toReplay := (s.link n).ll.replay.length, replays := (s.link n).ll.replays + 1, replayCnt := inc8 (s.link n).ll.replayCnt } }) ∧
  (∀ (n : Nat) (f : Frame) (s : State), s.frameTakes n f 4 → s.frameQuiet n f → 1 ≤ (f.hdr.fseq - (s.link n).ll.expected).toNat →
    (f.hdr.fseq - (s.link n).ll.expected).toNat ≤ 64 →
    ∃ u, exec (.frameCtrlReceived n f false) s = .next u ∧ s.linkOnly u n ∧ u.out = s.out ∧
      u.link n = { s.link n with ll := { (s.link n).ll with nakDue := (s.link n).ll.nakDue || (s.link n).ll.nakUntil.isNone } }) ∧
  (∀ (n w : Nat) (f : Frame) (s : State), s.frameTakes n f 3 → s.frameQuiet n f → s.circOff n = false →
    (s.stop (s.ringAt n).1).rt.ceasedPorts = [] → (s.stop (s.ringAt n).1).rt.cdisc = [] → (s.link n).ll.circRx.length < 64 →
    extendStamp s.now f.hdr.stide * 4 + f.hdr.sph.toNat + (s.linkRec n).circ = (s.nowFc.toNat : Int) + w →
    ∃ u, exec (.frameCircReceived n f false) s = .next u ∧ u.out = s.out ∧ s.linksBut u n ∧
      (u.link n).ll.circRx = (s.link n).ll.circRx ++
        [{ cid := f.hdr.cid.toNat, vc := f.hdr.vc, data := slice f.data 0 128, due := s.ft + w }] ∧
      (u.link n).ll.expected = (s.link n).ll.expected) ∧
  (∀ (n w : Nat) (f : Frame) (s : State), s.frameTakes n f 3 → s.frameQuiet n f → s.circOff n = false →
    (s.stop (s.ringAt n).1).rt.ceasedPorts = [] → (s.stop (s.ringAt n).1).rt.cdisc = [] →
    extendStamp s.now f.hdr.stide * 4 + f.hdr.sph.toNat + (s.linkRec n).circ + (w : Int) + 1 = (s.nowFc.toNat : Int) →
    ∃ u, exec (.frameCircReceived n f false) s = .next u ∧ s.reported u (unitId uLink n) 0x0306 ∧
      (u.link n).ll.circRx = (s.link n).ll.circRx ∧ (u.link n).ll.cdrop = inc8 (s.link n).ll.cdrop) ∧
  (∀ (n : Nat) (f : Frame) (ty : BitVec 4) (i : Instr) (s : State), s.linkRuns n → (s.link n).state = 5 → s.shut (.linkRx n) = false →
    (frameOk f = true → f.hdr.ftype = ty) →
    (i = .frameTdataReceived n f true ∧ ty = 1 ∨ i = .frameCdataReceived n f true ∧ ty = 2 ∨ i = .frameCircReceived n f true ∧ ty = 3 ∨
      i = .frameCtrlReceived n f true ∧ ty = 4) →
    ∃ u, exec i s = .next u ∧ u.link n = { s.link n with ll := { (s.link n).ll with ovrRx := true } } ∧ u.out = s.out ∧ s.linkOnly u n)

/-- Frames out (R363, R365 to R372, R382): a circuit flit first, then a due NAK, then the next replay with its own sequence, then a new frame
of a VC with credit, which takes the next sequence, spends its blocks and is kept until it is acknowledged, then a CTRL frame that is due;
nothing leaves where nothing is due, or where the transmit crossing is full (R31). A frame unacknowledged for RTO
starts a replay, and RLIM replays without progress take the link to DOWN;
a NAK is outstanding for RTO. -/
def Obligations.FramesLeave : Prop :=
  (∀ (n : Nat) (c : CircFlit) (cs : List CircFlit) (s : State), s.linkSends n → s.circOff n = false → (s.link n).ll.circTx = c :: cs →
    ∃ u g, exec (.frameSend n) s = .next u ∧ u.out = s.out ++ [.frame n g] ∧ g.hdr.ftype = 3 ∧ g.hdr.cid = BitVec.ofNat 12 c.cid ∧
      g.hdr.vc = c.vc ∧ g.data = slice c.data 0 128 ∧ g.hdr.crc = frameCrc g ∧ (u.link n).ll.circTx = cs ∧
      (u.link n).ll.nextSeq = (s.link n).ll.nextSeq ∧ s.linkOnly u n) ∧
  (∀ (n : Nat) (s : State), s.linkSends n → (s.link n).ll.circTx = [] → (s.link n).ll.nakDue = true →
    ∃ u, exec (.frameSend n) s = .next u ∧ s.frameLeaves u n 4 (s.link n).ll.nextSeq 1 [] ∧ (u.link n).ll.nakDue = false ∧
      (u.link n).ll.nakUntil = some (s.ft + (s.link n).ll.rto.toNat) ∧ (u.link n).ll.nakSent = inc8 (s.link n).ll.nakSent ∧
      (u.link n).ll.nextSeq = (s.link n).ll.nextSeq ∧ s.linkOnly u n) ∧
  (∀ (n k : Nat) (r : RepFrame) (s : State), s.linkSends n → (s.link n).ll.circTx = [] → (s.link n).ll.nakDue = false →
    (s.link n).ll.toReplay = k + 1 → (s.link n).ll.replay[(s.link n).ll.replay.length - (k + 1)]? = some r →
    ∃ u, exec (.frameSend n) s = .next u ∧ s.frameLeaves u n r.frame.hdr.ftype r.frame.hdr.fseq 0 r.frame.data ∧
      (u.link n).ll.toReplay = k ∧ (u.link n).ll.nextSeq = (s.link n).ll.nextSeq ∧
      (u.link n).ll.replay.length = (s.link n).ll.replay.length ∧ s.linkOnly u n) ∧
  (∀ (n k nb : Nat) (x : TxItem) (s : State), s.linkSends n → (s.link n).ll.circTx = [] → (s.link n).ll.nakDue = false →
    (s.link n).ll.toReplay = 0 →
    ([5, 4] ++ (List.range 4).map fun i => ((s.link n).ll.rr + 1 + i) % 4).findSome? (s.link n).ll.next = some (x, k, nb) → x.vc < 6 →
    ∃ u, exec (.frameSend n) s = .next u ∧
      s.frameLeaves u n (if x.vc < 4 then 1 else 2) (s.link n).ll.nextSeq 0 (slice ((x.bytes.drop x.framed).take k) 0 (32 * nb)) ∧
      (u.link n).ll.nextSeq = (s.link n).ll.nextSeq + 1 ∧ (u.link n).ll.replay.length = (s.link n).ll.replay.length + 1 ∧
      Tab.get 0 (u.link n).ll.credit x.vc = Tab.get 0 (s.link n).ll.credit x.vc - nb ∧ nb ≤ Tab.get 0 (s.link n).ll.credit x.vc ∧
      s.linksBut u n ∧ (∀ t, u.stop t = (s.holdCredit (s.ringAt n).1 (s.ringAt n).2).stop t) ∧
      u = { s with links := u.links, stops := u.stops, rake := u.rake, out := u.out }) ∧
  (∀ (n : Nat) (s : State), s.linkSends n → (s.link n).ll.circTx = [] → (s.link n).ll.nakDue = false → (s.link n).ll.toReplay = 0 →
    (s.link n).ll.tx = [] → (s.link n).ll.ctrlDue s.ft = false → exec (.frameSend n) s = .next s) ∧
  (∀ (n : Nat) (s : State), s.linkFabRuns n → 8 ≤ (s.link n).txf.length → exec (.frameSend n) s = .next s) ∧
  (∀ (n : Nat) (s : State), s.linkSends n → (s.link n).ll.ctrlDue s.ft = true →
    ∃ u, exec (.ackIdleTimeout n) s = .next u ∧ s.frameLeaves u n 4 (s.link n).ll.nextSeq 0 [] ∧ (u.link n).ll.ackOwed = false ∧
      (u.link n).ll.lastSent = s.ft ∧ s.linkOnly u n) ∧
  (∀ (n : Nat) (r : RepFrame) (rs : List RepFrame) (s : State), s.linkFabRuns n → s.llUp n = true → (s.link n).ll.replay = r :: rs →
    r.at_ + (s.link n).ll.rto.toNat ≤ s.ft → (s.link n).ll.replays + 1 < (s.link n).ll.rlim.toNat →
    ∃ u, exec (.replayTimeout n) s = .next u ∧ s.linkOnly u n ∧ u.out = s.out ∧
      u.link n = { s.link n with ll := { (s.link n).ll with
        toReplay := rs.length + 1, replays := (s.link n).ll.replays + 1, replayCnt := inc8 (s.link n).ll.replayCnt } }) ∧
  (∀ (n : Nat) (r : RepFrame) (rs : List RepFrame) (s : State), s.linkFabRuns n → s.llUp n = true → (s.link n).ll.replay = r :: rs →
    r.at_ + (s.link n).ll.rto.toNat ≤ s.ft → (s.link n).ll.rlim.toNat ≤ (s.link n).ll.replays + 1 →
    ∃ u, exec (.replayTimeout n) s = .next u ∧ s.goesDown u n 2 ∧ s.reported u (unitId uPhy n) 0x0704) ∧
  (∀ (n d : Nat) (s : State), s.linkFabRuns n → (s.link n).ll.nakUntil = some d → d ≤ s.ft →
    ∃ u, exec (.nakTimeout n) s = .next u ∧ u.link n = { s.link n with ll := { (s.link n).ll with nakUntil := none } } ∧ s.linkOnly u n ∧
      u.out = s.out)

/-- The loss of a link and of a chip, and what goes on beyond it (R376 to R381, R397 to R399): a loss kills the ring port and keeps what was
not acknowledged; every egress entry over the link is rewritten, and taken back from the image 1 ms after the link is ACTIVE again; what was
kept goes again through the ring input, a multicast's branch over the link itself; a chip lost for its time orphans its locks,
once for the loss; a re-send tile takes a whole message for its egress tree and sends it as its own origin, refuses one it has no room for, and
answers upward once. -/
def Obligations.LossesAreRepaired : Prop :=
  (∀ (n : Nat) (s : State), s.linkFabRuns n → (s.link n).ll.lossDue = true →
    ∃ u v, exec (.linkLost n) s = .next u ∧ u = State.capsExit v n ∧ (State.link v n).ll.lost = true ∧ (State.link v n).ll.lossDue = false ∧
      (v.link n).ll.lostAt = some s.ft ∧ (v.link n).ll.tx = [] ∧ (v.link n).ll.replay = [] ∧
      (v.link n).ll.kept = (s.link n).ll.kept ++ (s.link n).ll.unconfirmed.map (fun x => { x with framed := 0 }) ∧
      ((v.stop (s.ringAt n).1).rt.outp (s.ringAt n).2).dead = true) ∧
  (∀ (n : Nat) (s : State), s.linkFabRuns n → (s.link n).ll.lossDue = false → exec (.linkLost n) s = .next s) ∧
  (∀ (n t : Nat) (s : State), s.linkFabRuns n → (s.link n).ll.lost = true → t ∈ s.tiles →
    ∃ u, exec (.egressRewrite n) s = .next u ∧ (u.link n).ll.rewritten = true ∧
      (u.stop t).ro.egress = (s.stop t).ro.egress.map fun e =>
        if e.2.getLsbD 31 && egressUse e.2 == n then (e.1, s.rewriteEntry e.1 e.2) else e) ∧
  (∀ (n a t node : Nat) (e : Word) (s : State), s.linkFabRuns n → (s.link n).ll.activeAt = some a → a + 2000000 ≤ s.ft → t ∈ s.tiles →
    s.imgEgress t = [(node, e)] → e.getLsbD 31 = true → (e.extractLsb' 0 8).toNat = n →
    ∃ u, exec (.egressRestore n) s = .next u ∧ Tab.get 0 (u.stop t).ro.egress node = e ∧
      (∀ k, k ≠ node → Tab.get 0 (u.stop t).ro.egress k = Tab.get 0 (s.stop t).ro.egress k) ∧ u.out = s.out ∧ u.links = s.links) ∧
  (∀ (n : Nat) (x : TxItem) (s : State), s.linkFabRuns n → (s.link n).ll.rewritten = true → (s.link n).ll.kept = [x] → x.vc < 4 →
    (pktOfBytes x.bytes).hdr.dmode = 0 →
    ∃ u v, exec (.e2eRetransmit n) s = .next u ∧ u = v.linkPump n ∧ (v.link n).ll.kept = [] ∧
      Tab.get [] (v.link n).ll.rxq x.vc =
        Tab.get [] (s.link n).ll.rxq x.vc ++ (pktFlits s.build (pktOfBytes x.bytes)).map (fun f => (f, 0)) ∧ v.out = s.out ∧ s.linkOnly v n) ∧
  (∀ (n : Nat) (x : TxItem) (s : State), s.linkFabRuns n → (s.link n).ll.rewritten = true → (s.link n).ll.kept = [x] → 4 ≤ x.vc →
    ∃ u v, exec (.e2eRetransmit n) s = .next u ∧ u = v.linkPump n ∧ (v.link n).ll.kept = [] ∧
      Tab.get [] (v.link n).ll.rxc x.vc = Tab.get [] (s.link n).ll.rxc x.vc ++ [(cmsgFlits (cmsgOfBytes x.bytes), 0)] ∧ v.out = s.out ∧
      s.linkOnly v n) ∧
  (∀ (n : Nat) (x : TxItem) (s : State), s.linkFabRuns n → (s.link n).ll.rewritten = true → (s.link n).ll.kept = [x] → x.vc < 4 →
    (pktOfBytes x.bytes).hdr.dmode ≠ 0 → s.deadOut (linkTile s.build n) (s.ringAt n).2 = false →
    ∃ u v, exec (.e2eRetransmit n) s = .next u ∧ u = v.linkPump n ∧ (v.link n).ll.kept = [] ∧
      (v.link n).ll.tx = (s.link n).ll.tx ++ [x] ∧ v.out = s.out ∧ s.linkOnly v n) ∧
  (∀ (node t k : Nat) (l : Lock) (s : State), s.running = true → s.nodeGone node = true → s.goneTold node = false → t ∈ s.tiles →
    (s.stop t).lk.locks = [(k, l)] → l.state = 1 → l.node = node →
    ∃ u, exec (.nodeLost node) s = .next u ∧ u.lock t k = { l with state := 2, gen := l.gen + 1 } ∧ u.goneTold node = true ∧
      u.links = s.links) ∧
  (∀ (node : Nat) (s : State), s.running = true → s.nodeGone node = false ∨ s.goneTold node = true → exec (.nodeLost node) s = .next s) ∧
  (∀ (t k : Nat) (p : Pkt) (g : Group) (s : State), s.stopRuns t → (p.hdr.type = tRedDown ∨ p.hdr.type = tCtl) → p.hdr.vc = 3 →
    s.egressTrees t p.hdr = [k] → s.hdrOk p.hdr = true → p.hdr.e2e = 0 → s.isLate p.hdr = false → s.groupOf p.hdr.coll.toNat = some g →
    g.pan = p.hdr.pan.toNat → countOk p.hdr = true → p.hdr.pcnt = 1 → (s.stop t).co.relays = [] →
    ∃ u r m, exec (.resendTileTake t p) s = .next u ∧ (u.stop t).co.relays = [r] ∧ r.key = keyOf p.hdr ∧ r.tree = k ∧ r.told = false ∧
      r.mseq = some (s.stop t).si.rseq ∧ (u.stop t).si.msgs = (s.stop t).si.msgs ++ [m] ∧ m.owner = .relay t ∧ m.hdr.type = p.hdr.type ∧
      m.hdr.w6 = BitVec.ofNat 64 k ∧ m.hdr.dmode = 2 ∧ m.hdr.stile = BitVec.ofNat 9 t ∧ m.hdr.snode = BitVec.ofNat 12 s.node ∧
      m.hdr.mseq = (s.stop t).si.rseq ∧ m.data = slice p.data 0 p.hdr.plen.toNat ∧ u.out = s.out ∧ s.stopOnly u t) ∧
  (∀ (t : Nat) (p : Pkt) (g : Group) (s : State), s.stopRuns t → (p.hdr.type = tRedDown ∨ p.hdr.type = tCtl) → p.hdr.vc = 3 →
    s.egressTrees t p.hdr ≠ [] → s.hdrOk p.hdr = true → p.hdr.e2e = 0 → s.isLate p.hdr = false → s.groupOf p.hdr.coll.toNat = some g →
    g.pan = p.hdr.pan.toNat → countOk p.hdr = true → s.relayOf t (keyOf p.hdr) = none → s.relayRoom t p.hdr.pcnt.toNat = false →
    (s.stop t).si.keyState (keyOf p.hdr) s.ft = none → p.hdr.dmode = 0 →
    ∃ u, exec (.resendTileTake t p) s = .next u ∧ (u.stop t).co.relays = (s.stop t).co.relays ∧
      (u.stop t).co.refusals = inc8 (s.stop t).co.refusals ∧ (u.stop t).si.ejdrop = inc8 (s.stop t).si.ejdrop ∧
      s.answersTo u t p.hdr nNotReady true ∧ u.out = s.out ∧ s.stopOnly u t) ∧
  (∀ (t mseq code : Nat) (q : BitVec 16) (r : Relay) (s : State), s.stopRuns t → (s.stop t).co.relays = [r] → r.mseq = some q →
    q.toNat = mseq → r.code = some code → r.told = false → r.hdr.dmode = 0 →
    ∃ u, exec (.egressComplete t mseq) s = .next u ∧ (u.stop t).co.relays = [{ r with pkts := [], need := 0, told := true }] ∧
      (∀ m ∈ (u.stop t).si.msgs, m.uid ≠ r.uid) ∧ s.answersTo u t r.hdr code true ∧ u.out = s.out ∧ s.stopOnly u t)

/-! ## Pans and images (14, 15) -/

/-- The re-shape of pans (R411 to R416, R425, R426, R572): GO arms a READY stage for its T_s where the window may and R412 admits it, and is
otherwise answered with the code of the row that applies; CANCEL takes back a switch at least 16 tk ahead; from T_s the pans of a switch
drain; at T_c a stage's delta is in force, its stage EMPTY, its pans out of DRAIN; a pan reset clears the tiles of its pan; a switch that is
not due does nothing. Everything happens at phase 0 of its tick (R38), and a GO whose delta would change the plan, the trees or a format of a
live collective is BUSY (R171, R235). -/
def Obligations.PansAreReshaped : Prop :=
  (∀ (k : Nat) (q : Req) (s : State), s.serves 0x30018 q → s.hrv.state < 2 → q.wdata.getLsbD 31 = true → k = (q.wdata.extractLsb' 0 2).toNat →
    s.armRight q.win.toNat (s.target (k + 1)).panset = true →
    s.goCode k (s.panWin q.win.toNat).arm.toNat (q.wdata.extractLsb' 16 14).toNat = rOk →
    ∃ u, exec (.panArmGo q) s = .next u ∧ s.replied u q rOk 0 ∧ u.img.switches = s.img.switches ++
        [{ id := .stage k, ts := (s.panWin q.win.toNat).arm.toNat, d := (q.wdata.extractLsb' 16 14).toNat
           panset := (s.target (k + 1)).panset, draining := false, win := q.win.toNat }] ∧
      u.img.targets = s.img.targets ∧ u.stops = s.stops) ∧
  (∀ (k c : Nat) (q : Req) (s : State), s.serves 0x30018 q → s.hrv.state < 2 → q.wdata.getLsbD 31 = true →
    k = (q.wdata.extractLsb' 0 2).toNat → s.armRight q.win.toNat (s.target (k + 1)).panset = true →
    s.goCode k (s.panWin q.win.toNat).arm.toNat (q.wdata.extractLsb' 16 14).toNat = c → c ≠ rOk →
    ∃ u, exec (.panArmGo q) s = .next u ∧ s.replied u q c 0 ∧ u.img = s.img ∧ u.pans = s.pans ∧ u.stops = s.stops) ∧
  (∀ (q : Req) (s : State), s.serves 0x30018 q → q.wdata.getLsbD 31 = true → q.win ≠ 0 → s.hasArm q.win.toNat = false →
    ∃ u, exec (.panArmGo q) s = .next u ∧ s.replied u q rDenied 0 ∧ u.img = s.img ∧ u.pans = s.pans) ∧
  (∀ (k ts d : Nat) (s : State), (s.target (k + 1)).state = 2 → 1 ≤ d → d ≤ 10000 → ts < s.entryCount.toNat + 16 →
    s.goCode k ts d = rStale) ∧
  (∀ (k ts d : Nat) (c : Sections) (s : State), (s.target (k + 1)).state = 2 → 1 ≤ d → d ≤ 10000 → s.entryCount.toNat + 16 ≤ ts →
    (s.target (k + 1)).secs = some c → s.collBusy c = true → s.goCode k ts d = rBusy) ∧
  (∀ (k ts d : Nat) (s : State), (s.target (k + 1)).state ≠ 2 → s.goCode k ts d = rError) ∧
  (∀ (k : Nat) (q : Req) (w : Switch) (s : State), s.serves 0x30018 q → s.hrv.state < 2 → q.wdata.getLsbD 31 = false →
    q.wdata.getLsbD 30 = true → k = (q.wdata.extractLsb' 0 2).toNat → s.armRight q.win.toNat (s.target (k + 1)).panset = true →
    s.img.switches = [w] → w.id = .stage k → s.now + 16 ≤ w.ts →
    ∃ u, exec (.panArmCancel q) s = .next u ∧ s.replied u q rOk 0 ∧ u.img.switches = [] ∧ (Tab.get default u.img.swStat k).last = 2 ∧
      u.img.targets = s.img.targets ∧ u.stops = s.stops) ∧
  (∀ (k : Nat) (q : Req) (w : Switch) (s : State), s.serves 0x30018 q → s.hrv.state < 2 → q.wdata.getLsbD 31 = false →
    q.wdata.getLsbD 30 = true → k = (q.wdata.extractLsb' 0 2).toNat → s.armRight q.win.toNat (s.target (k + 1)).panset = true →
    s.img.switches = [w] → w.id = .stage k → w.ts < s.now + 16 →
    ∃ u, exec (.panArmCancel q) s = .next u ∧ s.replied u q rBusy 0 ∧ u.img.switches = [w] ∧ u.stops = s.stops) ∧
  (∀ (p : Nat) (r : PanRec) (q : Req) (s : State), s.serves 0x30020 q → s.hrv.state < 2 → q.wdata.getLsbD 31 = true →
    p = (q.wdata.extractLsb' 0 8).toNat → s.armRight q.win.toNat [p] = true → s.pan? p = some r → s.panHere r = true →
    1 ≤ (s.panWin q.win.toNat).drain → (s.panWin q.win.toNat).drain ≤ 10000 → s.now + 16 ≤ (s.panWin q.win.toNat).arm.toNat →
    s.img.switches = [] →
    ∃ u, exec (.panResetArm q) s = .next u ∧ s.replied u q rOk 0 ∧ u.img.switches =
        [{ id := .reset p, ts := (s.panWin q.win.toNat).arm.toNat, d := (s.panWin q.win.toNat).drain, panset := [p], draining := false
           win := q.win.toNat }] ∧ u.stops = s.stops) ∧
  (∀ (id : SwId) (w : Switch) (s : State), s.running = true → s.img.switches = [w] → w.id = id → w.ts = s.now → s.tide.phase = 0 →
    exec (.panDrainStart id) s = .next { s with img := { s.img with switches := [{ w with draining := true }] } }) ∧
  (∀ (k : Nat) (w : Switch) (c : Sections) (s : State), s.running = true → s.img.switches = [w] → w.id = .stage k → w.draining = true →
    w.ts + w.d = s.now → s.tide.phase = 0 → (s.target (k + 1)).secs = some c →
    ∃ u, exec (.panCommit (.stage k)) s = .next u ∧ u.img.act = c.over s.img.act ∧ u.img.switches = [] ∧ (u.target (k + 1)).state = 0 ∧
      (Tab.get default u.img.swStat k).last = 1 ∧ (∀ p ∈ w.panset, Tab.get? u.pans.tc p = some (w.ts + w.d))) ∧
  (∀ (p t : Nat) (w : Switch) (r : PanRec) (s : State), s.running = true → s.img.switches = [w] → w.id = .reset p → w.panset = [p] →
    w.draining = true → w.ts + w.d = s.now → s.tide.phase = 0 → t ∈ s.tiles → s.tilePan t = some r → r.id = p →
    ∃ u, exec (.panCommit (.reset p)) s = .next u ∧ u.img.act = s.img.act ∧ u.img.switches = [] ∧ (u.stop t).si.rxlim = 0 ∧
      (u.stop t).cr.held = [] ∧ (u.stop t).rt.prio = 0 ∧ (∀ k, k < 32 → (u.queue t k).entries = [] ∧ (u.queue t k).epoch = 0) ∧
      Tab.get? u.pans.tc p = some (w.ts + w.d)) ∧
  (∀ (id : SwId) (s : State), s.running = true → (∀ w ∈ s.img.switches, w.draining = false ∨ w.ts + w.d ≠ s.now ∨ s.tide.phase ≠ 0) →
    exec (.panCommit id) s = .next s) ∧
  (∀ (id : SwId) (s : State), s.running = true → (∀ w ∈ s.img.switches, w.ts ≠ s.now ∨ s.tide.phase ≠ 0) →
    exec (.panDrainStart id) s = .next s)

/-- Images and deltas (R435, R436, R439 to R447): LOAD takes a target to LOADING; each IMG_DATA word joins it; the checks make it READY, or
FAILED with the reason; DISCARD empties it; SWITCH arms a READY full image; CANCEL takes it back; at its T_c the image is in force and every
target EMPTY; RESTORE_FACTORY puts the factory's field data back at its tick; the code of the row that applies answers whatever R436, R439 or
R444 refuses, and windows other than 0 are DENIED. -/
def Obligations.ImagesLoadAndSwitch : Prop :=
  (∀ (k : Nat) (q : Req) (s : State), s.imgWrites 1 q → k = (q.wdata.extractLsb' 4 3).toNat → k < 5 → s.loadingTarget = none →
    s.targetArmed k = false → s.img.lenReg.toNat % 16 = 0 → 80 ≤ s.img.lenReg.toNat → s.img.lenReg.toNat ≤ 33554432 →
    ∃ u, exec (.imgLoad q) s = .next u ∧ s.replied u q rOk 0 ∧
      u.target k = { state := 1, len := s.img.lenReg.toNat, words := [], secs := none } ∧ (∀ j, j ≠ k → u.target j = s.target j) ∧
      u.img = { s.img with targets := u.img.targets } ∧ u.stops = s.stops) ∧
  (∀ (k : Nat) (q : Req) (s : State), s.imgWrites 1 q → k = (q.wdata.extractLsb' 4 3).toNat → k < 5 →
    (s.loadingTarget.isSome = true ∨ s.targetArmed k = true) →
    ∃ u, exec (.imgLoad q) s = .next u ∧ s.replied u q rBusy 0 ∧ u.img = s.img) ∧
  (∀ (q : Req) (s : State), s.serves 0x20000 q → q.win ≠ 0 → imgCmd q.wdata = 1 →
    ∃ u, exec (.imgLoad q) s = .next u ∧ s.replied u q rDenied 0 ∧ u.img = s.img) ∧
  (∀ (k : Nat) (q : Req) (s : State), s.serves 0x2000C q → q.win = 0 → s.hrv.state < 2 → s.loadingTarget = some k →
    4 * (s.target k).words.length < (s.target k).len → s.swapComing = false →
    ∃ u, exec (.imgDataWrite q) s = .next u ∧ s.replied u q rOk 0 ∧
      u.target k = { s.target k with words := (s.target k).words ++ [q.wdata] } ∧ (∀ j, j ≠ k → u.target j = s.target j) ∧
      u.stops = s.stops) ∧
  (∀ (q : Req) (s : State), s.serves 0x2000C q → q.win = 0 → s.hrv.state < 2 → s.loadingTarget = none →
    ∃ u, exec (.imgDataWrite q) s = .next u ∧ s.replied u q rError 0 ∧ u.img = s.img) ∧
  (∀ (k : Nat) (e : ImgFail) (s : State), s.running = true → s.loadingTarget = some k → 4 * (s.target k).words.length = (s.target k).len →
    s.checkImage k (s.target k).len (s.target k).words = .inl e →
    ∃ u, exec .imageCheckComplete s = .next u ∧ (u.target k).state = 3 ∧ (u.target k).secs = none ∧ u.img.err = e.err ∧ u.img.errTgt = k ∧
      u.img.errType = e.type ∧ u.img.errRec = e.record ∧ u.stops = s.stops ∧ u.out = s.out ∧ u.img.act = s.img.act) ∧
  (∀ (k : Nat) (c : Sections) (s : State), s.running = true → s.loadingTarget = some k →
    4 * (s.target k).words.length = (s.target k).len → s.checkImage k (s.target k).len (s.target k).words = .inr c →
    ∃ u, exec .imageCheckComplete s = .next u ∧ (u.target k).state = 2 ∧ (u.target k).secs = some c ∧ u.img.act = s.img.act ∧
      u.out = s.out ∧ u.slotBank = s.slotBank) ∧
  (∀ (k : Nat) (s : State), s.running = true → s.loadingTarget = some k → 4 * (s.target k).words.length ≠ (s.target k).len →
    exec .imageCheckComplete s = .next s) ∧
  (∀ (k len : Nat) (ws : List Word) (s : State), imgCrc (imgBytes ws) ≠ hdrCrc (imgBytes ws) →
    s.checkImage k len ws = .inl { err := 1, type := 0, record := 0 }) ∧
  (∀ (k : Nat) (q : Req) (s : State), s.imgWrites 5 q → k = (q.wdata.extractLsb' 4 3).toNat → k < 5 → s.targetArmed k = false →
    ∃ u, exec (.imgDiscard q) s = .next u ∧ s.replied u q rOk 0 ∧ (u.target k).state = 0 ∧ (∀ j, j ≠ k → u.target j = s.target j) ∧
      ((s.target k).state = 1 → u.img.err = 7 ∧ u.img.errTgt = k) ∧ u.stops = s.stops) ∧
  (∀ (q : Req) (s : State), s.imgWrites 2 q → (s.target 0).state = 2 → 1 ≤ s.img.drain → s.img.drain ≤ 10000 →
    s.now + 16 ≤ s.img.at_.toNat → s.img.switches = [] → s.slotPend = [] →
    ∃ u w, exec (.imgSwitch q) s = .next u ∧ s.replied u q rOk 0 ∧ u.img.switches = [w] ∧ w.id = .full ∧ w.ts = s.img.at_.toNat ∧
      w.d = s.img.drain ∧ w.draining = false ∧ (∀ p ∈ s.img.act.pans, p.id ∈ w.panset) ∧ u.stops = s.stops) ∧
  (∀ (q : Req) (s : State), s.imgWrites 2 q → (s.target 0).state ≠ 2 →
    ∃ u, exec (.imgSwitch q) s = .next u ∧ s.replied u q rError 0 ∧ u.img = s.img) ∧
  (∀ (q : Req) (w : Switch) (s : State), s.imgWrites 3 q → s.img.switches = [w] → w.id = .full → s.now + 16 ≤ w.ts →
    ∃ u, exec (.imgCancel q) s = .next u ∧ s.replied u q rOk 0 ∧ u.img = { s.img with switches := [], last := 2 } ∧ u.stops = s.stops) ∧
  (∀ (w : Switch) (c : Sections) (s : State), s.running = true → s.img.switches = [w] → w.id = .full → w.draining = true →
    w.ts + w.d = s.now → s.tide.phase = 0 → (s.target 0).secs = some c →
    ∃ u, exec .imageCommit s = .next u ∧ u.img.act = c.over s.img.act ∧ u.img.targets = [] ∧ u.img.switches = [] ∧ u.img.last = 1 ∧
      u.refMode = (c.over s.img.act).trace.refMode) ∧
  (∀ (s : State), s.running = true → (∀ w ∈ s.img.switches, w.draining = false ∨ w.ts + w.d ≠ s.now ∨ s.tide.phase ≠ 0) →
    exec .imageCommit s = .next s) ∧
  (∀ (q : Req) (s : State), s.imgWrites 4 q → s.now + 16 ≤ s.img.at_.toNat → s.img.switches = [] → s.slotPend = [] →
    ∃ u, exec (.imgRestoreFactory q) s = .next u ∧ s.replied u q rOk 0 ∧ u.img = { s.img with factoryAt := some s.img.at_.toNat } ∧
      u.stops = s.stops) ∧
  (∀ (q : Req) (s : State), s.imgWrites 4 q → s.img.at_.toNat < s.now + 16 →
    ∃ u, exec (.imgRestoreFactory q) s = .next u ∧ s.replied u q rStale 0 ∧ u.img = s.img) ∧
  (∀ (a : Nat) (s : State), s.running = true → s.img.factoryAt = some a → a = s.now → s.tide.phase = 0 →
    ∃ u, exec .factoryRestoreTick s = .next u ∧ u.img.factoryAt = none ∧ u.img.factory = true ∧ u.img.act.repair = [] ∧
      u.img.act.calib = [] ∧ (∀ y, y < 16 → (u.row y).field = none) ∧ u.out = s.out) ∧
  (∀ (s : State), s.running = true → (∀ a, s.img.factoryAt = some a → a ≠ s.now ∨ s.tide.phase ≠ 0) → exec .factoryRestoreTick s = .next s)

/-! ## Faults, fences and spare wires (16) -/

/-- The fault log (R33, R455 to R467, R479, R482): a change of a unit's pair from 01 to 10, each held 4 fc, is a report that waits 10 µs for its
message, 4 fc of 01 make the pair whole and ready for the next one, and nothing shorter counts; a message takes a record of its own, PENDING with its
escalation timer for class U and ACTED for classes C and F, or is merged into its unit's; a report without a message is 0x0105, a broken
wire 0x0104 and remote attention 0x0901; a timer that ends takes its record's action; ERR_N follows; FLT_CLR clears, acts on, or clears all that
it may, and refuses the rest; a quiet chip leaves the fault state; an injection needs test mode. -/
def Obligations.FaultsAreLogged : Prop :=
  (∀ (unit quiet held : Nat) (s : State), s.ready = true → s.unitOk unit = true → 4 ≤ held → 4 ≤ quiet ∨ (s.rail unit).high = false →
    exec (.faultReport unit quiet held) s = .next { s with flt := { s.flt with
      rails := s.flt.rails.set unit { broken := false, high := true, waits := (s.rail unit).waits ++ [s.fc + 20000] } } }) ∧
  (∀ (unit quiet held : Nat) (s : State), s.ready = true → s.unitOk unit = true → 4 ≤ held → quiet < 4 → (s.rail unit).high = true →
    exec (.faultReport unit quiet held) s = .next { s with flt := { s.flt with
      rails := s.flt.rails.set unit { s.rail unit with broken := false } } }) ∧
  (∀ (unit quiet held : Nat) (r : Rail) (i : Instr) (s : State), s.ready = true → s.unitOk unit = true → held < 4 →
    (i = .faultReport unit quiet held ∨ i = .brokenWireDetect unit quiet held) →
    r = (if 4 ≤ quiet then { s.rail unit with broken := false, high := false } else s.rail unit) →
    exec i s = .next { s with flt := { s.flt with rails := s.flt.rails.set unit r } }) ∧
  (∀ (unit quiet held e : Nat) (s : State), s.ready = true → s.unitOk unit = true → unit < 65536 → 16 ≤ held →
    4 ≤ quiet ∨ (s.rail unit).broken = false →
    s.flt.handler unit = none → s.flt.place = some e →
    ∃ u, exec (.brokenWireDetect unit quiet held) s = .next u ∧ (u.rail unit).broken = true ∧ (u.flt.entry e).unit = unit ∧
      (u.flt.entry e).code = 0x0104 ∧ (u.flt.entry e).count = 1) ∧
  (∀ (e : Nat) (m : CMsg) (f : FaultMsg) (s : State), s.ready = true → isKind m 0xC = true → faultOf m = f → f.cls = 1 →
    s.unitOk f.unit.toNat = true → s.flt.handler f.unit.toNat = none → s.flt.place = some e → degrades f.code.toNat = false →
    ∃ u, exec (.faultMessage m) s = .next u ∧ u.flt.entry e =
        { state := 1, cls := 1, action := s.actionOf f.code.toNat, code := f.code.toNat, count := 1, unit := f.unit.toNat, detV := f.detV
          detT := f.detT.toNat, detN := f.detN.toNat, tick := f.tick, lastCode := f.code.toNat, clsCode := f.code.toNat
          due := some (s.ft + s.flt.escTime * 2000), age := s.flt.ages } ∧
      (∀ j, j ≠ e → u.flt.entry j = s.flt.entry j) ∧ u.flt.lastUF = s.ft ∧ (u.rail f.unit.toNat).waits = (s.rail f.unit.toNat).waits.drop 1 ∧
      u.errLow = true ∧ (s.rake.state = 0 → u.out = s.out ++ (if s.errLow then [] else [.pin "ERR_N" false])) ∧ u.stops = s.stops) ∧
  (∀ (e : Nat) (m : CMsg) (f : FaultMsg) (s : State), s.ready = true → isKind m 0xC = true → faultOf m = f → f.cls = 0 →
    s.unitOk f.unit.toNat = true → s.flt.handler f.unit.toNat = none → s.flt.place = some e → (s.flt.entry e).handling = false →
    ∃ u, exec (.faultMessage m) s = .next u ∧ (u.flt.entry e).state = 2 ∧ (u.flt.entry e).cls = 0 ∧ (u.flt.entry e).action = 0 ∧
      (u.flt.entry e).code = f.code.toNat ∧ (u.flt.entry e).due = none ∧ u.flt.lastUF = s.flt.lastUF) ∧
  (∀ (e : Nat) (m : CMsg) (f : FaultMsg) (r : FltRec) (s : State), s.ready = true → isKind m 0xC = true → faultOf m = f →
    s.unitOk f.unit.toNat = true → s.flt.handler f.unit.toNat = some e → s.flt.entry e = r → f.cls.toNat ≤ r.cls → f.cls.toNat ≤ 2 →
    ∃ u, exec (.faultMessage m) s = .next u ∧
      u.flt.entry e = { r with count := min 65535 (r.count + 1), lastCode := f.code.toNat } ∧ (∀ j, j ≠ e → u.flt.entry j = s.flt.entry j)) ∧
  (∀ (e : Nat) (m : CMsg) (f : FaultMsg) (r : FltRec) (s : State), s.ready = true → isKind m 0xC = true → faultOf m = f →
    s.unitOk f.unit.toNat = true → s.flt.handler f.unit.toNat = some e → s.flt.entry e = r → f.cls = 1 → r.cls = 0 →
    ∃ u, exec (.faultMessage m) s = .next u ∧ (u.flt.entry e).cls = 1 ∧ (u.flt.entry e).state = 1 ∧
      (u.flt.entry e).due = some (s.ft + s.flt.escTime * 2000) ∧ (u.flt.entry e).action = s.actionOf f.code.toNat ∧
      (u.flt.entry e).code = r.code) ∧
  (∀ (m : CMsg) (f : FaultMsg) (s : State), s.ready = true → isKind m 0xC = true → faultOf m = f → f.cls = 0 →
    s.unitOk f.unit.toNat = true → s.flt.handler f.unit.toNat = none → s.flt.place = none →
    ∃ u, exec (.faultMessage m) s = .next u ∧ u.flt.lost = inc8 s.flt.lost ∧ u.flt.log = s.flt.log ∧ u.flt.lostUF = s.flt.lostUF) ∧
  (∀ (unit d e : Nat) (ds : List Nat) (s : State), s.ready = true → (s.rail unit).waits = d :: ds → d ≤ s.fc → unit < 65536 →
    s.flt.handler unit = none → s.flt.place = some e →
    ∃ u, exec (.faultMessageTimeout unit) s = .next u ∧ (u.rail unit).waits = ds ∧ (u.flt.entry e).unit = unit ∧
      (u.flt.entry e).code = 0x0105) ∧
  (∀ (e d : Nat) (s : State), s.running = true → (s.flt.entry e).due = some d → d ≤ s.ft → (s.flt.entry e).state = 1 →
    ∃ u, exec (.escalationExpire e) s = .next u ∧ (u.flt.entry e).state = 2 ∧ (u.flt.entry e).due = none ∧
      (∀ t, (s.flt.entry e).action = 1 → s.scopeTile (s.flt.entry e).unit = some t → (s.flt.entry e).unit / 4096 = 3 →
        (u.stop t).ro.clientFenced = true)) ∧
  (∀ (e : Nat) (s : State), s.running = true → (∀ d, (s.flt.entry e).due = some d → s.ft < d) →
    exec (.escalationExpire e) s = .next s) ∧
  (∀ (n e : Nat) (k : KMsg) (s : State), s.linkRuns n → k.ktype = 0x0C → s.flt.handler (unitId uBlock 7) = none → s.flt.place = some e →
    ∃ u, exec (.attnReceived n k) s = .next u ∧ (u.flt.entry e).code = 0x0901 ∧ (u.flt.entry e).detN = n ∧
      (u.flt.entry e).detV = BitVec.ofNat 32 (leAt k.data 0 2 * 65536 + leAt k.data 4 2)) ∧
  (∀ (e : Nat) (r : FltRec) (q : Req) (s : State), s.serves 0x4000C q → q.win = 0 → q.wdata.extractLsb' 30 2 = 0 →
    e = (q.wdata.extractLsb' 0 6).toNat → s.flt.log = [(e, r)] → s.flt.lostUF = false → r.cls = 1 → r.handling = true →
    ∃ u, exec (.fltClrClear q) s = .next u ∧ u.flt.entry e = { r with state := 3, due := none } ∧
      u.out = s.out ++ [.pin "ERR_N" true, .reply (u.replyWord q.win.toNat q.tag rOk 0)]) ∧
  (∀ (e : Nat) (q : Req) (s : State), s.serves 0x4000C q → q.win = 0 → q.wdata.extractLsb' 30 2 = 0 →
    e = (q.wdata.extractLsb' 0 6).toNat → ((s.flt.entry e).handling = false ∨ (s.flt.entry e).cls = 2) →
    ∃ u, exec (.fltClrClear q) s = .next u ∧ s.replied u q rError 0 ∧ u.flt = s.flt) ∧
  (∀ (e : Nat) (q : Req) (s : State), s.serves 0x4000C q → q.win = 0 → q.wdata.extractLsb' 30 2 = 2 →
    e = (q.wdata.extractLsb' 0 6).toNat → (s.flt.entry e).state = 1 → (s.flt.entry e).cls ≠ 2 → (s.flt.entry e).action = 0 →
    s.hrv.state < 2 →
    ∃ u, exec (.fltClrAct q) s = .next u ∧ s.replied u q rOk 0 ∧ u.flt.entry e = { s.flt.entry e with state := 2, due := none }) ∧
  (∀ (e : Nat) (q : Req) (s : State), s.serves 0x4000C q → q.win = 0 → q.wdata.extractLsb' 30 2 = 2 →
    e = (q.wdata.extractLsb' 0 6).toNat → (s.flt.entry e).state ≠ 1 →
    ∃ u, exec (.fltClrAct q) s = .next u ∧ s.replied u q rError 0 ∧ u.flt = s.flt) ∧
  (∀ (q : Req) (s : State), s.serves 0x4000C q → q.win = 0 → q.wdata.getLsbD 30 = true →
    ∃ u, exec (.fltClrAll q) s = .next u ∧
      (∀ e, e < 64 → (s.flt.entry e).handling = true →
        ((s.flt.entry e).cls = 0 ∨ (s.flt.entry e).cls = 1 ∧ (s.flt.entry e).state = 2) → (u.flt.entry e).state = 3) ∧
      (∀ e, e < 64 → ((s.flt.entry e).cls = 2 ∨ (s.flt.entry e).cls = 1 ∧ (s.flt.entry e).state = 1) → u.flt.entry e = s.flt.entry e)) ∧
  (∀ (s : State), s.running = true → s.quiet = true →
    ∃ u, exec .faultStateExit s = .next u ∧ u.flt.recov = satAdd s.flt.recov 1 ∧ u.stops = s.stops ∧
      (∀ e, e < 64 → (s.flt.entry e).state = 2 → (s.flt.entry e).cls = 1 → (u.flt.entry e).state = 3)) ∧
  (∀ (s : State), s.running = true → s.quiet = false → exec .faultStateExit s = .next s) ∧
  (∀ (e : Nat) (q : Req) (s : State), s.serves 0x40020 q → q.win = 0 → q.wdata.getLsbD 31 = true → s.flt.ftest = true → s.refMode = false →
    (faultRow (q.wdata.extractLsb' 0 16).toNat).isSome = true → s.flt.handler s.flt.injUnit.toNat = none → s.flt.place = some e →
    ∃ u, exec (.fltInjGo q) s = .next u ∧ (u.flt.entry e).unit = s.flt.injUnit.toNat ∧
      (u.flt.entry e).code = (q.wdata.extractLsb' 0 16).toNat ∧
      u.out.getLast? = some (.reply (u.replyWord q.win.toNat q.tag rOk 0))) ∧
  (∀ (q : Req) (s : State), s.serves 0x40020 q → q.win = 0 → q.wdata.getLsbD 31 = true → s.flt.ftest = false →
    ∃ u, exec (.fltInjGo q) s = .next u ∧ s.replied u q rDenied 0 ∧ u.flt = s.flt)

/-- Fences by write, parity of control state and spare mesh wires (R469 to R471, R483): a router fence kills the neighbours' ports to the tile
and answers from the control tile; a client fence and its end answer at the tile, the end BUSY while a record of the tile's SI is PENDING; a
failing wire names a swap 16 tk ahead where its group's spare is free, which is then counted and reported as 0x0801, and a second wire of the
group is 0x0802. -/
def Obligations.TilesAreFenced : Prop :=
  (∀ (t : Nat) (m : CMsg) (s : State), s.stopRuns t → isKind m 0xA = true → regOfs m = 0x900 → (regData m).getLsbD 31 = true →
    regWin m = 0 →
    ∃ u, exec (.fenceRouterWrite t m) s = .next u ∧ (u.stop t).ro.routerFenced = true ∧
      (Tab.get 0 u.flt.fenced (tileY t)).getLsbD (s.physX (tileX t) (tileY t)) = true ∧
      s.regAnsMsg t m rOk 0 ∈ (u.stop ctlTile).c.cq ∧
      (∀ p v, p < 4 → neighbour s.build t p = some v → ((u.stop v).rt.outp (facing p)).dead = true)) ∧
  (∀ (t : Nat) (m : CMsg) (s : State), s.stopRuns t → isKind m 0xA = true → regOfs m = 0x900 → (regData m).getLsbD 31 = true →
    regWin m ≠ 0 →
    ∃ u, exec (.fenceRouterWrite t m) s = .next u ∧ s.regAnswered u t m rDenied 0 ∧ (u.stop t).ro = (s.stop t).ro ∧ u.out = s.out ∧
      s.stopOnly u t) ∧
  (∀ (t : Nat) (m : CMsg) (s : State), s.stopRuns t → s.regWrite t 0x900 m → (regData m).extractLsb' 30 2 = 1 →
    ∃ u, exec (.fenceClientWrite t m) s = .next u ∧ (u.stop t).ro.clientFenced = true ∧
      (u.stop t).c.cq.getLast? = some (s.regAnsMsg t m rOk 0) ∧ (u.stop t).ro.routerFenced = (s.stop t).ro.routerFenced) ∧
  (∀ (t : Nat) (m : CMsg) (s : State), s.stopRuns t → s.regWrite t 0x900 m → (regData m).extractLsb' 29 3 = 1 → s.siPending t = false →
    ∃ u, exec (.unfenceClient t m) s = .next u ∧ (u.stop t).ro = { (s.stop t).ro with clientFenced := false } ∧
      s.regAnswered u t m rOk 0 ∧ u.out = s.out ∧ s.stopOnly u t) ∧
  (∀ (t : Nat) (m : CMsg) (s : State), s.stopRuns t → s.regWrite t 0x900 m → (regData m).extractLsb' 29 3 = 1 → s.siPending t = true →
    ∃ u, exec (.unfenceClient t m) s = .next u ∧ (u.stop t).ro = (s.stop t).ro ∧ s.regAnswered u t m rBusy 0 ∧ u.out = s.out ∧
      s.stopOnly u t) ∧
  (∀ (t ty : Nat) (s : State), s.stopRuns t → ty ≤ 6 →
    ∃ u, exec (.stopControlParity t ty) s = .next u ∧ s.reported u (unitId ty (s.phys t)) 0x0310 ∧ u.flt = s.flt) ∧
  (∀ (t port plane group wire : Nat) (s : State), s.stopRuns t → portOk s.build t port = true → port < 4 →
    (plane = 0 ∨ plane = 1 ∧ s.build = .hfE) → s.flt.wires = [] →
    ∃ u, exec (.meshWireFailing t port plane group wire) s = .next u ∧ u = { s with flt := { s.flt with wires :=
      [{ t := t, port := port, plane := plane, group := group, wire := wire, swapAt := some (s.now + 16) }] } }) ∧
  (∀ (t port group wire : Nat) (w : WireGroup) (s : State), s.stopRuns t → portOk s.build t port = true → port < 4 →
    s.flt.wires = [w] → w.isOf t port 0 group = true → w.wire ≠ wire →
    ∃ u, exec (.meshWireFailing t port 0 group wire) s = .next u ∧ s.reported u (unitId uT (s.phys t)) 0x0802 ∧ u.flt = s.flt) ∧
  (∀ (t port group a : Nat) (w : WireGroup) (s : State), s.stopRuns t → portOk s.build t port = true → s.flt.wires = [w] →
    w.isOf t port 0 group = true → w.swapAt = some a → a = s.now → s.tide.phase = 0 →
    ∃ u, exec (.meshWireSwap t port 0 group) s = .next u ∧ s.reported u (unitId uT (s.phys t)) 0x0801 ∧
      u.flt = { s.flt with wires := [{ w with swapAt := none }], nWires := inc8 s.flt.nWires }) ∧
  (∀ (t port plane group : Nat) (s : State), s.stopRuns t → portOk s.build t port = true →
    (∀ w ∈ s.flt.wires, w.swapAt ≠ some s.now ∨ s.tide.phase ≠ 0) → exec (.meshWireSwap t port plane group) s = .next s)

/-! ## Harvest and trace (17) -/

/-- Harvest (R486 to R491, R494, R498, R499, R505): a request of HRV_CTL at least its lead ahead makes the chip PENDING at its tick, in pod
scope it is flooded and HARVEST_N driven, and is otherwise refused with the code of the row that applies; the pin asks at its eighth fc; a
flooded message is taken once, lowers the tick or is absorbed, and one that comes too late is taken at the next tick; at phase 0 of T_h the
chip is FROZEN and every capture starts; a thaw of a FROZEN chip at least its lead ahead and a whole number of 64 tk after T_h is set; at
phase 0 of its tick the chip is IDLE; what is not due does nothing. -/
def Obligations.HarvestsCutAndThaw : Prop :=
  (∀ (q : Req) (s : State), s.serves 0x60000 q → q.win = 0 → q.wdata.getLsbD 31 = true → q.wdata.getLsbD 29 = false → s.hrv.state = 0 →
    s.hrv.tpend = false → s.now + 16 ≤ s.hrv.at_.toNat →
    ∃ u, exec (.hrvReq q) s = .next u ∧ s.replied u q rOk 0 ∧ u.hrv.state = 1 ∧ u.hrv.th = s.hrv.at_ ∧ u.hrv.pod = false ∧ u.hrv.src = 1 ∧
      u.hrv.driving = s.hrv.driving ∧ u.links = s.links ∧ u.stops = s.stops) ∧
  (∀ (q : Req) (s : State), s.serves 0x60000 q → q.win = 0 → q.wdata.getLsbD 31 = true → q.wdata.getLsbD 29 = true → s.hrv.state = 0 →
    s.hrv.tpend = false → s.now + s.podLead ≤ s.hrv.at_.toNat →
    ∃ u, exec (.hrvReq q) s = .next u ∧ u.out.getLast? = some (.reply (u.replyWord q.win.toNat q.tag rOk 0)) ∧ u.hrv.state = 1 ∧
      u.hrv.th = s.hrv.at_ ∧ u.hrv.pod = true ∧ u.hrv.driving = true ∧ u.stops = s.stops ∧
      ∀ n, n < nLinks s.build → (s.link n).kpr.locked = true →
        floodMsg 1 s.node (s.hrv.ownReq + 1).toNat s.hrv.at_.toNat ∈ (u.link n).kpr.tx) ∧
  (∀ (q : Req) (s : State), s.serves 0x60000 q → q.win = 0 → q.wdata.getLsbD 31 = true → s.hrv.state = 1 → s.hrv.tpend = false →
    s.now + s.lead (q.wdata.getLsbD 29) ≤ s.hrv.at_.toNat → s.hrv.th.toNat ≤ s.hrv.at_.toNat → s.now < s.hrv.at_.toNat →
    ∃ u, exec (.hrvReq q) s = .next u ∧ s.replied u q rOk 0 ∧ u.hrv.th = s.hrv.th ∧ u.hrv.state = 1 ∧ u.hrv.absorb = inc8 s.hrv.absorb) ∧
  (∀ (q : Req) (s : State), s.serves 0x60000 q → q.win = 0 → q.wdata.getLsbD 31 = true →
    s.hrv.at_.toNat < s.now + s.lead (q.wdata.getLsbD 29) →
    ∃ u, exec (.hrvReq q) s = .next u ∧ s.replied u q rStale 0 ∧ u.hrv = s.hrv) ∧
  (∀ (q : Req) (s : State), s.serves 0x60000 q → q.win = 0 → q.wdata.getLsbD 31 = true → s.hrv.state = 2 →
    s.now + s.lead (q.wdata.getLsbD 29) ≤ s.hrv.at_.toNat →
    ∃ u, exec (.hrvReq q) s = .next u ∧ s.replied u q rBusy 0 ∧ u.hrv = s.hrv) ∧
  (∀ (q : Req) (s : State), s.serves 0x60000 q → q.win ≠ 0 → q.wdata.getLsbD 31 = true →
    ∃ u, exec (.hrvReq q) s = .next u ∧ s.replied u q rDenied 0 ∧ u.hrv = s.hrv) ∧
  (∀ (q : Req) (s : State), s.serves 0x60000 q → q.win = 0 → q.wdata.getLsbD 31 = false → q.wdata.getLsbD 30 = true → s.hrv.state = 2 →
    s.hrv.pod = false → s.hrv.tpend = false → (s.hrv.at_ - s.hrv.th).toNat % 64 = 0 → (s.hrv.at_ - s.hrv.th).toNat < 2 ^ 30 →
    s.now + 16 ≤ s.hrv.at_.toNat →
    ∃ u, exec (.hrvThaw q) s = .next u ∧ s.replied u q rOk 0 ∧ u.hrv.state = 2 ∧ u.hrv.tpend = true ∧ u.hrv.tt = s.hrv.at_ ∧
      u.hrv.th = s.hrv.th ∧ u.links = s.links ∧ u.stops = s.stops) ∧
  (∀ (q : Req) (s : State), s.serves 0x60000 q → q.win = 0 → q.wdata.getLsbD 31 = false → q.wdata.getLsbD 30 = true → s.hrv.state = 2 →
    (s.hrv.at_ - s.hrv.th).toNat % 64 ≠ 0 →
    ∃ u, exec (.hrvThaw q) s = .next u ∧ s.replied u q rError 0 ∧ u.hrv = s.hrv) ∧
  (∀ (q : Req) (s : State), s.serves 0x60000 q → q.win = 0 → q.wdata.getLsbD 31 = false → q.wdata.getLsbD 30 = true → s.hrv.state = 3 →
    ∃ u, exec (.hrvThaw q) s = .next u ∧ s.replied u q rBusy 0 ∧ u.hrv = s.hrv) ∧
  (∀ (s : State), s.ready = true → s.hrv.state = 0 → s.hrv.pinReq = true → s.hrv.driving = false → s.now + s.podLead < 2 ^ 64 →
    ∃ u, exec (.harvestPin 8) s = .next u ∧ u.hrv.state = 1 ∧ u.hrv.pod = true ∧ u.hrv.src = 2 ∧ u.hrv.th.toNat = s.now + s.podLead ∧
      u.hrv.driving = true ∧ u.hrv.pinLow = true ∧ u.stops = s.stops) ∧
  (∀ (k : Nat) (s : State), s.ready = true → 0 < k → k < 8 →
    ∃ u, exec (.harvestPin k) s = .next u ∧ u.hrv = { s.hrv with pinLow := true } ∧ u.out = s.out) ∧
  (∀ (n : Nat) (k : KMsg) (s : State), s.linkRuns n → k.ktype = 0x0B → hrvKind k = 1 →
    ({ origin := hrvOrigin k, req := hrvReqId k, kind := 1 } : Seen) ∉ s.hrv.seen →
    s.hrv.state = 0 ∨ s.hrv.state = 1 ∧ hrvTick k < s.hrv.th.toNat → s.now < hrvTick k →
    ∃ u, exec (.harvestFreezeMsg n k) s = .next u ∧ u.hrv.state = 1 ∧ u.hrv.th.toNat = hrvTick k ∧ u.hrv.pod = true ∧ u.hrv.driving = true ∧
      ({ origin := hrvOrigin k, req := hrvReqId k, kind := 1 } : Seen) ∈ u.hrv.seen ∧ u.stops = s.stops) ∧
  (∀ (n : Nat) (k : KMsg) (s : State), s.linkRuns n → k.ktype = 0x0B → hrvKind k = 1 →
    ({ origin := hrvOrigin k, req := hrvReqId k, kind := 1 } : Seen) ∉ s.hrv.seen → s.hrv.state < 2 → hrvTick k ≤ s.now →
    s.now + 1 < 2 ^ 64 →
    ∃ u, exec (.harvestFreezeMsg n k) s = .next u ∧ u.hrv.state = 1 ∧ u.hrv.th.toNat = s.now + 1 ∧ u.hrv.lateF = true) ∧
  (∀ (n : Nat) (k : KMsg) (s : State), s.linkRuns n → k.ktype = 0x0B → hrvKind k = 1 →
    ({ origin := hrvOrigin k, req := hrvReqId k, kind := 1 } : Seen) ∉ s.hrv.seen → 2 ≤ s.hrv.state →
    ∃ u, exec (.harvestFreezeMsg n k) s = .next u ∧ u.hrv.th = s.hrv.th ∧ u.hrv.state = s.hrv.state ∧ u.hrv.absorb = inc8 s.hrv.absorb ∧
      u.links = s.links) ∧
  (∀ (n : Nat) (k : KMsg) (s : State), s.linkRuns n →
    ({ origin := hrvOrigin k, req := hrvReqId k, kind := 1 } : Seen) ∈ s.hrv.seen → exec (.harvestFreezeMsg n k) s = .next s) ∧
  (∀ (n : Nat) (k : KMsg) (s : State), s.linkRuns n → k.ktype = 0x0B → hrvKind k = 2 →
    ({ origin := hrvOrigin k, req := hrvReqId k, kind := 2 } : Seen) ∉ s.hrv.seen → s.hrv.state = 2 → s.hrv.tpend = false →
    ∃ u, exec (.harvestThawMsg n k) s = .next u ∧ u.hrv.tpend = true ∧ u.hrv.tt.toNat = hrvTick k ∧ u.hrv.state = 2 ∧ u.stops = s.stops ∧
      ∀ j, j < nLinks s.build → (s.link j).kpr.locked = true → floodMsg 2 (hrvOrigin k) (hrvReqId k) (hrvTick k) ∈ (u.link j).kpr.tx) ∧
  (∀ (n : Nat) (k : KMsg) (s : State), s.linkRuns n → s.hrv.state ≠ 2 ∨ s.hrv.tpend = true →
    ∃ u, exec (.harvestThawMsg n k) s = .next u ∧ u.hrv = { s.hrv with seen := u.hrv.seen } ∧ u.links = s.links) ∧
  (∀ (k : KMsg) (a : Nat) (s : State), s.ready = true → s.hrv.repeats = [(k, a)] → a ≤ s.now →
    ∃ u, exec .harvestFloodRepeat s = .next u ∧ u.hrv = { s.hrv with repeats := [] } ∧
      ∀ n, n < nLinks s.build → (u.link n).kpr.tx = (s.link n).kpr.tx ++ (if (s.link n).kpr.locked then [k] else [])) ∧
  (∀ (s : State), s.ready = true → s.hrv.state = 1 → s.hrv.th.toNat = s.now → s.tide.phase = 0 → s.flt.stopDue = false →
    ∃ u, exec .harvestFreeze s = .next u ∧ u.hrv.state = 2 ∧ u.stops = s.stops ∧ u.links = s.links ∧ u.img = s.img ∧
      ∀ n, n < nLinks s.build → ((u.capture n).settled = false ∧ (u.capture n).frames = [] ∧
        ∀ x, Tab.get? s.tide.ldly n = some x → (u.capture n).deadline = some (s.fc + 166 + x.dly.toNat))) ∧
  (∀ (s : State), s.ready = true → s.hrv.state ≠ 1 ∨ s.hrv.th.toNat ≠ s.now ∨ s.tide.phase ≠ 0 → exec .harvestFreeze s = .next s) ∧
  (∀ (n d : Nat) (s : State), s.linkRuns n → (s.capture n).deadline = some d → d ≤ s.fc →
    ∃ u, exec (.captureSettled n) s = .next u ∧ u.capture n = { s.capture n with settled := true, deadline := none } ∧
      u.hrv = { s.hrv with captures := u.hrv.captures } ∧ ∀ j, j ≠ n → u.capture j = s.capture j) ∧
  (∀ (s : State), s.ready = true → s.hrv.state = 2 → s.hrv.tpend = true → s.hrv.thawAt = s.now → s.tide.phase = 0 → s.hrv.deferred = [] →
    s.hrv.captures = [] → s.img.switches = [] → s.img.factoryAt = none → s.flt.fenceSet = none → s.flt.wires = [] →
    (∀ n, n < nLinks s.build → (s.link n).ll.lossDue = false) →
    ∃ u, exec .harvestThaw s = .next u ∧ u.hrv.state = 0 ∧ u.hrv.tpend = false ∧ u.hrv.driving = false ∧ u.hrv.th = 0 ∧ u.hrv.tt = 0 ∧
      u.links = s.links ∧ u.img = s.img) ∧
  (∀ (s : State), s.ready = true → s.hrv.state ≠ 2 ∨ s.hrv.tpend = false ∨ s.hrv.thawAt ≠ s.now ∨ s.tide.phase ≠ 0 →
    exec .harvestThaw s = .next s) ∧
  (∀ (s : State), s.ready = true → exec (.harvestPin 0) s = .next s) ∧
  (∀ (s : State), s.ready = true → s.hrv.driving = false →
    ∃ u, exec .harvestNRelease s = .next u ∧ u.hrv = { s.hrv with pinLow := false } ∧ u.out = s.out) ∧
  (∀ (s : State), s.ready = true → s.hrv.driving = true → exec .harvestNRelease s = .next s)

/-- Scan and trace (R496, R497, R500, R501, R503 to R505, R507, R508, R521, R528): a selection restarts the read at the head word; a read gives
the next word in a freeze and is BUSY outside one; TRACE begins an emission to a trace port in a freeze; a trigger that is enabled and armed
writes its record, a later one is counted; REARM returns the rake to RUN; a MARK record carries its value and window; a source's record goes
to the rake's buffer; eight records go to the HBM region; an upstream codeword goes before an own one, and an own one carries a CWHDR record
and 19 more. -/
def Obligations.ScansAndRecords : Prop :=
  (∀ (q : Req) (s : State), s.serves 0x60024 q → s.hasDbg q.win.toNat = true →
    ∃ u, exec (.scanSelWrite q) s = .next u ∧ s.replied u q rOk 0 ∧
      u.hrv = { s.hrv with scanUnit := q.wdata.extractLsb' 0 16, scanPos := 0 } ∧ u.stops = s.stops) ∧
  (∀ (q : Req) (s : State), s.serves 0x60024 q → s.hasDbg q.win.toNat = false →
    ∃ u, exec (.scanSelWrite q) s = .next u ∧ s.replied u q rDenied 0 ∧ u.hrv = s.hrv) ∧
  (∀ (q : Req) (s : State), s.serves 0x60028 q → s.hasDbg q.win.toNat = true → 2 ≤ s.hrv.state → s.refMode = false →
    ∃ u, exec (.scanDataRead q) s = .next u ∧
      s.replied u q rOk (nth 0 (s.scanStream q.win.toNat s.hrv.scanUnit.toNat) s.hrv.scanPos) ∧
      u.hrv = { s.hrv with scanPos := s.hrv.scanPos + 1 } ∧ u.stops = s.stops ∧ u.links = s.links) ∧
  (∀ (q : Req) (s : State), s.serves 0x60028 q → s.hasDbg q.win.toNat = true → 2 ≤ s.hrv.state → s.hrv.scanPos = 0 →
    s.hasUnit s.hrv.scanUnit.toNat = true →
    ∃ u w, exec (.scanDataRead q) s = .next u ∧ s.replied u q rOk w ∧ w.extractLsb' 16 16 = s.hrv.scanUnit) ∧
  (∀ (q : Req) (s : State), s.serves 0x60028 q → s.hasDbg q.win.toNat = true → s.hrv.state < 2 →
    ∃ u, exec (.scanDataRead q) s = .next u ∧ s.replied u q rBusy 0 ∧ u.hrv = s.hrv) ∧
  (∀ (q : Req) (s : State), s.serves 0x6002C q → s.hasDbg q.win.toNat = true → q.wdata.getLsbD 31 = true → q.wdata.getLsbD 30 = false →
    2 ≤ s.hrv.state → s.hrv.scanTodo = [] → s.img.act.trace.sink = 2 → s.refMode = false →
    ∃ u, exec (.scanTrace q) s = .next u ∧ s.replied u q rOk 0 ∧ u.hrv.scanTodo = s.stateRecs q.win.toNat s.hrv.scanUnit.toNat) ∧
  (∀ (q : Req) (s : State), s.serves 0x6002C q → s.hasDbg q.win.toNat = true → q.wdata.getLsbD 31 = true → q.wdata.getLsbD 30 = true →
    2 ≤ s.hrv.state → s.hrv.scanTodo = [] → s.img.act.trace.sink = 2 → s.refMode = false →
    ∃ u, exec (.scanTrace q) s = .next u ∧ s.replied u q rOk 0 ∧
      u.hrv.scanTodo = s.allUnits.flatMap (fun x => s.stateRecs q.win.toNat x)) ∧
  (∀ (x a b : Nat) (ws : List Word) (l : List (Nat × Nat × Nat × List Word)) (s : State), s.ready = true →
    s.rake.state = 1 ∨ s.rake.state = 2 → s.hrv.scanTodo = (x, a, b, ws) :: l → s.rake.bufs = [] → s.rake.lostBy = [] →
    s.rake.srcs.getLsbD 6 = true → s.rake.muting = false → s.rake.buf = [] → s.rake.ownLost = none → ws ≠ [] → ws.length ≤ 2040 →
    ∃ u, exec .rakeRecordSend s = .next u ∧ u.hrv.scanTodo = l ∧
      u.rake.buf.flatten = recBytes s.timeWord 0x0A x (ceilDiv ws.length 8) a b 0 ++ rawRecs (ws.flatMap fun w => bytesOf 4 w.toNat)) ∧
  (∀ (q : Req) (s : State), s.serves 0x6002C q → s.hasDbg q.win.toNat = true → q.wdata.getLsbD 31 = true → 2 ≤ s.hrv.state →
    s.hrv.scanTodo = [] → s.img.act.trace.sink ≠ 2 →
    ∃ u, exec (.scanTrace q) s = .next u ∧ s.replied u q rError 0 ∧ u.hrv = s.hrv) ∧
  (∀ (q : Req) (s : State), s.serves 0x70000 q → s.hasDbg q.win.toNat = true → q.wdata.getLsbD 29 = true → q.wdata.getLsbD 28 = false →
    s.rake.state = 1 ∨ s.rake.state = 2 → s.rake.trig.getLsbD 0 = true → s.rake.armed = true →
    ∃ u, exec (.rakeTrig 0 (some q)) s = .next u ∧ s.replied u q rOk 0 ∧ u.rake.tposVld = true ∧ u.rake.armed = false ∧
      u.rake.muting = true ∧ u.rake.buf = s.rake.buf ++ [recBytes s.timeWord 0x02 uHrv 0 0 s.img.act.trace.post 0] ∧
      u.rake.tpos = BitVec.ofNat 31 ((s.rake.wp.toNat + s.rake.buf.length) % s.regionRecs)) ∧
  (∀ (q : Req) (s : State), s.serves 0x70000 q → s.hasDbg q.win.toNat = true → q.wdata.getLsbD 29 = true → q.wdata.getLsbD 28 = false →
    s.rake.state = 1 ∨ s.rake.state = 2 → s.rake.trig.getLsbD 0 = true → s.rake.armed = false →
    ∃ u, exec (.rakeTrig 0 (some q)) s = .next u ∧ s.replied u q rOk 0 ∧ u.rake.xtrig = inc8 s.rake.xtrig ∧ u.rake.buf = s.rake.buf ∧
      u.rake.tpos = s.rake.tpos) ∧
  (∀ (q : Req) (s : State), s.serves 0x70000 q → q.win = 0 → q.wdata.getLsbD 29 = false → q.wdata.getLsbD 28 = true → s.rake.state ≠ 0 →
    ∃ u, exec (.rakeRearm q) s = .next u ∧ s.replied u q rOk 0 ∧ u.rake.state = 1 ∧ u.rake.wp = 0 ∧ u.rake.muting = false ∧
      u.rake.armed = true ∧ u.rake.buf = s.rake.buf) ∧
  (∀ (q : Req) (s : State), s.serves 0x70000 q → q.win ≠ 0 → q.wdata.getLsbD 29 = false → q.wdata.getLsbD 28 = true →
    ∃ u, exec (.rakeRearm q) s = .next u ∧ s.replied u q rDenied 0 ∧ u.rake.state = s.rake.state ∧ u.rake.armed = s.rake.armed) ∧
  (∀ (q : Req) (s : State), s.serves 0x70020 q → s.hasDbg q.win.toNat = true → s.refMode = false → s.rake.state = 1 ∨ s.rake.state = 2 →
    s.rake.srcs.getLsbD 0 = true → s.rake.muting = false → Tab.get? s.rake.lostBy uHrv = none → (Tab.get [] s.rake.bufs uHrv).length < 16 →
    ∃ u, exec (.rakeMarkWrite q) s = .next u ∧ s.replied u q rOk 0 ∧
      Tab.get [] u.rake.bufs uHrv = Tab.get [] s.rake.bufs uHrv ++ [recBytes s.timeWord 0x03 uHrv 0 q.wdata.toNat q.win.toNat 0]) ∧
  (∀ (unit : Nat) (r : TrRec) (rs : List TrRec) (s : State), s.ready = true → s.rake.state = 1 ∨ s.rake.state = 2 → s.hrv.scanTodo = [] →
    s.rake.bufs = [(unit, r :: rs)] → r.length = 32 → s.rake.buf.length < 256 → s.rake.ownLost = none →
    ∃ u, exec .rakeRecordSend s = .next u ∧ u = { s with rake := u.rake } ∧ u.rake.buf = s.rake.buf ++ [r] ∧
      Tab.get [] u.rake.bufs unit = rs ∧ u.rake.wp = s.rake.wp ∧ u.rake.state = s.rake.state) ∧
  (∀ (s : State), s.ready = true → s.rake.state ≠ 1 → s.rake.state ≠ 2 → exec .rakeRecordSend s = .next s) ∧
  (∀ (s : State), s.stopRuns ctlTile → s.img.act.trace.sink = 1 → s.img.act.watch = [] → s.rake.state = 1 → 8 ≤ s.rake.buf.length →
    s.rake.wp.toNat + 8 < s.regionRecs →
    ∃ u, exec .rakeSinkWrite s = .next u ∧ u.rake.wp = s.rake.wp + 8 ∧ u.rake.buf = s.rake.buf.drop 8 ∧ u.rake.state = 1) ∧
  (∀ (s : State), s.stopRuns ctlTile → s.img.act.trace.sink = 1 → s.img.act.watch = [] → s.rake.state = 1 → 8 ≤ s.rake.buf.length →
    s.rake.wp.toNat + 8 = s.regionRecs → s.img.act.trace.mode = 0 →
    ∃ u, exec .rakeSinkWrite s = .next u ∧ u.rake.state = 3 ∧ u.rake.buf = []) ∧
  (∀ (s : State), s.stopRuns ctlTile → s.img.act.trace.sink = 1 → s.img.act.watch = [] → s.rake.state = 1 → 8 ≤ s.rake.buf.length →
    s.rake.wp.toNat + 8 = s.regionRecs → s.img.act.trace.mode ≠ 0 →
    ∃ u, exec .rakeSinkWrite s = .next u ∧ u.rake.state = 1 ∧ u.rake.wp = 0 ∧ u.rake.wrapped = true) ∧
  (∀ (c : List Byte) (s : State), s.ready = true → s.img.act.trace.sink = 2 → s.rake.up = [] → s.start.trcPass = true →
    ∃ u, exec (.traceCodewordSlot (some c)) s = .next u ∧ u.out = s.out ++ [.trace c] ∧ u.rake.up = [] ∧ u.rake.buf = s.rake.buf ∧
      u.rake.own = s.rake.own ∧ u.stops = s.stops) ∧
  (∀ (s : State), s.ready = true → s.img.act.trace.sink = 2 → s.rake.up = [] → s.start.trcPass = true → s.rake.state = 1 →
    19 ≤ s.rake.buf.length → s.rake.share64 = true →
    ∃ u, exec (.traceCodewordSlot none) s = .next u ∧
      u.out = s.out ++ [.trace (slice (s.cwhdr ++ (s.rake.buf.take 19).flatten) 0 640)] ∧ u.rake.buf = s.rake.buf.drop 19 ∧
      u.rake.own = s.rake.own + 1 ∧ u.stops = s.stops) ∧
  (∀ (s : State), s.ready = true → s.img.act.trace.sink = 2 → s.rake.up = [] → s.start.trcPass = true → s.rake.share64 = false →
    ∃ u, exec (.traceCodewordSlot none) s = .next u ∧ u.out = s.out ∧ u.rake.buf = s.rake.buf)
/-! ## Check units (18) -/

/-- The check units (R531 to R537, R539, R541, R542): a free unit is claimed, and one that another window holds is BUSY; the holder frees it, and
window 0 frees any; INIT loads V with I; START begins a scan or is refused with its code; ABORT ends one; a write of n bytes feeds them by the
remainder algorithm, takes n fc and leaves V within its width, and an access that comes meanwhile waits in the line; V is read in two halves and
written in two; a feed, a parameter, V and INIT are BUSY under a scan; the engine reads at most 256 bytes within one granule; what returns is fed in order, ends the scan with the last byte, or ends it with 0x0C01. -/
def Obligations.CheckUnitsCompute : Prop :=
  (∀ (k : Nat) (q : Req) (s : State), k < 8 → s.serves (chkOfs k 0) q → s.hasDbg q.win.toNat = true → q.wdata.extractLsb' 27 5 = 16 →
    1 ≤ chkWidth q.wdata → chkWidth q.wdata ≤ 64 → (s.check k).owner = none → (s.check k).state ≠ 2 →
    ∃ u, exec (.chkClaim k q) s = .next u ∧ s.replied u q rOk 0 ∧ (u.check k).owner = some q.win.toNat ∧
      (u.check k).w = chkWidth q.wdata ∧ (u.check k).refin = q.wdata.getLsbD 17 ∧ (u.check k).refout = q.wdata.getLsbD 16 ∧
      (u.check k).p = (s.check k).p ∧ (u.check k).i = (s.check k).i ∧ (u.check k).x = (s.check k).x ∧
      (∀ j, j ≠ k → u.check j = s.check j) ∧ u.stops = s.stops ∧ u.links = s.links) ∧
  (∀ (k o : Nat) (q : Req) (s : State), k < 8 → s.serves (chkOfs k 0) q → s.hasDbg q.win.toNat = true → chkClaimBit q.wdata = true →
    chkStartBit q.wdata = false → (s.check k).owner = some o → o ≠ q.win.toNat → q.win ≠ 0 →
    ∃ u, exec (.chkClaim k q) s = .next u ∧ s.replied u q rBusy 0 ∧ u.chk = s.chk) ∧
  (∀ (k : Nat) (q : Req) (s : State), k < 8 → s.serves (chkOfs k 0) q → s.hasDbg q.win.toNat = false → chkClaimBit q.wdata = true →
    ∃ u, exec (.chkClaim k q) s = .next u ∧ s.replied u q rDenied 0 ∧ u.chk = s.chk) ∧
  (∀ (k : Nat) (q : Req) (s : State), k < 8 → s.serves (chkOfs k 0) q → s.hasDbg q.win.toNat = true → chkClaimBit q.wdata = true →
    chkStartBit q.wdata = false → (s.check k).owner = none → chkWidth q.wdata = 0 ∨ 64 < chkWidth q.wdata →
    ∃ u, exec (.chkClaim k q) s = .next u ∧ s.replied u q rError 0 ∧ u.chk = s.chk) ∧
  (∀ (k : Nat) (q : Req) (s : State), k < 8 → s.serves (chkOfs k 0) q → s.hasDbg q.win.toNat = true → q.wdata.extractLsb' 27 5 = 8 →
    1 ≤ chkWidth q.wdata → chkWidth q.wdata ≤ 64 → (s.check k).owner = some q.win.toNat → (s.check k).state ≠ 2 →
    ∃ u, exec (.chkRelease k q) s = .next u ∧ s.replied u q rOk 0 ∧ (u.check k).owner = none ∧ (u.check k).p = (s.check k).p ∧
      (∀ j, j ≠ k → u.check j = s.check j)) ∧
  (∀ (k o : Nat) (q : Req) (s : State), k < 8 → s.serves (chkOfs k 0) q → q.win = 0 → q.wdata.extractLsb' 27 5 = 8 →
    1 ≤ chkWidth q.wdata → chkWidth q.wdata ≤ 64 → (s.check k).owner = some o → o ≠ 0 → (s.check k).state = 2 →
    ∃ u, exec (.chkRelease k q) s = .next u ∧ s.replied u q rOk 0 ∧
      u.check k = { s.check k with owner := none, state := 0, reads := [] } ∧ ∀ j, j ≠ k → u.check j = s.check j) ∧
  (∀ (k : Nat) (q : Req) (s : State), k < 8 → s.serves (chkOfs k 0) q → s.hasDbg q.win.toNat = true → q.wdata.extractLsb' 27 5 = 4 →
    1 ≤ chkWidth q.wdata → chkWidth q.wdata ≤ 64 → (s.check k).owner = some q.win.toNat → (s.check k).state ≠ 2 →
    ∃ u, exec (.chkInit k q) s = .next u ∧ s.replied u q rOk 0 ∧ (u.check k).w = chkWidth q.wdata ∧
      (u.check k).v = (s.check k).i &&& chkMask (chkWidth q.wdata) ∧ (u.check k).state = (if (s.check k).state = 3 then 0 else (s.check k).state) ∧
      (u.check k).owner = some q.win.toNat ∧ (∀ j, j ≠ k → u.check j = s.check j)) ∧
  (∀ (k : Nat) (q : Req) (s : State), k < 8 → s.serves (chkOfs k 0) q → s.hasDbg q.win.toNat = true → q.wdata.extractLsb' 27 5 = 4 →
    1 ≤ chkWidth q.wdata → chkWidth q.wdata ≤ 64 → (s.check k).owner = some q.win.toNat → (s.check k).state = 2 →
    ∃ u, exec (.chkInit k q) s = .next u ∧ s.replied u q rBusy 0 ∧ u.chk = s.chk) ∧
  (∀ (k : Nat) (q : Req) (s : State), k < 8 → s.serves (chkOfs k 0) q → s.hasDbg q.win.toNat = true → q.wdata.extractLsb' 27 5 = 2 →
    1 ≤ chkWidth q.wdata → chkWidth q.wdata ≤ 64 → (s.check k).owner = some q.win.toNat → s.scanRight q.win.toNat (s.check k) = true →
    s.startCode (s.check k) = rOk →
    ∃ u, exec (.chkStart k q) s = .next u ∧ s.replied u q rOk 0 ∧ (u.check k).state = 2 ∧ (u.check k).next = (s.check k).scanAt.toNat ∧
      (u.check k).stop = (s.check k).scanAt.toNat + (s.check k).len.toNat ∧ (u.check k).done = 0 ∧ (u.check k).reads = []) ∧
  (∀ (k c : Nat) (q : Req) (s : State), k < 8 → s.serves (chkOfs k 0) q → s.hasDbg q.win.toNat = true → q.wdata.extractLsb' 27 5 = 2 →
    1 ≤ chkWidth q.wdata → chkWidth q.wdata ≤ 64 → (s.check k).owner = some q.win.toNat → s.scanRight q.win.toNat (s.check k) = true →
    (s.check k).ctlChanges q.wdata = false → s.startCode (s.check k) = c → c ≠ rOk →
    ∃ u, exec (.chkStart k q) s = .next u ∧ s.replied u q c 0 ∧ u.chk = s.chk) ∧
  (∀ (k : Nat) (q : Req) (s : State), k < 8 → s.serves (chkOfs k 0) q → s.hasDbg q.win.toNat = true → q.wdata.extractLsb' 27 5 = 2 →
    s.scanRight q.win.toNat (s.check k) = false →
    ∃ u, exec (.chkStart k q) s = .next u ∧ s.replied u q rDenied 0 ∧ u.chk = s.chk) ∧
  (∀ (k : Nat) (q : Req) (s : State), k < 8 → s.serves (chkOfs k 0) q → s.hasDbg q.win.toNat = true → q.wdata.extractLsb' 27 5 = 1 →
    1 ≤ chkWidth q.wdata → chkWidth q.wdata ≤ 64 → (s.check k).owner = some q.win.toNat → (s.check k).state = 2 →
    (s.check k).ctlChanges q.wdata = false →
    ∃ u, exec (.chkAbort k q) s = .next u ∧ s.replied u q rOk 0 ∧ u.check k = { s.check k with state := 0, reads := [] } ∧
      u.flt = s.flt ∧ ∀ j, j ≠ k → u.check j = s.check j) ∧
  (∀ (k : Nat) (q : Req) (s : State), k < 8 → s.serves (chkOfs k 0x28) q → s.hasDbg q.win.toNat = true →
    (s.check k).owner = some q.win.toNat → (s.check k).state ≠ 2 →
    ∃ u, exec (.chkData8 k q) s = .next u ∧ s.replied u q rOk 0 ∧
      u.check k = { ((s.check k).feed (bytesOf 1 q.wdata.toNat)) with busy := s.fc + 1 } ∧
      (u.check k).v.toNat < 2 ^ (s.check k).w ∧ ∀ j, j ≠ k → u.check j = s.check j) ∧
  (∀ (k : Nat) (q : Req) (s : State), k < 8 → s.serves (chkOfs k 0x2C) q → s.hasDbg q.win.toNat = true →
    (s.check k).owner = some q.win.toNat → (s.check k).state ≠ 2 →
    ∃ u, exec (.chkData16 k q) s = .next u ∧ s.replied u q rOk 0 ∧
      u.check k = { ((s.check k).feed (bytesOf 2 q.wdata.toNat)) with busy := s.fc + 2 } ∧
      (u.check k).v.toNat < 2 ^ (s.check k).w ∧ ∀ j, j ≠ k → u.check j = s.check j) ∧
  (∀ (k : Nat) (q : Req) (s : State), k < 8 → s.serves (chkOfs k 0x30) q → s.hasDbg q.win.toNat = true →
    (s.check k).owner = some q.win.toNat → (s.check k).state ≠ 2 →
    ∃ u, exec (.chkData32 k q) s = .next u ∧ s.replied u q rOk 0 ∧
      u.check k = { ((s.check k).feed (bytesOf 4 q.wdata.toNat)) with busy := s.fc + 4 } ∧
      (u.check k).v.toNat < 2 ^ (s.check k).w ∧ ∀ j, j ≠ k → u.check j = s.check j) ∧
  (∀ (k : Nat) (q : Req) (s : State), k < 8 → s.ready = true → s.shut .control = false → s.ctrl.line = [] → qOfs q = chkOfs k 0x28 →
    s.refMode = false → s.fc < (s.check k).busy →
    ∃ u, exec (.chkData8 k q) s = .next u ∧ u = { s with ctrl := { s.ctrl with line := [.todo true q (s.entryOf q.win.toNat)] } }) ∧
  (∀ (k : Nat) (q : Req) (s : State), k < 8 → s.serves (chkOfs k 0x30) q → s.hasDbg q.win.toNat = true →
    (s.check k).owner ≠ some q.win.toNat ∨ (s.check k).state = 2 →
    ∃ u, exec (.chkData32 k q) s = .next u ∧ s.replied u q rBusy 0 ∧ u.chk = s.chk) ∧
  (∀ (k : Nat) (q : Req) (s : State), k < 8 → s.serves (chkOfs k 0x28) q → s.hasDbg q.win.toNat = true →
    (s.check k).owner ≠ some q.win.toNat ∨ (s.check k).state = 2 →
    ∃ u, exec (.chkData8 k q) s = .next u ∧ s.replied u q rBusy 0 ∧ u.chk = s.chk) ∧
  (∀ (k : Nat) (q : Req) (s : State), k < 8 → s.serves (chkOfs k 0x2C) q → s.hasDbg q.win.toNat = true →
    (s.check k).owner ≠ some q.win.toNat ∨ (s.check k).state = 2 →
    ∃ u, exec (.chkData16 k q) s = .next u ∧ s.replied u q rBusy 0 ∧ u.chk = s.chk) ∧
  (∀ (k : Nat) (hi : Bool) (q : Req) (s : State), k < 8 → s.serves (chkOfs k (if hi then 0x24 else 0x20)) q → s.hasDbg q.win.toNat = true →
    (s.check k).owner ≠ some q.win.toNat ∨ (s.check k).state = 2 →
    ∃ u, exec (.chkValWrite k hi q) s = .next u ∧ s.replied u q rBusy 0 ∧ u.chk = s.chk) ∧
  (∀ (k o : Nat) (q : Req) (s : State), k < 8 → o % 4 = 0 → 0x08 ≤ o → o < 0x20 → s.serves (chkOfs k o) q → s.hasDbg q.win.toNat = true →
    (s.check k).owner ≠ some q.win.toNat ∨ (s.check k).state = 2 →
    ∃ u, exec (.registerWrite q) s = .next u ∧ s.replied u q rBusy 0 ∧ u.chk = s.chk) ∧
  (∀ (k : Nat) (q : Req) (s : State), k < 8 → s.serves (chkOfs k 0) q → s.hasDbg q.win.toNat = true → q.wdata.extractLsb' 27 5 = 0 →
    1 ≤ chkWidth q.wdata → chkWidth q.wdata ≤ 64 → (s.check k).owner = some q.win.toNat → (s.check k).state = 2 →
    (s.check k).ctlChanges q.wdata = true →
    ∃ u, exec (.registerWrite q) s = .next u ∧ s.replied u q rBusy 0 ∧ u.chk = s.chk) ∧
  (∀ (k : Nat) (q : Req) (s : State), k < 8 → s.serves (chkOfs k 0x20) q → s.hasDbg q.win.toNat = true →
    ∃ u, exec (.chkValRead k q) s = .next u ∧ s.replied u q rOk ((s.check k).v.extractLsb' 0 32) ∧ (u.check k).v = (s.check k).v ∧
      Tab.get? (u.check k).capHi q.win.toNat = some ((s.check k).v.extractLsb' 32 32) ∧
      Tab.get? (u.check k).capDone q.win.toNat = some (s.check k).done) ∧
  (∀ (k : Nat) (q : Req) (s : State), k < 8 → s.serves (chkOfs k 0x24) q → s.hasDbg q.win.toNat = true →
    (s.check k).owner = some q.win.toNat → (s.check k).state ≠ 2 →
    ∃ u, exec (.chkValWrite k true q) s = .next u ∧ s.replied u q rOk 0 ∧
      (u.check k).v = (q.wdata ++ (s.check k).v.extractLsb' 0 32) &&& chkMask (s.check k).w ∧ (u.check k).state ≠ 3) ∧
  (∀ (k : Nat) (q : Req) (s : State), k < 8 → s.serves (chkOfs k 0x20) q → s.hasDbg q.win.toNat = true →
    (s.check k).owner = some q.win.toNat → (s.check k).state ≠ 2 →
    ∃ u, exec (.chkValWrite k false q) s = .next u ∧ s.replied u q rOk 0 ∧
      (u.check k).v = ((s.check k).v.extractLsb' 32 32 ++ q.wdata) &&& chkMask (s.check k).w ∧ (u.check k).state ≠ 3) ∧
  (∀ (k : Nat) (s : State), s.stopRuns ctlTile → s.img.act.watch = [] → s.scanNext = some k →
    ∃ u n, exec .scanReadIssue s = .next u ∧ u.chkPtr = k ∧ 0 < n ∧ n ≤ 256 ∧ (s.check k).next % 256 + n ≤ 256 ∧
      (s.check k).next + n ≤ (s.check k).stop ∧ (u.check k).next = (s.check k).next + n ∧ (u.check k).v = (s.check k).v ∧
      (u.check k).reads = (s.check k).reads ++ [{ tag := BitVec.ofNat 8 (s.check k).issued, addr := (s.check k).next, got := none }]) ∧
  (∀ (s : State), s.stopRuns ctlTile → s.scanNext = none → exec .scanReadIssue s = .next s) ∧
  (∀ (k : Nat) (r : ScanRead) (d : List Byte) (s : State), k < 8 → s.running = true → (s.check k).state = 2 → (s.check k).reads = [r] →
    r.got = none →
    ∃ u, exec (.scanReadReturn k r.tag true d) s = .next u ∧ (u.check k).v = ((s.check k).feed d).v ∧
      (u.check k).done = (s.check k).done + BitVec.ofNat 32 d.length ∧ (u.check k).reads = [] ∧
      (u.check k).state = (if (s.check k).next = (s.check k).stop then 0 else 2) ∧ u.out = s.out) ∧
  (∀ (k : Nat) (r : ScanRead) (d : List Byte) (s : State), k < 8 → s.running = true → (s.check k).state = 2 → (s.check k).reads = [r] →
    r.got = none →
    ∃ u, exec (.scanReadReturn k r.tag false d) s = .next u ∧ s.reported u (unitId uBlock 4) 0x0C01 ∧ (u.check k).v = (s.check k).v ∧
      (u.check k).done = (s.check k).done ∧ (u.check k).state = 3) ∧
  (∀ (k : Nat) (tag : BitVec 8) (ok : Bool) (d : List Byte) (s : State), k < 8 → s.running = true → (s.check k).state ≠ 2 →
    exec (.scanReadReturn k tag ok d) s = .next s)
/-! ## Power (19) -/

/-- Power (R31, R546, R547, R549 to R552, R555, R557): a budget of 1 to 16,384 is taken and another counted; the allocation hands out no more than
its pool and no more than each requester wants; the first evaluation grants every requester its floor, and so does one while no budget has
been taken; later a grant above its target falls to it and another rises towards its own; an evaluation over budget raises SFLOOR from the
second one on; a core's word reaches its stop, or waits in the crossing of a held chip, and one that finds the crossing full overwrites its
tail and sets the flag, as do a budget and a grant; a stop forwards a changed word, not within 250 tk;
the arbiter takes a request, and a stop presents a grant. -/
def Obligations.CurrentIsGranted : Prop :=
  (∀ (b : BitVec 16) (full : Bool) (s : State), s.ready = true → s.shut .budget = false → 1 ≤ b.toNat → b.toNat ≤ 16384 →
    ∃ u, exec (.budgetValue b full) s = .next u ∧
      u = { s with pwr := { s.pwr with valid := true, budget := b.setWidth 15 }, rake := u.rake, ctrl := u.ctrl } ∧
      u.ctrl = { s.ctrl with xstat := if full then s.ctrl.xstat ||| 2 else s.ctrl.xstat }) ∧
  (∀ (b : BitVec 16) (full : Bool) (s : State), s.ready = true → s.shut .budget = false → b.toNat = 0 ∨ 16384 < b.toNat →
    ∃ u, exec (.budgetValue b full) s = .next u ∧
      u = { s with pwr := { s.pwr with badVal := inc8 s.pwr.badVal }, rake := u.rake, ctrl := u.ctrl } ∧
      u.ctrl = { s.ctrl with xstat := if full then s.ctrl.xstat ||| 2 else s.ctrl.xstat }) ∧
  (∀ (b : BitVec 16) (full : Bool) (s : State), s.ready = true → s.shut .budget = true → exec (.budgetValue b full) s = .next s) ∧
  (∀ (n pool : Nat) (l : List Share), ((allocRounds n l pool).map (·.x)).sum ≤ (l.map (·.x)).sum + pool) ∧
  (∀ (n pool : Nat) (l : List Share), (∀ a ∈ l, a.x ≤ a.e) → ∀ a ∈ allocRounds n l pool, a.x ≤ a.e) ∧
  (∀ (s : State), s.ready = true → s.now % 500 = 0 → s.tide.phase = 0 → s.pwr.started = false ∨ s.pwr.valid = false →
    ∃ u, exec .powerEvaluate s = .next u ∧ u.pwr.started = true ∧ (∀ id ∈ s.requesters, (u.pwrReq id).grant = s.pwrFloor id)) ∧
  (∀ (s : State), s.ready = true → s.now % 500 = 0 → s.tide.phase = 0 → s.pwr.started = true → s.pwr.valid = true →
    (∀ id ∈ s.requesters, (Tab.get? s.pwr.reqs id).isSome = true) →
    ∃ u, exec .powerEvaluate s = .next u ∧
      (∀ x ∈ s.targets s.requesters s.pwr.budget.toNat, x.2 ≤ (s.pwrReq x.1).grant → (u.pwrReq x.1).grant = x.2) ∧
      (∀ x ∈ s.targets s.requesters s.pwr.budget.toNat, (s.pwrReq x.1).grant ≤ x.2 →
        ((s.pwrReq x.1).grant ≤ (u.pwrReq x.1).grant ∧ (u.pwrReq x.1).grant ≤ x.2))) ∧
  (∀ (s : State), s.ready = true → s.now % 500 = 0 → s.tide.phase = 0 →
    ∃ u, exec .powerEvaluate s = .next u ∧ u.pwr.overNow = (s.pwr.valid && decide (s.pwr.budget.toNat < u.pwr.acct)) ∧
      u.pwr.short = (s.pwr.valid && decide (s.pwr.budget.toNat < (s.requesters.map s.pwrFloor).sum)) ∧
      u.pwr.overRun = (if u.pwr.overNow then s.pwr.overRun + 1 else 0) ∧ u.pwr.budget = s.pwr.budget ∧
      u.pwr.sfloor = (if u.pwr.overNow then (if 2 ≤ u.pwr.overRun then min 7 (s.pwr.sfloor + 1) else s.pwr.sfloor) else s.pwr.sfloor - 1)) ∧
  (∀ (s : State), s.ready = true → s.now % 500 ≠ 0 ∨ s.tide.phase ≠ 0 → exec .powerEvaluate s = .next s) ∧
  (∀ (t : Nat) (w : Word) (full : Bool) (s : State), s.running = true → tileOk s.build t = true → s.clientKind t ≠ 0 →
    s.shut (.pwr t) = false →
    ∃ u, exec (.corePowerRequest t w full) s = .next u ∧ u = { s with pwr := u.pwr, stops := u.stops } ∧
      (∀ j, Tab.get default u.pwr.ports j =
        if j = t then { Tab.get default s.pwr.ports t with word := w } else Tab.get default s.pwr.ports j) ∧ s.stopsBut u t ∧
      u.stop t = { s.stop t with xst := if full then (s.stop t).xst ||| 4 else (s.stop t).xst }) ∧
  (∀ (t : Nat) (w : Word) (full : Bool) (s : State), s.ready = true → s.running = false → tileOk s.build t = true → s.clientKind t ≠ 0 →
    s.shut (.pwr t) = false → (Tab.get default s.pwr.ports t).fifo.length < 2 →
    ∃ u, exec (.corePowerRequest t w full) s = .next u ∧ u = { s with pwr := u.pwr } ∧ Tab.get default u.pwr.ports t =
      { Tab.get default s.pwr.ports t with fifo := (Tab.get default s.pwr.ports t).fifo ++ [w] }) ∧
  (∀ (t : Nat) (a b w : Word) (full : Bool) (s : State), s.ready = true → s.running = false → tileOk s.build t = true → s.clientKind t ≠ 0 →
    s.shut (.pwr t) = false → (Tab.get default s.pwr.ports t).fifo = [a, b] →
    ∃ u, exec (.corePowerRequest t w full) s = .next u ∧ Tab.get default u.pwr.ports t =
      { Tab.get default s.pwr.ports t with fifo := [a, w] } ∧ u.stop t = { s.stop t with xst := (s.stop t).xst ||| 4 } ∧ s.stopsBut u t) ∧
  (∀ (t : Nat) (w : Word) (full : Bool) (s : State), s.ready = true → tileOk s.build t = true → s.clientKind t = 0 ∨ s.shut (.pwr t) = true →
    exec (.corePowerRequest t w full) s = .next s) ∧
  (∀ (t : Nat) (s : State), s.stopRuns t → (Tab.get default s.pwr.ports t).word ≠ (Tab.get default s.pwr.ports t).sent →
    (Tab.get default s.pwr.ports t).nextAt ≤ s.now →
    ∃ u m, exec (.pwrRequestForward t) s = .next u ∧ s.cSends u t m ∧ m.hdr.mkind = 0xD ∧ m.hdr.plen = 16 ∧ m.hdr.arg = 0 ∧
      m.hdr.dtile = BitVec.ofNat 9 ctlTile ∧ bits (pwrVal m) 127 124 = 1 ∧
      bits (pwrVal m) 95 80 = ((Tab.get default s.pwr.ports t).word.extractLsb' 16 16).toNat ∧
      bits (pwrVal m) 79 64 = ((Tab.get default s.pwr.ports t).word.extractLsb' 0 16).toNat ∧
      Tab.get default u.pwr.ports t =
        { Tab.get default s.pwr.ports t with sent := (Tab.get default s.pwr.ports t).word, nextAt := s.now + 250 }) ∧
  (∀ (t : Nat) (s : State), s.stopRuns t → s.now < (Tab.get default s.pwr.ports t).nextAt ∨
    (Tab.get default s.pwr.ports t).word = (Tab.get default s.pwr.ports t).sent → exec (.pwrRequestForward t) s = .next s) ∧
  (∀ (t : Nat) (m : CMsg) (full : Bool) (s : State), s.stopRuns t → m.hdr.mkind = 0xD → m.hdr.plen = 16 → m.hdr.dtile.toNat = t →
    bits (pwrVal m) 127 124 = 2 → bits (pwrVal m) 111 96 = t → s.clientKind t ≠ 0 → s.shut (.pwr t) = false →
    ∃ u, exec (.pwrGrantReceived t m full) s = .next u ∧ (u.stop t).sl.floorNext = bits (pwrVal m) 63 61 ∧
      (u.stop t).xst = (if full then (s.stop t).xst ||| 2 else (s.stop t).xst) ∧
      u.out = (if full then (s.dropGrant t).out else s.out) ++
        [.pwrGrant t (BitVec.ofNat 32 (b2n (bit (pwrVal m) 60) * 2 ^ 31 + bits (pwrVal m) 79 64))] ∧ s.stopOnly u t) ∧
  (∀ (t : Nat) (m : CMsg) (full : Bool) (s : State), s.stopRuns t → m.hdr.mkind = 0xD → m.hdr.plen = 16 → m.hdr.dtile.toNat = t →
    bits (pwrVal m) 127 124 = 2 → bits (pwrVal m) 111 96 = t → s.clientKind t = 0 ∨ s.shut (.pwr t) = true →
    ∃ u, exec (.pwrGrantReceived t m full) s = .next u ∧ (u.stop t).sl.floorNext = bits (pwrVal m) 63 61 ∧
      (u.stop t).xst = (s.stop t).xst ∧ u.out = s.out ∧ s.stopOnly u t) ∧
  (∀ (m : CMsg) (full : Bool) (s : State), s.stopRuns ctlTile → m.hdr.mkind = 0xD → m.hdr.plen = 16 → m.hdr.dtile.toNat = ctlTile →
    bits (pwrVal m) 127 124 = 1 → bits (pwrVal m) 111 96 < 4096 →
    ∃ u, exec (.pwrGrantReceived ctlTile m full) s = .next u ∧ u = { s with pwr := u.pwr } ∧
      (u.pwrReq (bits (pwrVal m) 111 96)).use_ = bits (pwrVal m) 95 80 ∧ (u.pwrReq (bits (pwrVal m) 111 96)).req = bits (pwrVal m) 79 64)
/-! ## Start-up and resets (20) -/

/-- Start-up and resets (R27, R563 to R566, R568, R569, R571, R573, R576, R577, R588): PORST_N clears the block; its release starts FUSE; fuse words
with a good CRC lead to CLOCK with the rows that they map, others to FAILED; the tide count starts at 0 when the clock locks; the self-test
leads to READY, each failed part having its outcome; a phase whose bound passes fails, or ends, and reports each wire
that has not trained by its two tiles; FLT_RST with its key, through
window 0, starts a block reset 64 fc later; a client reset discards what its tile had from the client and is BUSY until it is done. -/
def Obligations.StartUpAndResets : Prop :=
  (∀ (s : State), ∃ u, exec .porstAssert s = .next u ∧ u.start.phase = 0 ∧ u.start.porst = true ∧ u.start.cause = 0 ∧
    u.build = s.build ∧ u.pending = s.pending ∧ u = { State.reset with
      build := s.build, pending := s.pending, silicon := s.silicon, start := u.start, out := u.out }) ∧
  (∀ (s : State), s.start.phase = 0 → exec .porstRelease s = .next { s with start := { s.start with phase := 1, porst := false } }) ∧
  (∀ (s : State), s.start.phase ≠ 0 → exec .porstRelease s = .next s) ∧
  (∀ (ws : List Word) (s : State), s.start.phase = 1 → fuseCrcOk ws = true →
    ∃ u, exec (.fuseReadComplete ws) s = .next u ∧ u.start = { s.start with phase := 2, fuses := ws } ∧
      u.flt.ftest = Config.fuseFaultTest ws ∧ u.stops = s.stops ∧ u.img = s.img ∧
      ∀ y, y < 16 → ((Tab.get default u.rows y).fuse = fuseEntry s.build ws y ∧
        (Tab.get default u.rows y).col = (fuseEntry s.build ws y).getD (pcols s.build - 1))) ∧
  (∀ (ws : List Word) (s : State), s.start.phase = 1 → fuseCrcOk ws = false →
    exec (.fuseReadComplete ws) s = .next { s with start := { s.start with phase := 6, fuseErr := true } }) ∧
  (∀ (s : State), s.start.phase = 2 →
    exec .clockLocked s = .next { s with fc := 0, ft := 0, tide := Tide.init, start := { s.start with phase := 3 } }) ∧
  (∀ (s : State), s.start.phase ≠ 2 → exec .clockLocked s = .next s) ∧
  (∀ (s : State), s.start.phase = 4 → exec (.selftestComplete []) s = .next { s with start := { s.start with phase := 5 } }) ∧
  (∀ (t bank : Nat) (s : State), s.start.phase = 4 → tileOk s.build t = true → 4 * bank < nSlots s.build → s.spareFree t bank = true →
    ∃ u, exec (.selftestComplete [.storeBank t bank]) s = .next u ∧ u.start.phase = 5 ∧
      u.start.bistSpare = inc8 s.start.bistSpare ∧ (u.stop t).cu.spared = (s.stop t).cu.spared ++ [bank] ∧ u.out = s.out) ∧
  (∀ (t bank : Nat) (s : State), s.start.phase = 4 → tileOk s.build t = true → 4 * bank < nSlots s.build → s.spareFree t bank = false →
    ∃ u, exec (.selftestComplete [.storeBank t bank]) s = .next u ∧ u.start.phase = 5 ∧ u.start.bistFault = inc8 s.start.bistFault ∧
      s.reported u (unitId uCu (s.phys t)) 0x0804 ∧ ∀ i, i < 4 → (u.slot t (4 * bank + i)).state = 5) ∧
  (∀ (t g : Nat) (s : State), s.start.phase = 4 → tileOk s.build t = true → 32 * g < nSlots s.build →
    ∃ u, exec (.selftestComplete [.storeSpare t g]) s = .next u ∧ u.start.phase = 5 ∧ (u.stop t).cu.badSpares = (s.stop t).cu.badSpares ++ [g] ∧
      u.out = s.out) ∧
  (∀ (t k : Nat) (s : State), s.start.phase = 4 → tileOk s.build t = true → k < 16 → 0 < (s.stop t).q.spares →
    ∃ u, exec (.selftestComplete [.queueRow t k]) s = .next u ∧ u.start.phase = 5 ∧ (u.stop t).q.spares = (s.stop t).q.spares - 1 ∧
      u.start.bistSpare = inc8 s.start.bistSpare ∧ u.out = s.out) ∧
  (∀ (t k : Nat) (s : State), s.start.phase = 4 → tileOk s.build t = true → k < 16 → (s.stop t).q.spares = 0 →
    ∃ u, exec (.selftestComplete [.queueRow t k]) s = .next u ∧ u.start.phase = 5 ∧ (u.queue t k).depth = (s.queue t k).depth - 1 ∧
      s.reported u (unitId uQ (s.phys t)) 0x0806) ∧
  (∀ (t : Nat) (s : State), s.start.phase = 4 → tileOk s.build t = true →
    ∃ u, exec (.selftestComplete [.stopSram t]) s = .next u ∧ u.start.phase = 5 ∧ s.reported u (unitId uT (s.phys t)) 0x0310) ∧
  (∀ (n : Nat) (s : State), s.start.phase = 4 → n < nLinks s.build →
    ∃ u, exec (.selftestComplete [.linkBuffer n]) s = .next u ∧ u.start.phase = 5 ∧ s.reported u (unitId uLink n) 0x0311) ∧
  (∀ (s : State), s.start.phase = 4 →
    ∃ u, exec (.selftestComplete [.rakeBuffer]) s = .next u ∧ u.start.phase = 5 ∧ u.start.rakeBad = true ∧ s.reported u 0xA003 0x0312) ∧
  (∀ (ws : List (Nat × Nat)) (s : State), s.start.phase = 1 →
    exec (.startupPhaseTimeout ws) s = .next { s with start := { s.start with phase := 6, fuseErr := true } }) ∧
  (∀ (ws : List (Nat × Nat)) (s : State), s.start.phase = 2 →
    exec (.startupPhaseTimeout ws) s = .next { s with start := { s.start with phase := 6, pllErr := true } }) ∧
  (∀ (ws : List (Nat × Nat)) (s : State), s.start.phase = 3 → ws ≠ [] →
    ∃ u, exec (.startupPhaseTimeout ws) s = .next u ∧ u.start = { s.start with phase := 4 } ∧ u.links = s.links ∧ u.out = s.out ++ ws.map fun w =>
      .fault { unit := 0xA005, code := 0x0101, cls := BitVec.ofNat 2 (faultClass 0x0101), tick := s.stamp, detT := BitVec.ofNat 16 w.2,
               detN := BitVec.ofNat 16 w.1, detV := 0 }) ∧
  (∀ (ws : List (Nat × Nat)) (s : State), s.start.phase = 4 →
    exec (.startupPhaseTimeout ws) s = .next { s with start := { s.start with phase := 5 } }) ∧
  (∀ (ws : List (Nat × Nat)) (s : State), s.start.phase = 0 ∨ 5 ≤ s.start.phase → exec (.startupPhaseTimeout ws) s = .next s) ∧
  (∀ (q : Req) (s : State), s.serves 0x40024 q → q.win = 0 → q.wdata.extractLsb' 0 16 = 0x52E5 → q.wdata.getLsbD 31 = true →
    s.start.resetAt = none →
    ∃ u, exec (.fltRstWrite q) s = .next u ∧ s.replied u q rOk 0 ∧ u.start = { s.start with resetAt := some (s.fc + 64) }) ∧
  (∀ (q : Req) (s : State), s.serves 0x40024 q → q.win = 0 → q.wdata.extractLsb' 0 16 ≠ 0x52E5 →
    ∃ u, exec (.fltRstWrite q) s = .next u ∧ s.replied u q rError 0 ∧ u.start = s.start) ∧
  (∀ (q : Req) (s : State), s.serves 0x40024 q → q.win ≠ 0 →
    ∃ u, exec (.fltRstWrite q) s = .next u ∧ s.replied u q rDenied 0 ∧ u.start = s.start) ∧
  (∀ (d : Nat) (s : State), s.start.resetAt = some d → d ≤ s.fc →
    ∃ u, exec .blockResetStart s = .next u ∧ u.start.phase = 1 ∧ u.start.cause = 1 ∧ u.pending = s.pending ∧ u = { State.reset with
      build := s.build, pending := s.pending, silicon := s.silicon, start := u.start, out := u.out }) ∧
  (∀ (s : State), (∀ d, s.start.resetAt = some d → s.fc < d) → exec .blockResetStart s = .next s) ∧
  (∀ (t : Nat) (s : State), s.stopRuns t → (s.stop t).si.rstBusy = false →
    ∃ u, exec (.clientReset t .pin) s = .next u ∧ (u.stop t).si.rstBusy = true ∧ (u.stop t).si.rstCount = inc8 (s.stop t).si.rstCount ∧
      (u.stop t).si.asms = [] ∧ (u.stop t).si.rxlim = 0 ∧ (u.stop t).co.waiting = [] ∧
      (u.stop t).q.qs = (s.stop t).q.qs.map (fun e => (e.1, e.2.clientReset)) ∧ u.out.getLast? = some (.crstBusy t true)) ∧
  (∀ (t : Nat) (s : State), s.stopRuns t → (s.stop t).si.rstBusy = true → exec (.clientReset t .pin) s = .next s) ∧
  (∀ (t : Nat) (m : CMsg) (s : State), s.stopRuns t → s.regWrite t 0x904 m → (regData m).getLsbD 31 = true → (s.stop t).si.rstBusy = false →
    ∃ u, exec (.clientReset t (.reg m)) s = .next u ∧ (u.stop t).si.rstBusy = true ∧ (u.stop t).si.asms = [] ∧
      (u.stop t).c.cq.getLast? = some (s.regAnsMsg t m rOk 0)) ∧
  (∀ (t : Nat) (m : CMsg) (s : State), s.stopRuns t → s.regWrite t 0x904 m → (regData m).getLsbD 31 = true → (s.stop t).si.rstBusy = true →
    ∃ u, exec (.clientReset t (.reg m)) s = .next u ∧ s.regAnswered u t m rBusy 0 ∧ (u.stop t).si = (s.stop t).si ∧ s.stopOnly u t) ∧
  (∀ (t : Nat) (s : State), s.stopRuns t → (s.stop t).si.rstBusy = true →
    ∃ u, exec (.clientResetDone t) s = .next u ∧ (u.stop t).si = { (s.stop t).si with rstBusy := false } ∧
      u.out = s.out ++ [.crstBusy t false] ∧ s.stopOnly u t) ∧
  (∀ (t : Nat) (s : State), s.stopRuns t → (s.stop t).si.rstBusy = false → exec (.clientResetDone t) s = .next s)
/-! ## The control port (21) -/

/-- The control port (R5, R417, R495, R591, R593 to R595, R598 to R600): a read of a block page answers its value, ABSENT where there is no
register, DENIED where the window has no right; a register with a command of its own is read or written by that command; an access of a STOP
page becomes a C-plane message that is answered at its place with the value, and its answer, or 20 µs without one, the reply; a held chip
refuses the write; the request behind is performed next; BLK_ATTN's sticky bits are cleared for the window that reads them. -/
def Obligations.PortServesRequests : Prop :=
  (∀ (o : Nat) (v : Word) (q : Req) (s : State), s.serves o q → o < 0x100000 → o ≠ 0x10000 → o ≠ 0x10020 → o ≠ 0x60028 →
    ¬(0x80000 ≤ o ∧ o < 0x80400) → s.refMode = false → s.blockVal q.win.toNat o = some v → s.blockRdOk q.win.toNat o = true →
    ∃ u l, exec (.registerRead q) s = .next u ∧ u.out = s.out ++ .reply (s.replyWord q.win.toNat q.tag rOk v) :: l ∧ (o ≠ 0x40000 → l = []) ∧
      u.stops = s.stops ∧ u.links = s.links ∧ u.img = s.img) ∧
  (∀ (o : Nat) (v : Word) (q : Req) (s : State), s.serves o q → o < 0x100000 → o ≠ 0x10000 → o ≠ 0x10020 → o ≠ 0x60028 →
    ¬(0x80000 ≤ o ∧ o < 0x80400) → s.refMode = false → s.blockVal q.win.toNat o = some v → s.blockRdOk q.win.toNat o = false →
    ∃ u, exec (.registerRead q) s = .next u ∧ s.replied u q rDenied 0 ∧ u = { s with out := u.out }) ∧
  (∀ (o : Nat) (q : Req) (s : State), s.serves o q → 0xB0000 ≤ o → o < 0x100000 →
    ∃ u, exec (.registerRead q) s = .next u ∧ s.replied u q rAbsent 0 ∧ u = { s with out := u.out, rake := u.rake }) ∧
  (∀ (o : Nat) (q : Req) (s : State), s.serves o q → 0xB0000 ≤ o → o < 0x100000 →
    ∃ u, exec (.registerWrite q) s = .next u ∧ s.replied u q rAbsent 0 ∧ u = { s with out := u.out, rake := u.rake }) ∧
  (∀ (q : Req) (s : State), (qOfs q = 0x10000 → exec (.registerRead q) s = exec (.tideNowRead q) s) ∧
    (qOfs q = 0x60028 → exec (.registerRead q) s = exec (.scanDataRead q) s) ∧
    (qOfs q = 0x0000C → exec (.registerRead q) s = exec (.blkAttnRead q) s)) ∧
  (∀ (q : Req) (s : State), (qOfs q = 0x40024 → exec (.registerWrite q) s = exec (.fltRstWrite q) s) ∧
    (qOfs q = 0x20000 → imgCmd q.wdata = 1 → exec (.registerWrite q) s = exec (.imgLoad q) s) ∧
    (qOfs q = 0x30018 → q.wdata.getLsbD 31 = true → exec (.registerWrite q) s = exec (.panArmGo q) s) ∧
    (qOfs q = 0x60000 → q.wdata.getLsbD 31 = true → exec (.registerWrite q) s = exec (.hrvReq q) s)) ∧
  (∀ (q : Req) (s : State), s.serves 0x60004 q → q.win = 0 →
    ∃ u, exec (.registerWrite q) s = .next u ∧ s.replied u q rOk 0 ∧ u.hrv = { s.hrv with at_ := halfSet s.hrv.at_ false q.wdata } ∧
      u.stops = s.stops ∧ u.links = s.links) ∧
  (∀ (q : Req) (s : State), s.serves 0x20010 q → q.win = 0 → s.hrv.state < 2 →
    ∃ u, exec (.registerWrite q) s = .next u ∧ s.replied u q rOk 0 ∧ u.img = { s.img with at_ := halfSet s.img.at_ false q.wdata } ∧
      u.stops = s.stops) ∧
  (∀ (q : Req) (s : State), s.serves 0x20010 q → q.win = 0 → 2 ≤ s.hrv.state →
    ∃ u, exec (.registerWrite q) s = .next u ∧ s.replied u q rBusy 0 ∧ u.img = s.img) ∧
  (∀ (q : Req) (s : State), s.serves 0x20010 q → q.win ≠ 0 →
    ∃ u, exec (.registerWrite q) s = .next u ∧ s.replied u q rDenied 0 ∧ u.img = s.img) ∧
  (∀ (o t : Nat) (v : Nat × Word) (q : Req) (s : State), s.serves o q → s.running = true → 0x100000 ≤ o → s.refMode = false →
    s.pagePlace o = some (.stop t) → s.pageVal (.stop t) (o % 0x1000) = some v → s.pageOk (.stop t) false q.win.toNat (o % 0x1000) = true →
    ∃ u r m, exec (.registerRead q) s = .next u ∧ u.ctrl.line = [.wait r] ∧ r.win = q.win.toNat ∧ r.tag = q.tag ∧ r.wofs = q.wofs ∧
      r.wr = false ∧ r.deadline = s.fc + 20 * usFc ∧ s.cSends u ctlTile m ∧ m.hdr.mkind = 0x9 ∧ m.hdr.plen = 16 ∧ m.hdr.arg = 0 ∧
      m.hdr.dtile = BitVec.ofNat 9 t ∧ m.data = regReqBytes { q with wdata := 0 } ∧ u.out = s.out) ∧
  (∀ (o t : Nat) (v : Nat × Word) (q : Req) (s : State), s.serves o q → s.running = true → 0x100000 ≤ o → s.refMode = false →
    s.pagePlace o = some (.stop t) → s.pageVal (.stop t) (o % 0x1000) = some v → s.pageOk (.stop t) true q.win.toNat (o % 0x1000) = true →
    ∃ u r m, exec (.registerWrite q) s = .next u ∧ u.ctrl.line = [.wait r] ∧ r.wr = true ∧ r.tag = q.tag ∧ r.deadline = s.fc + 20 * usFc ∧
      s.cSends u ctlTile m ∧ m.hdr.mkind = 0xA ∧ m.hdr.dtile = BitVec.ofNat 9 t ∧ m.data = regReqBytes q ∧ u.out = s.out) ∧
  (∀ (o t : Nat) (v : Nat × Word) (q : Req) (s : State), s.serves o q → 2 ≤ s.hrv.state → 0x100000 ≤ o → s.refMode = false →
    s.pagePlace o = some (.stop t) → s.pageVal (.stop t) (o % 0x1000) = some v → s.pageOk (.stop t) true q.win.toNat (o % 0x1000) = true →
    ∃ u, exec (.registerWrite q) s = .next u ∧ s.replied u q rBusy 0 ∧ u = { s with out := u.out }) ∧
  (∀ (o t : Nat) (v : Nat × Word) (q : Req) (s : State), s.serves o q → 2 ≤ s.hrv.state → 0x100000 ≤ o → s.refMode = false →
    s.pagePlace o = some (.stop t) → s.pageVal (.stop t) (o % 0x1000) = some v → s.pageOk (.stop t) false q.win.toNat (o % 0x1000) = true →
    ∃ u, exec (.registerRead q) s = .next u ∧ s.replied u q v.1 v.2 ∧ u = { s with out := u.out }) ∧
  (∀ (o : Nat) (q : Req) (s : State), s.serves o q → 0x100000 ≤ o → s.refMode = false → s.pagePlace o = none →
    ∃ u, exec (.registerRead q) s = .next u ∧ s.replied u q rAbsent 0 ∧ u = { s with out := u.out }) ∧
  (∀ (t : Nat) (v : Nat × Word) (m : CMsg) (s : State), s.stopRuns t → isKind m 0x9 = true → regPage m = 0x100 + s.phys t →
    s.pageVal (.stop t) (regOfs m) = some v → s.pageOk (.stop t) false (regWin m) (regOfs m) = true →
    ∃ u, exec (.regRdReceived (.stop t) m) s = .next u ∧ s.regAnswered u t m v.1 v.2) ∧
  (∀ (t : Nat) (v : Nat × Word) (m : CMsg) (s : State), s.stopRuns t → isKind m 0x9 = true → regPage m = 0x100 + s.phys t →
    s.pageVal (.stop t) (regOfs m) = some v → s.pageOk (.stop t) false (regWin m) (regOfs m) = false →
    ∃ u, exec (.regRdReceived (.stop t) m) s = .next u ∧ s.regAnswered u t m rDenied 0 ∧ s.stopOnly u t) ∧
  (∀ (n : Nat) (v : Word) (m : CMsg) (s : State), s.linkFabRuns n → isKind m 0x9 = true → regPage m = 0x400 + n →
    s.linkVal n (regOfs m) = some v → regWin m = 0 → s.ctrl.entry = none →
    ∃ u, exec (.regRdReceived (.link n) m) s = .next u ∧ s.regAnswered u (linkTile s.build n) m rOk v) ∧
  (∀ (t : Nat) (m : CMsg) (s : State), s.stopRuns t → isKind m 0xA = true → regPage m = 0x100 + s.phys t →
    (regOfs m = 0x300 → exec (.regWrReceived (.stop t) m) s = exec (.stopPrioWrite t m) s) ∧
    (regOfs m = 0x900 → (regData m).getLsbD 31 = true → exec (.regWrReceived (.stop t) m) s = exec (.fenceRouterWrite t m) s)) ∧
  (∀ (t : Nat) (m : CMsg) (s : State), s.stopRuns t → s.regWrite t 0x604 m → regPage m = 0x100 + s.phys t →
    ∃ u, exec (.regWrReceived (.stop t) m) s = .next u ∧ s.regAnswered u t m rOk 0 ∧ (u.stop t).q.sel = (regData m).toNat % 32 ∧
      (u.stop t).q.qs = (s.stop t).q.qs ∧ s.stopOnly u t) ∧
  (∀ (n : Nat) (m : CMsg) (s : State), s.linkFabRuns n → linkWrites n 0x014 m → 0 < (regData m).extractLsb' 16 16 →
    0 < (regData m).extractLsb' 8 8 →
    ∃ u, exec (.regWrReceived (.link n) m) s = .next u ∧ s.regAnswered u (linkTile s.build n) m rOk 0 ∧
      u.link n = { s.link n with corrLim := (regData m).extractLsb' 16 16, uncLim := (regData m).extractLsb' 8 8 } ∧ s.linksBut u n) ∧
  (∀ (m : CMsg) (r : RegWait) (s : State), s.stopRuns ctlTile → s.ctrl.line = [.wait r] → isKind m 0xB = true → r.isOf m = true →
    ∃ u, exec (.regAnsReceived m) s = .next u ∧ u.ctrl.line = [] ∧
      u.out = s.out ++ [.reply (u.replyWord r.win r.tag (regAnsCode m) (if r.wr then 0 else regData m))] ∧ u.stops = s.stops) ∧
  (∀ (m : CMsg) (s : State), s.stopRuns ctlTile → s.ctrl.line = [] → exec (.regAnsReceived m) s = .next s) ∧
  (∀ (m : CMsg) (r : RegWait) (q : Req) (e : Entry) (v : Word) (s : State), s.stopRuns ctlTile →
    s.ctrl.line = [.wait r, .todo false q e] → isKind m 0xB = true →
    r.isOf m = true → s.shut .control = false → qOfs q = 0x40010 → s.refMode = false → s.fltVal q.win.toNat 0x010 = some v →
    ∃ u, exec (.regAnsReceived m) s = .next u ∧ u.ctrl.line = [] ∧
      u.out = s.out ++ [.reply (s.replyWord r.win r.tag (regAnsCode m) (if r.wr then 0 else regData m)),
        .reply (s.replyWord q.win.toNat q.tag rOk v)]) ∧
  (∀ (r : RegWait) (s : State), s.ready = true → s.ctrl.line = [.wait r] → r.deadline ≤ s.fc →
    ∃ u, exec .regAnswerTimeout s = .next u ∧ u = { s with ctrl := { s.ctrl with line := [] }, out := u.out } ∧
      u.out = s.out ++ [.reply (u.replyWord r.win r.tag rError 0)]) ∧
  (∀ (r : RegWait) (s : State), s.ready = true → s.ctrl.line = [.wait r] → s.fc < r.deadline →
    exec .regAnswerTimeout s = .next s) ∧
  (∀ (v : Word) (q : Req) (s : State), s.serves 0x0000C q → s.hrv.state < 2 → s.refMode = false → s.blkVal q.win.toNat 0x00C = some v →
    ∃ u, exec (.blkAttnRead q) s = .next u ∧ u.out = s.out ++ [.reply (s.replyWord q.win.toNat q.tag rOk v)] ∧
      u.ctrl.imgEvt = clearBit8 s.ctrl.imgEvt q.win.toNat ∧ u.ctrl.qcEvt = clearBit8 s.ctrl.qcEvt q.win.toNat ∧
      u.stops = s.stops ∧ u.pans = s.pans)
/-! ## The block -/

/-- A step runs the command at the front of the queue with the queue's rest; with no command waiting one fabric cycle passes (the model's
choice, log entry 1). -/
def Obligations.StepRunsTheFrontCommand : Prop :=
  (∀ (c : Instr) (rest : List Instr) (s : State), step { s with pending := c :: rest } = exec c { s with pending := rest }) ∧
  (∀ (s : State), s.pending = [] → step s = .next (idleCycle s))

/-- The block right after reset meets the invariant, and holds what the spec gives for reset: an empty queue, a tide of count 0 in state FREE
(R41, R60), no image, no fault logged and no fence (R568), links DISABLED (R354), AUTO_SCOPE 1 and LEAD 1000 (R518), check units of width 32
(R542), and a control port that takes requests (R575). -/
def Obligations.ResetIsAsTheSpecSays : Prop :=
  State.reset.Inv ∧ State.reset.pending = [] ∧ State.reset.tide.count = 0 ∧ State.reset.tide.phase = 0 ∧ State.reset.tide.state = 0 ∧
  State.reset.tide.trim = 0 ∧ State.reset.img.act = Active.absent ∧ State.reset.img.targets = [] ∧ State.reset.flt.log = [] ∧
  State.reset.hrv.state = 0 ∧ State.reset.hrv.autoScope = true ∧ State.reset.hrv.lead = 1000 ∧ State.reset.pwr.valid = false ∧
  State.reset.ready = true ∧ State.reset.running = true ∧
  (∀ t, (State.reset.stop t).ro.routerFenced = false ∧ (State.reset.stop t).ro.clientFenced = false) ∧
  (∀ n, (State.reset.link n).state = 0) ∧ (∀ k, (State.reset.check k).w = 32 ∧ (State.reset.check k).owner = none)

/-- Every step keeps the invariant, and with well-formed commands no step stops (R38, R50, R63): from any state whose waiting commands are well
formed and whose tide is in range, a step answers a next state, and that state is such a state again, of the same build and with the queue's
rest waiting. -/
def Obligations.EveryStepKeepsTheInvariant : Prop :=
  ∀ s : State, s.Inv → ∃ u, step s = .next u ∧ u.Inv ∧ u.build = s.build ∧ u.pending = s.pending.tail

/-- What travels survives its bits (R67, R71, R209, R271, R274, R363): a packet cut into flits on either build, a C-plane message cut into flits,
a frame header and a control record are read back as they were written, with every field at every value. -/
def Obligations.HeadersSurviveTheirBits : Prop :=
  (∀ (b : Build) (p : Pkt), p.data.length = p.hdr.plen.toNat → pktOfBytes ((pktFlits b p).flatMap (·.data)) = p) ∧
  (∀ (m : CMsg), m.data.length = m.hdr.plen.toNat → cmsgOfBytes ((cmsgFlits m).flatMap (·.data)) = m) ∧
  (∀ (h : FHdr), fhdrOfBytes (fhdrBytes h) = h) ∧
  (∀ (c : Ctl), ctlOfBytes (ctlBytes c) = c)
end Slice0
end

