-- ==== Sys2Proof/Laws/Tab.lean ====
section
/-! SUPPORT. Sparse tables: reading after writing and after removing; bytes and the numbers they spell. -/

namespace Sys2Proof

@[simp] theorem Tab.get?_set_self {α : Type} (t : Tab α) (k : Nat) (v : α) : Tab.get? (Tab.set t k v) k = some v := by
  induction t with
  | nil => simp [Tab.set, Tab.get?]
  | cons e t ih =>
    obtain ⟨j, w⟩ := e
    by_cases h : j = k <;> simp [Tab.set, Tab.get?, h, ih]

theorem Tab.get?_set_ne {α : Type} (t : Tab α) (k j : Nat) (v : α) (h : j ≠ k) :
    Tab.get? (Tab.set t k v) j = Tab.get? t j := by
  induction t with
  | nil => simp [Tab.set, Tab.get?, Ne.symm h]
  | cons e t ih =>
    obtain ⟨i, w⟩ := e
    by_cases g : i = k
    · subst g; simp [Tab.set, Tab.get?, Ne.symm h]
    · simp only [Tab.set, if_neg g, Tab.get?, ih]

@[simp] theorem Tab.get?_del_self {α : Type} (t : Tab α) (k : Nat) : Tab.get? (Tab.del t k) k = none := by
  induction t with
  | nil => rfl
  | cons e t ih =>
    obtain ⟨i, w⟩ := e
    by_cases g : i = k
    · simpa [Tab.del, g] using ih
    · simpa [Tab.del, g, Tab.get?] using ih

theorem Tab.get?_del_ne {α : Type} (t : Tab α) (k j : Nat) (h : j ≠ k) : Tab.get? (Tab.del t k) j = Tab.get? t j := by
  induction t with
  | nil => rfl
  | cons e t ih =>
    obtain ⟨i, w⟩ := e
    by_cases g : i = k
    · subst g; simpa [Tab.del, Tab.get?, Ne.symm h] using ih
    · by_cases g' : i = j
      · subst g'; simp [Tab.del, g, Tab.get?]
      · simpa [Tab.del, g, Tab.get?, g'] using ih

theorem Tab.get_eq_getD {α : Type} (d : α) (t : Tab α) (k : Nat) : Tab.get d t k = (Tab.get? t k).getD d := by
  induction t with
  | nil => rfl
  | cons e t ih =>
    obtain ⟨i, w⟩ := e
    by_cases g : i = k <;> simp [Tab.get, Tab.get?, g, ih]

namespace Machine

@[simp] theorem length_bytesOf (n v : Nat) : (bytesOf n v).length = n := by
  induction n generalizing v with
  | zero => rfl
  | succ n ih => simp [bytesOf, ih]

theorem natOf_bytesOf (n v : Nat) : natOf (bytesOf n v) = v % 256 ^ n := by
  induction n generalizing v with
  | zero => simp [bytesOf, natOf, Nat.mod_one]
  | succ n ih =>
    simp only [bytesOf, natOf, ih, BitVec.toNat_ofNat]
    rw [show 256 ^ (n + 1) = 256 * 256 ^ n from by rw [Nat.pow_succ, Nat.mul_comm], Nat.mod_mul]

/-- The number at the front of bytes that begin with its `n` bytes. -/
theorem leAt_bytesOf (n v : Nat) (bs : List Byte) : leAt (bytesOf n v ++ bs) 0 n = v % 256 ^ n := by
  unfold leAt
  rw [List.drop_zero, List.take_append_of_le_length (by simp), List.take_of_length_le (by simp), natOf_bytesOf]

end Machine

end Sys2Proof
end

