-- ==== Sys2Proof/Laws/State.lean ====
section
/-! SUPPORT. What each named update leaves of each field of the state, and what it makes of its own. -/

namespace Sys2Proof.Machine

/-! ### setRow -/

@[simp] theorem State.setRow_pending (s : State) (y : Nat) (r : Row) : (s.setRow y r).pending = s.pending := rfl
@[simp] theorem State.setRow_build (s : State) (y : Nat) (r : Row) : (s.setRow y r).build = s.build := rfl
@[simp] theorem State.setRow_silicon (s : State) (y : Nat) (r : Row) : (s.setRow y r).silicon = s.silicon := rfl
@[simp] theorem State.setRow_fc (s : State) (y : Nat) (r : Row) : (s.setRow y r).fc = s.fc := rfl
@[simp] theorem State.setRow_ft (s : State) (y : Nat) (r : Row) : (s.setRow y r).ft = s.ft := rfl
@[simp] theorem State.setRow_tide (s : State) (y : Nat) (r : Row) : (s.setRow y r).tide = s.tide := rfl
@[simp] theorem State.setRow_refMode (s : State) (y : Nat) (r : Row) : (s.setRow y r).refMode = s.refMode := rfl
@[simp] theorem State.setRow_qtrainOk (s : State) (y : Nat) (r : Row) : (s.setRow y r).qtrainOk = s.qtrainOk := rfl
@[simp] theorem State.setRow_phaseLost (s : State) (y : Nat) (r : Row) : (s.setRow y r).phaseLost = s.phaseLost := rfl
@[simp] theorem State.setRow_stops (s : State) (y : Nat) (r : Row) : (s.setRow y r).stops = s.stops := rfl
@[simp] theorem State.setRow_slotBank (s : State) (y : Nat) (r : Row) : (s.setRow y r).slotBank = s.slotBank := rfl
@[simp] theorem State.setRow_slotPend (s : State) (y : Nat) (r : Row) : (s.setRow y r).slotPend = s.slotPend := rfl
@[simp] theorem State.setRow_xings (s : State) (y : Nat) (r : Row) : (s.setRow y r).xings = s.xings := rfl
@[simp] theorem State.setRow_img (s : State) (y : Nat) (r : Row) : (s.setRow y r).img = s.img := rfl
@[simp] theorem State.setRow_pans (s : State) (y : Nat) (r : Row) : (s.setRow y r).pans = s.pans := rfl
@[simp] theorem State.setRow_flt (s : State) (y : Nat) (r : Row) : (s.setRow y r).flt = s.flt := rfl
@[simp] theorem State.setRow_hrv (s : State) (y : Nat) (r : Row) : (s.setRow y r).hrv = s.hrv := rfl
@[simp] theorem State.setRow_rake (s : State) (y : Nat) (r : Row) : (s.setRow y r).rake = s.rake := rfl
@[simp] theorem State.setRow_chk (s : State) (y : Nat) (r : Row) : (s.setRow y r).chk = s.chk := rfl
@[simp] theorem State.setRow_chkPtr (s : State) (y : Nat) (r : Row) : (s.setRow y r).chkPtr = s.chkPtr := rfl
@[simp] theorem State.setRow_pwr (s : State) (y : Nat) (r : Row) : (s.setRow y r).pwr = s.pwr := rfl
@[simp] theorem State.setRow_start (s : State) (y : Nat) (r : Row) : (s.setRow y r).start = s.start := rfl
@[simp] theorem State.setRow_ctrl (s : State) (y : Nat) (r : Row) : (s.setRow y r).ctrl = s.ctrl := rfl
@[simp] theorem State.setRow_e2eSeq (s : State) (y : Nat) (r : Row) : (s.setRow y r).e2eSeq = s.e2eSeq := rfl
@[simp] theorem State.setRow_entered (s : State) (y : Nat) (r : Row) : (s.setRow y r).entered = s.entered := rfl
@[simp] theorem State.setRow_links (s : State) (y : Nat) (r : Row) : (s.setRow y r).links = s.links := rfl
@[simp] theorem State.setRow_slices (s : State) (y : Nat) (r : Row) : (s.setRow y r).slices = s.slices := rfl
@[simp] theorem State.setRow_out (s : State) (y : Nat) (r : Row) : (s.setRow y r).out = s.out := rfl

/-! ### setStop -/

@[simp] theorem State.setStop_pending (s : State) (t : Nat) (x : Stop) : (s.setStop t x).pending = s.pending := rfl
@[simp] theorem State.setStop_build (s : State) (t : Nat) (x : Stop) : (s.setStop t x).build = s.build := rfl
@[simp] theorem State.setStop_silicon (s : State) (t : Nat) (x : Stop) : (s.setStop t x).silicon = s.silicon := rfl
@[simp] theorem State.setStop_fc (s : State) (t : Nat) (x : Stop) : (s.setStop t x).fc = s.fc := rfl
@[simp] theorem State.setStop_ft (s : State) (t : Nat) (x : Stop) : (s.setStop t x).ft = s.ft := rfl
@[simp] theorem State.setStop_tide (s : State) (t : Nat) (x : Stop) : (s.setStop t x).tide = s.tide := rfl
@[simp] theorem State.setStop_refMode (s : State) (t : Nat) (x : Stop) : (s.setStop t x).refMode = s.refMode := rfl
@[simp] theorem State.setStop_rows (s : State) (t : Nat) (x : Stop) : (s.setStop t x).rows = s.rows := rfl
@[simp] theorem State.setStop_qtrainOk (s : State) (t : Nat) (x : Stop) : (s.setStop t x).qtrainOk = s.qtrainOk := rfl
@[simp] theorem State.setStop_phaseLost (s : State) (t : Nat) (x : Stop) : (s.setStop t x).phaseLost = s.phaseLost := rfl
@[simp] theorem State.setStop_slotBank (s : State) (t : Nat) (x : Stop) : (s.setStop t x).slotBank = s.slotBank := rfl
@[simp] theorem State.setStop_slotPend (s : State) (t : Nat) (x : Stop) : (s.setStop t x).slotPend = s.slotPend := rfl
@[simp] theorem State.setStop_xings (s : State) (t : Nat) (x : Stop) : (s.setStop t x).xings = s.xings := rfl
@[simp] theorem State.setStop_img (s : State) (t : Nat) (x : Stop) : (s.setStop t x).img = s.img := rfl
@[simp] theorem State.setStop_pans (s : State) (t : Nat) (x : Stop) : (s.setStop t x).pans = s.pans := rfl
@[simp] theorem State.setStop_flt (s : State) (t : Nat) (x : Stop) : (s.setStop t x).flt = s.flt := rfl
@[simp] theorem State.setStop_hrv (s : State) (t : Nat) (x : Stop) : (s.setStop t x).hrv = s.hrv := rfl
@[simp] theorem State.setStop_rake (s : State) (t : Nat) (x : Stop) : (s.setStop t x).rake = s.rake := rfl
@[simp] theorem State.setStop_chk (s : State) (t : Nat) (x : Stop) : (s.setStop t x).chk = s.chk := rfl
@[simp] theorem State.setStop_chkPtr (s : State) (t : Nat) (x : Stop) : (s.setStop t x).chkPtr = s.chkPtr := rfl
@[simp] theorem State.setStop_pwr (s : State) (t : Nat) (x : Stop) : (s.setStop t x).pwr = s.pwr := rfl
@[simp] theorem State.setStop_start (s : State) (t : Nat) (x : Stop) : (s.setStop t x).start = s.start := rfl
@[simp] theorem State.setStop_ctrl (s : State) (t : Nat) (x : Stop) : (s.setStop t x).ctrl = s.ctrl := rfl
@[simp] theorem State.setStop_e2eSeq (s : State) (t : Nat) (x : Stop) : (s.setStop t x).e2eSeq = s.e2eSeq := rfl
@[simp] theorem State.setStop_entered (s : State) (t : Nat) (x : Stop) : (s.setStop t x).entered = s.entered := rfl
@[simp] theorem State.setStop_links (s : State) (t : Nat) (x : Stop) : (s.setStop t x).links = s.links := rfl
@[simp] theorem State.setStop_slices (s : State) (t : Nat) (x : Stop) : (s.setStop t x).slices = s.slices := rfl
@[simp] theorem State.setStop_out (s : State) (t : Nat) (x : Stop) : (s.setStop t x).out = s.out := rfl

/-! ### modStop -/

@[simp] theorem State.modStop_pending (s : State) (t : Nat) (f : Stop → Stop) : (s.modStop t f).pending = s.pending := rfl
@[simp] theorem State.modStop_build (s : State) (t : Nat) (f : Stop → Stop) : (s.modStop t f).build = s.build := rfl
@[simp] theorem State.modStop_silicon (s : State) (t : Nat) (f : Stop → Stop) : (s.modStop t f).silicon = s.silicon := rfl
@[simp] theorem State.modStop_fc (s : State) (t : Nat) (f : Stop → Stop) : (s.modStop t f).fc = s.fc := rfl
@[simp] theorem State.modStop_ft (s : State) (t : Nat) (f : Stop → Stop) : (s.modStop t f).ft = s.ft := rfl
@[simp] theorem State.modStop_tide (s : State) (t : Nat) (f : Stop → Stop) : (s.modStop t f).tide = s.tide := rfl
@[simp] theorem State.modStop_refMode (s : State) (t : Nat) (f : Stop → Stop) : (s.modStop t f).refMode = s.refMode := rfl
@[simp] theorem State.modStop_rows (s : State) (t : Nat) (f : Stop → Stop) : (s.modStop t f).rows = s.rows := rfl
@[simp] theorem State.modStop_qtrainOk (s : State) (t : Nat) (f : Stop → Stop) : (s.modStop t f).qtrainOk = s.qtrainOk := rfl
@[simp] theorem State.modStop_phaseLost (s : State) (t : Nat) (f : Stop → Stop) : (s.modStop t f).phaseLost = s.phaseLost := rfl
@[simp] theorem State.modStop_slotBank (s : State) (t : Nat) (f : Stop → Stop) : (s.modStop t f).slotBank = s.slotBank := rfl
@[simp] theorem State.modStop_slotPend (s : State) (t : Nat) (f : Stop → Stop) : (s.modStop t f).slotPend = s.slotPend := rfl
@[simp] theorem State.modStop_xings (s : State) (t : Nat) (f : Stop → Stop) : (s.modStop t f).xings = s.xings := rfl
@[simp] theorem State.modStop_img (s : State) (t : Nat) (f : Stop → Stop) : (s.modStop t f).img = s.img := rfl
@[simp] theorem State.modStop_pans (s : State) (t : Nat) (f : Stop → Stop) : (s.modStop t f).pans = s.pans := rfl
@[simp] theorem State.modStop_flt (s : State) (t : Nat) (f : Stop → Stop) : (s.modStop t f).flt = s.flt := rfl
@[simp] theorem State.modStop_hrv (s : State) (t : Nat) (f : Stop → Stop) : (s.modStop t f).hrv = s.hrv := rfl
@[simp] theorem State.modStop_rake (s : State) (t : Nat) (f : Stop → Stop) : (s.modStop t f).rake = s.rake := rfl
@[simp] theorem State.modStop_chk (s : State) (t : Nat) (f : Stop → Stop) : (s.modStop t f).chk = s.chk := rfl
@[simp] theorem State.modStop_chkPtr (s : State) (t : Nat) (f : Stop → Stop) : (s.modStop t f).chkPtr = s.chkPtr := rfl
@[simp] theorem State.modStop_pwr (s : State) (t : Nat) (f : Stop → Stop) : (s.modStop t f).pwr = s.pwr := rfl
@[simp] theorem State.modStop_start (s : State) (t : Nat) (f : Stop → Stop) : (s.modStop t f).start = s.start := rfl
@[simp] theorem State.modStop_ctrl (s : State) (t : Nat) (f : Stop → Stop) : (s.modStop t f).ctrl = s.ctrl := rfl
@[simp] theorem State.modStop_e2eSeq (s : State) (t : Nat) (f : Stop → Stop) : (s.modStop t f).e2eSeq = s.e2eSeq := rfl
@[simp] theorem State.modStop_entered (s : State) (t : Nat) (f : Stop → Stop) : (s.modStop t f).entered = s.entered := rfl
@[simp] theorem State.modStop_links (s : State) (t : Nat) (f : Stop → Stop) : (s.modStop t f).links = s.links := rfl
@[simp] theorem State.modStop_slices (s : State) (t : Nat) (f : Stop → Stop) : (s.modStop t f).slices = s.slices := rfl
@[simp] theorem State.modStop_out (s : State) (t : Nat) (f : Stop → Stop) : (s.modStop t f).out = s.out := rfl

/-! ### modLink -/

@[simp] theorem State.modLink_pending (s : State) (n : Nat) (f : Link → Link) : (s.modLink n f).pending = s.pending := rfl
@[simp] theorem State.modLink_build (s : State) (n : Nat) (f : Link → Link) : (s.modLink n f).build = s.build := rfl
@[simp] theorem State.modLink_silicon (s : State) (n : Nat) (f : Link → Link) : (s.modLink n f).silicon = s.silicon := rfl
@[simp] theorem State.modLink_fc (s : State) (n : Nat) (f : Link → Link) : (s.modLink n f).fc = s.fc := rfl
@[simp] theorem State.modLink_ft (s : State) (n : Nat) (f : Link → Link) : (s.modLink n f).ft = s.ft := rfl
@[simp] theorem State.modLink_tide (s : State) (n : Nat) (f : Link → Link) : (s.modLink n f).tide = s.tide := rfl
@[simp] theorem State.modLink_refMode (s : State) (n : Nat) (f : Link → Link) : (s.modLink n f).refMode = s.refMode := rfl
@[simp] theorem State.modLink_rows (s : State) (n : Nat) (f : Link → Link) : (s.modLink n f).rows = s.rows := rfl
@[simp] theorem State.modLink_qtrainOk (s : State) (n : Nat) (f : Link → Link) : (s.modLink n f).qtrainOk = s.qtrainOk := rfl
@[simp] theorem State.modLink_phaseLost (s : State) (n : Nat) (f : Link → Link) : (s.modLink n f).phaseLost = s.phaseLost := rfl
@[simp] theorem State.modLink_stops (s : State) (n : Nat) (f : Link → Link) : (s.modLink n f).stops = s.stops := rfl
@[simp] theorem State.modLink_slotBank (s : State) (n : Nat) (f : Link → Link) : (s.modLink n f).slotBank = s.slotBank := rfl
@[simp] theorem State.modLink_slotPend (s : State) (n : Nat) (f : Link → Link) : (s.modLink n f).slotPend = s.slotPend := rfl
@[simp] theorem State.modLink_xings (s : State) (n : Nat) (f : Link → Link) : (s.modLink n f).xings = s.xings := rfl
@[simp] theorem State.modLink_img (s : State) (n : Nat) (f : Link → Link) : (s.modLink n f).img = s.img := rfl
@[simp] theorem State.modLink_pans (s : State) (n : Nat) (f : Link → Link) : (s.modLink n f).pans = s.pans := rfl
@[simp] theorem State.modLink_flt (s : State) (n : Nat) (f : Link → Link) : (s.modLink n f).flt = s.flt := rfl
@[simp] theorem State.modLink_hrv (s : State) (n : Nat) (f : Link → Link) : (s.modLink n f).hrv = s.hrv := rfl
@[simp] theorem State.modLink_rake (s : State) (n : Nat) (f : Link → Link) : (s.modLink n f).rake = s.rake := rfl
@[simp] theorem State.modLink_chk (s : State) (n : Nat) (f : Link → Link) : (s.modLink n f).chk = s.chk := rfl
@[simp] theorem State.modLink_chkPtr (s : State) (n : Nat) (f : Link → Link) : (s.modLink n f).chkPtr = s.chkPtr := rfl
@[simp] theorem State.modLink_pwr (s : State) (n : Nat) (f : Link → Link) : (s.modLink n f).pwr = s.pwr := rfl
@[simp] theorem State.modLink_start (s : State) (n : Nat) (f : Link → Link) : (s.modLink n f).start = s.start := rfl
@[simp] theorem State.modLink_ctrl (s : State) (n : Nat) (f : Link → Link) : (s.modLink n f).ctrl = s.ctrl := rfl
@[simp] theorem State.modLink_e2eSeq (s : State) (n : Nat) (f : Link → Link) : (s.modLink n f).e2eSeq = s.e2eSeq := rfl
@[simp] theorem State.modLink_entered (s : State) (n : Nat) (f : Link → Link) : (s.modLink n f).entered = s.entered := rfl
@[simp] theorem State.modLink_slices (s : State) (n : Nat) (f : Link → Link) : (s.modLink n f).slices = s.slices := rfl
@[simp] theorem State.modLink_out (s : State) (n : Nat) (f : Link → Link) : (s.modLink n f).out = s.out := rfl

/-! ### emit -/

@[simp] theorem State.emit_pending (s : State) (e : OutEv) : (s.emit e).pending = s.pending := rfl
@[simp] theorem State.emit_build (s : State) (e : OutEv) : (s.emit e).build = s.build := rfl
@[simp] theorem State.emit_silicon (s : State) (e : OutEv) : (s.emit e).silicon = s.silicon := rfl
@[simp] theorem State.emit_fc (s : State) (e : OutEv) : (s.emit e).fc = s.fc := rfl
@[simp] theorem State.emit_ft (s : State) (e : OutEv) : (s.emit e).ft = s.ft := rfl
@[simp] theorem State.emit_tide (s : State) (e : OutEv) : (s.emit e).tide = s.tide := rfl
@[simp] theorem State.emit_refMode (s : State) (e : OutEv) : (s.emit e).refMode = s.refMode := rfl
@[simp] theorem State.emit_rows (s : State) (e : OutEv) : (s.emit e).rows = s.rows := rfl
@[simp] theorem State.emit_qtrainOk (s : State) (e : OutEv) : (s.emit e).qtrainOk = s.qtrainOk := rfl
@[simp] theorem State.emit_phaseLost (s : State) (e : OutEv) : (s.emit e).phaseLost = s.phaseLost := rfl
@[simp] theorem State.emit_stops (s : State) (e : OutEv) : (s.emit e).stops = s.stops := rfl
@[simp] theorem State.emit_slotBank (s : State) (e : OutEv) : (s.emit e).slotBank = s.slotBank := rfl
@[simp] theorem State.emit_slotPend (s : State) (e : OutEv) : (s.emit e).slotPend = s.slotPend := rfl
@[simp] theorem State.emit_xings (s : State) (e : OutEv) : (s.emit e).xings = s.xings := rfl
@[simp] theorem State.emit_img (s : State) (e : OutEv) : (s.emit e).img = s.img := rfl
@[simp] theorem State.emit_pans (s : State) (e : OutEv) : (s.emit e).pans = s.pans := rfl
@[simp] theorem State.emit_flt (s : State) (e : OutEv) : (s.emit e).flt = s.flt := rfl
@[simp] theorem State.emit_hrv (s : State) (e : OutEv) : (s.emit e).hrv = s.hrv := rfl
@[simp] theorem State.emit_rake (s : State) (e : OutEv) : (s.emit e).rake = s.rake := rfl
@[simp] theorem State.emit_chk (s : State) (e : OutEv) : (s.emit e).chk = s.chk := rfl
@[simp] theorem State.emit_chkPtr (s : State) (e : OutEv) : (s.emit e).chkPtr = s.chkPtr := rfl
@[simp] theorem State.emit_pwr (s : State) (e : OutEv) : (s.emit e).pwr = s.pwr := rfl
@[simp] theorem State.emit_start (s : State) (e : OutEv) : (s.emit e).start = s.start := rfl
@[simp] theorem State.emit_ctrl (s : State) (e : OutEv) : (s.emit e).ctrl = s.ctrl := rfl
@[simp] theorem State.emit_e2eSeq (s : State) (e : OutEv) : (s.emit e).e2eSeq = s.e2eSeq := rfl
@[simp] theorem State.emit_entered (s : State) (e : OutEv) : (s.emit e).entered = s.entered := rfl
@[simp] theorem State.emit_links (s : State) (e : OutEv) : (s.emit e).links = s.links := rfl
@[simp] theorem State.emit_slices (s : State) (e : OutEv) : (s.emit e).slices = s.slices := rfl

/-! ### emits -/

@[simp] theorem State.emits_pending (s : State) (es : List OutEv) : (s.emits es).pending = s.pending := rfl
@[simp] theorem State.emits_build (s : State) (es : List OutEv) : (s.emits es).build = s.build := rfl
@[simp] theorem State.emits_silicon (s : State) (es : List OutEv) : (s.emits es).silicon = s.silicon := rfl
@[simp] theorem State.emits_fc (s : State) (es : List OutEv) : (s.emits es).fc = s.fc := rfl
@[simp] theorem State.emits_ft (s : State) (es : List OutEv) : (s.emits es).ft = s.ft := rfl
@[simp] theorem State.emits_tide (s : State) (es : List OutEv) : (s.emits es).tide = s.tide := rfl
@[simp] theorem State.emits_refMode (s : State) (es : List OutEv) : (s.emits es).refMode = s.refMode := rfl
@[simp] theorem State.emits_rows (s : State) (es : List OutEv) : (s.emits es).rows = s.rows := rfl
@[simp] theorem State.emits_qtrainOk (s : State) (es : List OutEv) : (s.emits es).qtrainOk = s.qtrainOk := rfl
@[simp] theorem State.emits_phaseLost (s : State) (es : List OutEv) : (s.emits es).phaseLost = s.phaseLost := rfl
@[simp] theorem State.emits_stops (s : State) (es : List OutEv) : (s.emits es).stops = s.stops := rfl
@[simp] theorem State.emits_slotBank (s : State) (es : List OutEv) : (s.emits es).slotBank = s.slotBank := rfl
@[simp] theorem State.emits_slotPend (s : State) (es : List OutEv) : (s.emits es).slotPend = s.slotPend := rfl
@[simp] theorem State.emits_xings (s : State) (es : List OutEv) : (s.emits es).xings = s.xings := rfl
@[simp] theorem State.emits_img (s : State) (es : List OutEv) : (s.emits es).img = s.img := rfl
@[simp] theorem State.emits_pans (s : State) (es : List OutEv) : (s.emits es).pans = s.pans := rfl
@[simp] theorem State.emits_flt (s : State) (es : List OutEv) : (s.emits es).flt = s.flt := rfl
@[simp] theorem State.emits_hrv (s : State) (es : List OutEv) : (s.emits es).hrv = s.hrv := rfl
@[simp] theorem State.emits_rake (s : State) (es : List OutEv) : (s.emits es).rake = s.rake := rfl
@[simp] theorem State.emits_chk (s : State) (es : List OutEv) : (s.emits es).chk = s.chk := rfl
@[simp] theorem State.emits_chkPtr (s : State) (es : List OutEv) : (s.emits es).chkPtr = s.chkPtr := rfl
@[simp] theorem State.emits_pwr (s : State) (es : List OutEv) : (s.emits es).pwr = s.pwr := rfl
@[simp] theorem State.emits_start (s : State) (es : List OutEv) : (s.emits es).start = s.start := rfl
@[simp] theorem State.emits_ctrl (s : State) (es : List OutEv) : (s.emits es).ctrl = s.ctrl := rfl
@[simp] theorem State.emits_e2eSeq (s : State) (es : List OutEv) : (s.emits es).e2eSeq = s.e2eSeq := rfl
@[simp] theorem State.emits_entered (s : State) (es : List OutEv) : (s.emits es).entered = s.entered := rfl
@[simp] theorem State.emits_links (s : State) (es : List OutEv) : (s.emits es).links = s.links := rfl
@[simp] theorem State.emits_slices (s : State) (es : List OutEv) : (s.emits es).slices = s.slices := rfl

/-! ### modTide -/

@[simp] theorem State.modTide_pending (s : State) (f : Tide → Tide) : (s.modTide f).pending = s.pending := rfl
@[simp] theorem State.modTide_build (s : State) (f : Tide → Tide) : (s.modTide f).build = s.build := rfl
@[simp] theorem State.modTide_silicon (s : State) (f : Tide → Tide) : (s.modTide f).silicon = s.silicon := rfl
@[simp] theorem State.modTide_fc (s : State) (f : Tide → Tide) : (s.modTide f).fc = s.fc := rfl
@[simp] theorem State.modTide_ft (s : State) (f : Tide → Tide) : (s.modTide f).ft = s.ft := rfl
@[simp] theorem State.modTide_refMode (s : State) (f : Tide → Tide) : (s.modTide f).refMode = s.refMode := rfl
@[simp] theorem State.modTide_rows (s : State) (f : Tide → Tide) : (s.modTide f).rows = s.rows := rfl
@[simp] theorem State.modTide_qtrainOk (s : State) (f : Tide → Tide) : (s.modTide f).qtrainOk = s.qtrainOk := rfl
@[simp] theorem State.modTide_phaseLost (s : State) (f : Tide → Tide) : (s.modTide f).phaseLost = s.phaseLost := rfl
@[simp] theorem State.modTide_stops (s : State) (f : Tide → Tide) : (s.modTide f).stops = s.stops := rfl
@[simp] theorem State.modTide_slotBank (s : State) (f : Tide → Tide) : (s.modTide f).slotBank = s.slotBank := rfl
@[simp] theorem State.modTide_slotPend (s : State) (f : Tide → Tide) : (s.modTide f).slotPend = s.slotPend := rfl
@[simp] theorem State.modTide_xings (s : State) (f : Tide → Tide) : (s.modTide f).xings = s.xings := rfl
@[simp] theorem State.modTide_img (s : State) (f : Tide → Tide) : (s.modTide f).img = s.img := rfl
@[simp] theorem State.modTide_pans (s : State) (f : Tide → Tide) : (s.modTide f).pans = s.pans := rfl
@[simp] theorem State.modTide_flt (s : State) (f : Tide → Tide) : (s.modTide f).flt = s.flt := rfl
@[simp] theorem State.modTide_hrv (s : State) (f : Tide → Tide) : (s.modTide f).hrv = s.hrv := rfl
@[simp] theorem State.modTide_rake (s : State) (f : Tide → Tide) : (s.modTide f).rake = s.rake := rfl
@[simp] theorem State.modTide_chk (s : State) (f : Tide → Tide) : (s.modTide f).chk = s.chk := rfl
@[simp] theorem State.modTide_chkPtr (s : State) (f : Tide → Tide) : (s.modTide f).chkPtr = s.chkPtr := rfl
@[simp] theorem State.modTide_pwr (s : State) (f : Tide → Tide) : (s.modTide f).pwr = s.pwr := rfl
@[simp] theorem State.modTide_start (s : State) (f : Tide → Tide) : (s.modTide f).start = s.start := rfl
@[simp] theorem State.modTide_ctrl (s : State) (f : Tide → Tide) : (s.modTide f).ctrl = s.ctrl := rfl
@[simp] theorem State.modTide_e2eSeq (s : State) (f : Tide → Tide) : (s.modTide f).e2eSeq = s.e2eSeq := rfl
@[simp] theorem State.modTide_entered (s : State) (f : Tide → Tide) : (s.modTide f).entered = s.entered := rfl
@[simp] theorem State.modTide_links (s : State) (f : Tide → Tide) : (s.modTide f).links = s.links := rfl
@[simp] theorem State.modTide_slices (s : State) (f : Tide → Tide) : (s.modTide f).slices = s.slices := rfl
@[simp] theorem State.modTide_out (s : State) (f : Tide → Tide) : (s.modTide f).out = s.out := rfl

/-! ### setCount -/

@[simp] theorem State.setCount_pending (s : State) (c : BitVec 64) (p : Nat) : (s.setCount c p).pending = s.pending := rfl
@[simp] theorem State.setCount_build (s : State) (c : BitVec 64) (p : Nat) : (s.setCount c p).build = s.build := rfl
@[simp] theorem State.setCount_silicon (s : State) (c : BitVec 64) (p : Nat) : (s.setCount c p).silicon = s.silicon := rfl
@[simp] theorem State.setCount_fc (s : State) (c : BitVec 64) (p : Nat) : (s.setCount c p).fc = s.fc := rfl
@[simp] theorem State.setCount_ft (s : State) (c : BitVec 64) (p : Nat) : (s.setCount c p).ft = s.ft := rfl
@[simp] theorem State.setCount_refMode (s : State) (c : BitVec 64) (p : Nat) : (s.setCount c p).refMode = s.refMode := rfl
@[simp] theorem State.setCount_rows (s : State) (c : BitVec 64) (p : Nat) : (s.setCount c p).rows = s.rows := rfl
@[simp] theorem State.setCount_qtrainOk (s : State) (c : BitVec 64) (p : Nat) : (s.setCount c p).qtrainOk = s.qtrainOk := rfl
@[simp] theorem State.setCount_phaseLost (s : State) (c : BitVec 64) (p : Nat) : (s.setCount c p).phaseLost = s.phaseLost := rfl
@[simp] theorem State.setCount_stops (s : State) (c : BitVec 64) (p : Nat) : (s.setCount c p).stops = s.stops := rfl
@[simp] theorem State.setCount_slotBank (s : State) (c : BitVec 64) (p : Nat) : (s.setCount c p).slotBank = s.slotBank := rfl
@[simp] theorem State.setCount_slotPend (s : State) (c : BitVec 64) (p : Nat) : (s.setCount c p).slotPend = s.slotPend := rfl
@[simp] theorem State.setCount_xings (s : State) (c : BitVec 64) (p : Nat) : (s.setCount c p).xings = s.xings := rfl
@[simp] theorem State.setCount_img (s : State) (c : BitVec 64) (p : Nat) : (s.setCount c p).img = s.img := rfl
@[simp] theorem State.setCount_pans (s : State) (c : BitVec 64) (p : Nat) : (s.setCount c p).pans = s.pans := rfl
@[simp] theorem State.setCount_flt (s : State) (c : BitVec 64) (p : Nat) : (s.setCount c p).flt = s.flt := rfl
@[simp] theorem State.setCount_hrv (s : State) (c : BitVec 64) (p : Nat) : (s.setCount c p).hrv = s.hrv := rfl
@[simp] theorem State.setCount_rake (s : State) (c : BitVec 64) (p : Nat) : (s.setCount c p).rake = s.rake := rfl
@[simp] theorem State.setCount_chk (s : State) (c : BitVec 64) (p : Nat) : (s.setCount c p).chk = s.chk := rfl
@[simp] theorem State.setCount_chkPtr (s : State) (c : BitVec 64) (p : Nat) : (s.setCount c p).chkPtr = s.chkPtr := rfl
@[simp] theorem State.setCount_pwr (s : State) (c : BitVec 64) (p : Nat) : (s.setCount c p).pwr = s.pwr := rfl
@[simp] theorem State.setCount_start (s : State) (c : BitVec 64) (p : Nat) : (s.setCount c p).start = s.start := rfl
@[simp] theorem State.setCount_ctrl (s : State) (c : BitVec 64) (p : Nat) : (s.setCount c p).ctrl = s.ctrl := rfl
@[simp] theorem State.setCount_e2eSeq (s : State) (c : BitVec 64) (p : Nat) : (s.setCount c p).e2eSeq = s.e2eSeq := rfl
@[simp] theorem State.setCount_entered (s : State) (c : BitVec 64) (p : Nat) : (s.setCount c p).entered = s.entered := rfl
@[simp] theorem State.setCount_links (s : State) (c : BitVec 64) (p : Nat) : (s.setCount c p).links = s.links := rfl
@[simp] theorem State.setCount_slices (s : State) (c : BitVec 64) (p : Nat) : (s.setCount c p).slices = s.slices := rfl
@[simp] theorem State.setCount_out (s : State) (c : BitVec 64) (p : Nat) : (s.setCount c p).out = s.out := rfl

/-! ### modRake -/

@[simp] theorem State.modRake_pending (s : State) (f : Rake → Rake) : (s.modRake f).pending = s.pending := rfl
@[simp] theorem State.modRake_build (s : State) (f : Rake → Rake) : (s.modRake f).build = s.build := rfl
@[simp] theorem State.modRake_silicon (s : State) (f : Rake → Rake) : (s.modRake f).silicon = s.silicon := rfl
@[simp] theorem State.modRake_fc (s : State) (f : Rake → Rake) : (s.modRake f).fc = s.fc := rfl
@[simp] theorem State.modRake_ft (s : State) (f : Rake → Rake) : (s.modRake f).ft = s.ft := rfl
@[simp] theorem State.modRake_tide (s : State) (f : Rake → Rake) : (s.modRake f).tide = s.tide := rfl
@[simp] theorem State.modRake_refMode (s : State) (f : Rake → Rake) : (s.modRake f).refMode = s.refMode := rfl
@[simp] theorem State.modRake_rows (s : State) (f : Rake → Rake) : (s.modRake f).rows = s.rows := rfl
@[simp] theorem State.modRake_qtrainOk (s : State) (f : Rake → Rake) : (s.modRake f).qtrainOk = s.qtrainOk := rfl
@[simp] theorem State.modRake_phaseLost (s : State) (f : Rake → Rake) : (s.modRake f).phaseLost = s.phaseLost := rfl
@[simp] theorem State.modRake_stops (s : State) (f : Rake → Rake) : (s.modRake f).stops = s.stops := rfl
@[simp] theorem State.modRake_slotBank (s : State) (f : Rake → Rake) : (s.modRake f).slotBank = s.slotBank := rfl
@[simp] theorem State.modRake_slotPend (s : State) (f : Rake → Rake) : (s.modRake f).slotPend = s.slotPend := rfl
@[simp] theorem State.modRake_xings (s : State) (f : Rake → Rake) : (s.modRake f).xings = s.xings := rfl
@[simp] theorem State.modRake_img (s : State) (f : Rake → Rake) : (s.modRake f).img = s.img := rfl
@[simp] theorem State.modRake_pans (s : State) (f : Rake → Rake) : (s.modRake f).pans = s.pans := rfl
@[simp] theorem State.modRake_flt (s : State) (f : Rake → Rake) : (s.modRake f).flt = s.flt := rfl
@[simp] theorem State.modRake_hrv (s : State) (f : Rake → Rake) : (s.modRake f).hrv = s.hrv := rfl
@[simp] theorem State.modRake_chk (s : State) (f : Rake → Rake) : (s.modRake f).chk = s.chk := rfl
@[simp] theorem State.modRake_chkPtr (s : State) (f : Rake → Rake) : (s.modRake f).chkPtr = s.chkPtr := rfl
@[simp] theorem State.modRake_pwr (s : State) (f : Rake → Rake) : (s.modRake f).pwr = s.pwr := rfl
@[simp] theorem State.modRake_start (s : State) (f : Rake → Rake) : (s.modRake f).start = s.start := rfl
@[simp] theorem State.modRake_ctrl (s : State) (f : Rake → Rake) : (s.modRake f).ctrl = s.ctrl := rfl
@[simp] theorem State.modRake_e2eSeq (s : State) (f : Rake → Rake) : (s.modRake f).e2eSeq = s.e2eSeq := rfl
@[simp] theorem State.modRake_entered (s : State) (f : Rake → Rake) : (s.modRake f).entered = s.entered := rfl
@[simp] theorem State.modRake_links (s : State) (f : Rake → Rake) : (s.modRake f).links = s.links := rfl
@[simp] theorem State.modRake_slices (s : State) (f : Rake → Rake) : (s.modRake f).slices = s.slices := rfl
@[simp] theorem State.modRake_out (s : State) (f : Rake → Rake) : (s.modRake f).out = s.out := rfl

/-! ### modHrv -/

@[simp] theorem State.modHrv_pending (s : State) (f : Harvest → Harvest) : (s.modHrv f).pending = s.pending := rfl
@[simp] theorem State.modHrv_build (s : State) (f : Harvest → Harvest) : (s.modHrv f).build = s.build := rfl
@[simp] theorem State.modHrv_silicon (s : State) (f : Harvest → Harvest) : (s.modHrv f).silicon = s.silicon := rfl
@[simp] theorem State.modHrv_fc (s : State) (f : Harvest → Harvest) : (s.modHrv f).fc = s.fc := rfl
@[simp] theorem State.modHrv_ft (s : State) (f : Harvest → Harvest) : (s.modHrv f).ft = s.ft := rfl
@[simp] theorem State.modHrv_tide (s : State) (f : Harvest → Harvest) : (s.modHrv f).tide = s.tide := rfl
@[simp] theorem State.modHrv_refMode (s : State) (f : Harvest → Harvest) : (s.modHrv f).refMode = s.refMode := rfl
@[simp] theorem State.modHrv_rows (s : State) (f : Harvest → Harvest) : (s.modHrv f).rows = s.rows := rfl
@[simp] theorem State.modHrv_qtrainOk (s : State) (f : Harvest → Harvest) : (s.modHrv f).qtrainOk = s.qtrainOk := rfl
@[simp] theorem State.modHrv_phaseLost (s : State) (f : Harvest → Harvest) : (s.modHrv f).phaseLost = s.phaseLost := rfl
@[simp] theorem State.modHrv_stops (s : State) (f : Harvest → Harvest) : (s.modHrv f).stops = s.stops := rfl
@[simp] theorem State.modHrv_slotBank (s : State) (f : Harvest → Harvest) : (s.modHrv f).slotBank = s.slotBank := rfl
@[simp] theorem State.modHrv_slotPend (s : State) (f : Harvest → Harvest) : (s.modHrv f).slotPend = s.slotPend := rfl
@[simp] theorem State.modHrv_xings (s : State) (f : Harvest → Harvest) : (s.modHrv f).xings = s.xings := rfl
@[simp] theorem State.modHrv_img (s : State) (f : Harvest → Harvest) : (s.modHrv f).img = s.img := rfl
@[simp] theorem State.modHrv_pans (s : State) (f : Harvest → Harvest) : (s.modHrv f).pans = s.pans := rfl
@[simp] theorem State.modHrv_flt (s : State) (f : Harvest → Harvest) : (s.modHrv f).flt = s.flt := rfl
@[simp] theorem State.modHrv_rake (s : State) (f : Harvest → Harvest) : (s.modHrv f).rake = s.rake := rfl
@[simp] theorem State.modHrv_chk (s : State) (f : Harvest → Harvest) : (s.modHrv f).chk = s.chk := rfl
@[simp] theorem State.modHrv_chkPtr (s : State) (f : Harvest → Harvest) : (s.modHrv f).chkPtr = s.chkPtr := rfl
@[simp] theorem State.modHrv_pwr (s : State) (f : Harvest → Harvest) : (s.modHrv f).pwr = s.pwr := rfl
@[simp] theorem State.modHrv_start (s : State) (f : Harvest → Harvest) : (s.modHrv f).start = s.start := rfl
@[simp] theorem State.modHrv_ctrl (s : State) (f : Harvest → Harvest) : (s.modHrv f).ctrl = s.ctrl := rfl
@[simp] theorem State.modHrv_e2eSeq (s : State) (f : Harvest → Harvest) : (s.modHrv f).e2eSeq = s.e2eSeq := rfl
@[simp] theorem State.modHrv_entered (s : State) (f : Harvest → Harvest) : (s.modHrv f).entered = s.entered := rfl
@[simp] theorem State.modHrv_links (s : State) (f : Harvest → Harvest) : (s.modHrv f).links = s.links := rfl
@[simp] theorem State.modHrv_slices (s : State) (f : Harvest → Harvest) : (s.modHrv f).slices = s.slices := rfl
@[simp] theorem State.modHrv_out (s : State) (f : Harvest → Harvest) : (s.modHrv f).out = s.out := rfl

/-! ### modPwr -/

@[simp] theorem State.modPwr_pending (s : State) (f : Power → Power) : (s.modPwr f).pending = s.pending := rfl
@[simp] theorem State.modPwr_build (s : State) (f : Power → Power) : (s.modPwr f).build = s.build := rfl
@[simp] theorem State.modPwr_silicon (s : State) (f : Power → Power) : (s.modPwr f).silicon = s.silicon := rfl
@[simp] theorem State.modPwr_fc (s : State) (f : Power → Power) : (s.modPwr f).fc = s.fc := rfl
@[simp] theorem State.modPwr_ft (s : State) (f : Power → Power) : (s.modPwr f).ft = s.ft := rfl
@[simp] theorem State.modPwr_tide (s : State) (f : Power → Power) : (s.modPwr f).tide = s.tide := rfl
@[simp] theorem State.modPwr_refMode (s : State) (f : Power → Power) : (s.modPwr f).refMode = s.refMode := rfl
@[simp] theorem State.modPwr_rows (s : State) (f : Power → Power) : (s.modPwr f).rows = s.rows := rfl
@[simp] theorem State.modPwr_qtrainOk (s : State) (f : Power → Power) : (s.modPwr f).qtrainOk = s.qtrainOk := rfl
@[simp] theorem State.modPwr_phaseLost (s : State) (f : Power → Power) : (s.modPwr f).phaseLost = s.phaseLost := rfl
@[simp] theorem State.modPwr_stops (s : State) (f : Power → Power) : (s.modPwr f).stops = s.stops := rfl
@[simp] theorem State.modPwr_slotBank (s : State) (f : Power → Power) : (s.modPwr f).slotBank = s.slotBank := rfl
@[simp] theorem State.modPwr_slotPend (s : State) (f : Power → Power) : (s.modPwr f).slotPend = s.slotPend := rfl
@[simp] theorem State.modPwr_xings (s : State) (f : Power → Power) : (s.modPwr f).xings = s.xings := rfl
@[simp] theorem State.modPwr_img (s : State) (f : Power → Power) : (s.modPwr f).img = s.img := rfl
@[simp] theorem State.modPwr_pans (s : State) (f : Power → Power) : (s.modPwr f).pans = s.pans := rfl
@[simp] theorem State.modPwr_flt (s : State) (f : Power → Power) : (s.modPwr f).flt = s.flt := rfl
@[simp] theorem State.modPwr_rake (s : State) (f : Power → Power) : (s.modPwr f).rake = s.rake := rfl
@[simp] theorem State.modPwr_chk (s : State) (f : Power → Power) : (s.modPwr f).chk = s.chk := rfl
@[simp] theorem State.modPwr_chkPtr (s : State) (f : Power → Power) : (s.modPwr f).chkPtr = s.chkPtr := rfl
@[simp] theorem State.modPwr_start (s : State) (f : Power → Power) : (s.modPwr f).start = s.start := rfl
@[simp] theorem State.modPwr_ctrl (s : State) (f : Power → Power) : (s.modPwr f).ctrl = s.ctrl := rfl
@[simp] theorem State.modPwr_e2eSeq (s : State) (f : Power → Power) : (s.modPwr f).e2eSeq = s.e2eSeq := rfl
@[simp] theorem State.modPwr_entered (s : State) (f : Power → Power) : (s.modPwr f).entered = s.entered := rfl
@[simp] theorem State.modPwr_links (s : State) (f : Power → Power) : (s.modPwr f).links = s.links := rfl
@[simp] theorem State.modPwr_slices (s : State) (f : Power → Power) : (s.modPwr f).slices = s.slices := rfl
@[simp] theorem State.modPwr_out (s : State) (f : Power → Power) : (s.modPwr f).out = s.out := rfl
@[simp] theorem State.modPwr_hrv (s : State) (f : Power → Power) : (s.modPwr f).hrv = s.hrv := rfl

/-! ### modFlt -/

@[simp] theorem State.modFlt_pending (s : State) (f : Flt → Flt) : (s.modFlt f).pending = s.pending := rfl
@[simp] theorem State.modFlt_build (s : State) (f : Flt → Flt) : (s.modFlt f).build = s.build := rfl
@[simp] theorem State.modFlt_silicon (s : State) (f : Flt → Flt) : (s.modFlt f).silicon = s.silicon := rfl
@[simp] theorem State.modFlt_fc (s : State) (f : Flt → Flt) : (s.modFlt f).fc = s.fc := rfl
@[simp] theorem State.modFlt_ft (s : State) (f : Flt → Flt) : (s.modFlt f).ft = s.ft := rfl
@[simp] theorem State.modFlt_tide (s : State) (f : Flt → Flt) : (s.modFlt f).tide = s.tide := rfl
@[simp] theorem State.modFlt_refMode (s : State) (f : Flt → Flt) : (s.modFlt f).refMode = s.refMode := rfl
@[simp] theorem State.modFlt_rows (s : State) (f : Flt → Flt) : (s.modFlt f).rows = s.rows := rfl
@[simp] theorem State.modFlt_qtrainOk (s : State) (f : Flt → Flt) : (s.modFlt f).qtrainOk = s.qtrainOk := rfl
@[simp] theorem State.modFlt_phaseLost (s : State) (f : Flt → Flt) : (s.modFlt f).phaseLost = s.phaseLost := rfl
@[simp] theorem State.modFlt_stops (s : State) (f : Flt → Flt) : (s.modFlt f).stops = s.stops := rfl
@[simp] theorem State.modFlt_slotBank (s : State) (f : Flt → Flt) : (s.modFlt f).slotBank = s.slotBank := rfl
@[simp] theorem State.modFlt_slotPend (s : State) (f : Flt → Flt) : (s.modFlt f).slotPend = s.slotPend := rfl
@[simp] theorem State.modFlt_xings (s : State) (f : Flt → Flt) : (s.modFlt f).xings = s.xings := rfl
@[simp] theorem State.modFlt_img (s : State) (f : Flt → Flt) : (s.modFlt f).img = s.img := rfl
@[simp] theorem State.modFlt_pans (s : State) (f : Flt → Flt) : (s.modFlt f).pans = s.pans := rfl
@[simp] theorem State.modFlt_rake (s : State) (f : Flt → Flt) : (s.modFlt f).rake = s.rake := rfl
@[simp] theorem State.modFlt_chk (s : State) (f : Flt → Flt) : (s.modFlt f).chk = s.chk := rfl
@[simp] theorem State.modFlt_chkPtr (s : State) (f : Flt → Flt) : (s.modFlt f).chkPtr = s.chkPtr := rfl
@[simp] theorem State.modFlt_pwr (s : State) (f : Flt → Flt) : (s.modFlt f).pwr = s.pwr := rfl
@[simp] theorem State.modFlt_start (s : State) (f : Flt → Flt) : (s.modFlt f).start = s.start := rfl
@[simp] theorem State.modFlt_ctrl (s : State) (f : Flt → Flt) : (s.modFlt f).ctrl = s.ctrl := rfl
@[simp] theorem State.modFlt_e2eSeq (s : State) (f : Flt → Flt) : (s.modFlt f).e2eSeq = s.e2eSeq := rfl
@[simp] theorem State.modFlt_entered (s : State) (f : Flt → Flt) : (s.modFlt f).entered = s.entered := rfl
@[simp] theorem State.modFlt_links (s : State) (f : Flt → Flt) : (s.modFlt f).links = s.links := rfl
@[simp] theorem State.modFlt_slices (s : State) (f : Flt → Flt) : (s.modFlt f).slices = s.slices := rfl
@[simp] theorem State.modFlt_out (s : State) (f : Flt → Flt) : (s.modFlt f).out = s.out := rfl
@[simp] theorem State.modFlt_hrv (s : State) (f : Flt → Flt) : (s.modFlt f).hrv = s.hrv := rfl

/-! ### modImg -/

@[simp] theorem State.modImg_pending (s : State) (f : Img → Img) : (s.modImg f).pending = s.pending := rfl
@[simp] theorem State.modImg_build (s : State) (f : Img → Img) : (s.modImg f).build = s.build := rfl
@[simp] theorem State.modImg_silicon (s : State) (f : Img → Img) : (s.modImg f).silicon = s.silicon := rfl
@[simp] theorem State.modImg_fc (s : State) (f : Img → Img) : (s.modImg f).fc = s.fc := rfl
@[simp] theorem State.modImg_ft (s : State) (f : Img → Img) : (s.modImg f).ft = s.ft := rfl
@[simp] theorem State.modImg_tide (s : State) (f : Img → Img) : (s.modImg f).tide = s.tide := rfl
@[simp] theorem State.modImg_refMode (s : State) (f : Img → Img) : (s.modImg f).refMode = s.refMode := rfl
@[simp] theorem State.modImg_rows (s : State) (f : Img → Img) : (s.modImg f).rows = s.rows := rfl
@[simp] theorem State.modImg_qtrainOk (s : State) (f : Img → Img) : (s.modImg f).qtrainOk = s.qtrainOk := rfl
@[simp] theorem State.modImg_phaseLost (s : State) (f : Img → Img) : (s.modImg f).phaseLost = s.phaseLost := rfl
@[simp] theorem State.modImg_stops (s : State) (f : Img → Img) : (s.modImg f).stops = s.stops := rfl
@[simp] theorem State.modImg_slotBank (s : State) (f : Img → Img) : (s.modImg f).slotBank = s.slotBank := rfl
@[simp] theorem State.modImg_slotPend (s : State) (f : Img → Img) : (s.modImg f).slotPend = s.slotPend := rfl
@[simp] theorem State.modImg_xings (s : State) (f : Img → Img) : (s.modImg f).xings = s.xings := rfl
@[simp] theorem State.modImg_pans (s : State) (f : Img → Img) : (s.modImg f).pans = s.pans := rfl
@[simp] theorem State.modImg_flt (s : State) (f : Img → Img) : (s.modImg f).flt = s.flt := rfl
@[simp] theorem State.modImg_rake (s : State) (f : Img → Img) : (s.modImg f).rake = s.rake := rfl
@[simp] theorem State.modImg_chk (s : State) (f : Img → Img) : (s.modImg f).chk = s.chk := rfl
@[simp] theorem State.modImg_chkPtr (s : State) (f : Img → Img) : (s.modImg f).chkPtr = s.chkPtr := rfl
@[simp] theorem State.modImg_pwr (s : State) (f : Img → Img) : (s.modImg f).pwr = s.pwr := rfl
@[simp] theorem State.modImg_start (s : State) (f : Img → Img) : (s.modImg f).start = s.start := rfl
@[simp] theorem State.modImg_ctrl (s : State) (f : Img → Img) : (s.modImg f).ctrl = s.ctrl := rfl
@[simp] theorem State.modImg_e2eSeq (s : State) (f : Img → Img) : (s.modImg f).e2eSeq = s.e2eSeq := rfl
@[simp] theorem State.modImg_entered (s : State) (f : Img → Img) : (s.modImg f).entered = s.entered := rfl
@[simp] theorem State.modImg_links (s : State) (f : Img → Img) : (s.modImg f).links = s.links := rfl
@[simp] theorem State.modImg_slices (s : State) (f : Img → Img) : (s.modImg f).slices = s.slices := rfl
@[simp] theorem State.modImg_out (s : State) (f : Img → Img) : (s.modImg f).out = s.out := rfl
@[simp] theorem State.modImg_hrv (s : State) (f : Img → Img) : (s.modImg f).hrv = s.hrv := rfl

/-! ### modCheck -/

@[simp] theorem State.modCheck_pending (s : State) (u : Nat) (f : Check → Check) : (s.modCheck u f).pending = s.pending := rfl
@[simp] theorem State.modCheck_build (s : State) (u : Nat) (f : Check → Check) : (s.modCheck u f).build = s.build := rfl
@[simp] theorem State.modCheck_silicon (s : State) (u : Nat) (f : Check → Check) : (s.modCheck u f).silicon = s.silicon := rfl
@[simp] theorem State.modCheck_fc (s : State) (u : Nat) (f : Check → Check) : (s.modCheck u f).fc = s.fc := rfl
@[simp] theorem State.modCheck_ft (s : State) (u : Nat) (f : Check → Check) : (s.modCheck u f).ft = s.ft := rfl
@[simp] theorem State.modCheck_tide (s : State) (u : Nat) (f : Check → Check) : (s.modCheck u f).tide = s.tide := rfl
@[simp] theorem State.modCheck_refMode (s : State) (u : Nat) (f : Check → Check) : (s.modCheck u f).refMode = s.refMode := rfl
@[simp] theorem State.modCheck_rows (s : State) (u : Nat) (f : Check → Check) : (s.modCheck u f).rows = s.rows := rfl
@[simp] theorem State.modCheck_qtrainOk (s : State) (u : Nat) (f : Check → Check) : (s.modCheck u f).qtrainOk = s.qtrainOk := rfl
@[simp] theorem State.modCheck_phaseLost (s : State) (u : Nat) (f : Check → Check) : (s.modCheck u f).phaseLost = s.phaseLost := rfl
@[simp] theorem State.modCheck_stops (s : State) (u : Nat) (f : Check → Check) : (s.modCheck u f).stops = s.stops := rfl
@[simp] theorem State.modCheck_slotBank (s : State) (u : Nat) (f : Check → Check) : (s.modCheck u f).slotBank = s.slotBank := rfl
@[simp] theorem State.modCheck_slotPend (s : State) (u : Nat) (f : Check → Check) : (s.modCheck u f).slotPend = s.slotPend := rfl
@[simp] theorem State.modCheck_xings (s : State) (u : Nat) (f : Check → Check) : (s.modCheck u f).xings = s.xings := rfl
@[simp] theorem State.modCheck_img (s : State) (u : Nat) (f : Check → Check) : (s.modCheck u f).img = s.img := rfl
@[simp] theorem State.modCheck_pans (s : State) (u : Nat) (f : Check → Check) : (s.modCheck u f).pans = s.pans := rfl
@[simp] theorem State.modCheck_flt (s : State) (u : Nat) (f : Check → Check) : (s.modCheck u f).flt = s.flt := rfl
@[simp] theorem State.modCheck_rake (s : State) (u : Nat) (f : Check → Check) : (s.modCheck u f).rake = s.rake := rfl
@[simp] theorem State.modCheck_chkPtr (s : State) (u : Nat) (f : Check → Check) : (s.modCheck u f).chkPtr = s.chkPtr := rfl
@[simp] theorem State.modCheck_pwr (s : State) (u : Nat) (f : Check → Check) : (s.modCheck u f).pwr = s.pwr := rfl
@[simp] theorem State.modCheck_start (s : State) (u : Nat) (f : Check → Check) : (s.modCheck u f).start = s.start := rfl
@[simp] theorem State.modCheck_ctrl (s : State) (u : Nat) (f : Check → Check) : (s.modCheck u f).ctrl = s.ctrl := rfl
@[simp] theorem State.modCheck_e2eSeq (s : State) (u : Nat) (f : Check → Check) : (s.modCheck u f).e2eSeq = s.e2eSeq := rfl
@[simp] theorem State.modCheck_entered (s : State) (u : Nat) (f : Check → Check) : (s.modCheck u f).entered = s.entered := rfl
@[simp] theorem State.modCheck_links (s : State) (u : Nat) (f : Check → Check) : (s.modCheck u f).links = s.links := rfl
@[simp] theorem State.modCheck_slices (s : State) (u : Nat) (f : Check → Check) : (s.modCheck u f).slices = s.slices := rfl
@[simp] theorem State.modCheck_out (s : State) (u : Nat) (f : Check → Check) : (s.modCheck u f).out = s.out := rfl
@[simp] theorem State.modCheck_hrv (s : State) (u : Nat) (f : Check → Check) : (s.modCheck u f).hrv = s.hrv := rfl

/-! ### modAttach -/

@[simp] theorem State.modAttach_pending (s : State) (sl : Nat) (f : Attach → Attach) : (s.modAttach sl f).pending = s.pending := rfl
@[simp] theorem State.modAttach_build (s : State) (sl : Nat) (f : Attach → Attach) : (s.modAttach sl f).build = s.build := rfl
@[simp] theorem State.modAttach_silicon (s : State) (sl : Nat) (f : Attach → Attach) : (s.modAttach sl f).silicon = s.silicon := rfl
@[simp] theorem State.modAttach_fc (s : State) (sl : Nat) (f : Attach → Attach) : (s.modAttach sl f).fc = s.fc := rfl
@[simp] theorem State.modAttach_ft (s : State) (sl : Nat) (f : Attach → Attach) : (s.modAttach sl f).ft = s.ft := rfl
@[simp] theorem State.modAttach_tide (s : State) (sl : Nat) (f : Attach → Attach) : (s.modAttach sl f).tide = s.tide := rfl
@[simp] theorem State.modAttach_refMode (s : State) (sl : Nat) (f : Attach → Attach) : (s.modAttach sl f).refMode = s.refMode := rfl
@[simp] theorem State.modAttach_rows (s : State) (sl : Nat) (f : Attach → Attach) : (s.modAttach sl f).rows = s.rows := rfl
@[simp] theorem State.modAttach_qtrainOk (s : State) (sl : Nat) (f : Attach → Attach) : (s.modAttach sl f).qtrainOk = s.qtrainOk := rfl
@[simp] theorem State.modAttach_phaseLost (s : State) (sl : Nat) (f : Attach → Attach) : (s.modAttach sl f).phaseLost = s.phaseLost := rfl
@[simp] theorem State.modAttach_stops (s : State) (sl : Nat) (f : Attach → Attach) : (s.modAttach sl f).stops = s.stops := rfl
@[simp] theorem State.modAttach_slotBank (s : State) (sl : Nat) (f : Attach → Attach) : (s.modAttach sl f).slotBank = s.slotBank := rfl
@[simp] theorem State.modAttach_slotPend (s : State) (sl : Nat) (f : Attach → Attach) : (s.modAttach sl f).slotPend = s.slotPend := rfl
@[simp] theorem State.modAttach_xings (s : State) (sl : Nat) (f : Attach → Attach) : (s.modAttach sl f).xings = s.xings := rfl
@[simp] theorem State.modAttach_img (s : State) (sl : Nat) (f : Attach → Attach) : (s.modAttach sl f).img = s.img := rfl
@[simp] theorem State.modAttach_pans (s : State) (sl : Nat) (f : Attach → Attach) : (s.modAttach sl f).pans = s.pans := rfl
@[simp] theorem State.modAttach_flt (s : State) (sl : Nat) (f : Attach → Attach) : (s.modAttach sl f).flt = s.flt := rfl
@[simp] theorem State.modAttach_rake (s : State) (sl : Nat) (f : Attach → Attach) : (s.modAttach sl f).rake = s.rake := rfl
@[simp] theorem State.modAttach_chk (s : State) (sl : Nat) (f : Attach → Attach) : (s.modAttach sl f).chk = s.chk := rfl
@[simp] theorem State.modAttach_chkPtr (s : State) (sl : Nat) (f : Attach → Attach) : (s.modAttach sl f).chkPtr = s.chkPtr := rfl
@[simp] theorem State.modAttach_pwr (s : State) (sl : Nat) (f : Attach → Attach) : (s.modAttach sl f).pwr = s.pwr := rfl
@[simp] theorem State.modAttach_start (s : State) (sl : Nat) (f : Attach → Attach) : (s.modAttach sl f).start = s.start := rfl
@[simp] theorem State.modAttach_ctrl (s : State) (sl : Nat) (f : Attach → Attach) : (s.modAttach sl f).ctrl = s.ctrl := rfl
@[simp] theorem State.modAttach_e2eSeq (s : State) (sl : Nat) (f : Attach → Attach) : (s.modAttach sl f).e2eSeq = s.e2eSeq := rfl
@[simp] theorem State.modAttach_entered (s : State) (sl : Nat) (f : Attach → Attach) : (s.modAttach sl f).entered = s.entered := rfl
@[simp] theorem State.modAttach_links (s : State) (sl : Nat) (f : Attach → Attach) : (s.modAttach sl f).links = s.links := rfl
@[simp] theorem State.modAttach_out (s : State) (sl : Nat) (f : Attach → Attach) : (s.modAttach sl f).out = s.out := rfl
@[simp] theorem State.modAttach_hrv (s : State) (sl : Nat) (f : Attach → Attach) : (s.modAttach sl f).hrv = s.hrv := rfl

/-! ### elapse -/

@[simp] theorem State.elapse_pending (s : State) (k : Nat) : (s.elapse k).pending = s.pending := rfl
@[simp] theorem State.elapse_build (s : State) (k : Nat) : (s.elapse k).build = s.build := rfl
@[simp] theorem State.elapse_silicon (s : State) (k : Nat) : (s.elapse k).silicon = s.silicon := rfl
@[simp] theorem State.elapse_tide (s : State) (k : Nat) : (s.elapse k).tide = s.tide := rfl
@[simp] theorem State.elapse_refMode (s : State) (k : Nat) : (s.elapse k).refMode = s.refMode := rfl
@[simp] theorem State.elapse_rows (s : State) (k : Nat) : (s.elapse k).rows = s.rows := rfl
@[simp] theorem State.elapse_qtrainOk (s : State) (k : Nat) : (s.elapse k).qtrainOk = s.qtrainOk := rfl
@[simp] theorem State.elapse_phaseLost (s : State) (k : Nat) : (s.elapse k).phaseLost = s.phaseLost := rfl
@[simp] theorem State.elapse_stops (s : State) (k : Nat) : (s.elapse k).stops = s.stops := rfl
@[simp] theorem State.elapse_slotBank (s : State) (k : Nat) : (s.elapse k).slotBank = s.slotBank := rfl
@[simp] theorem State.elapse_slotPend (s : State) (k : Nat) : (s.elapse k).slotPend = s.slotPend := rfl
@[simp] theorem State.elapse_xings (s : State) (k : Nat) : (s.elapse k).xings = s.xings := rfl
@[simp] theorem State.elapse_img (s : State) (k : Nat) : (s.elapse k).img = s.img := rfl
@[simp] theorem State.elapse_pans (s : State) (k : Nat) : (s.elapse k).pans = s.pans := rfl
@[simp] theorem State.elapse_flt (s : State) (k : Nat) : (s.elapse k).flt = s.flt := rfl
@[simp] theorem State.elapse_hrv (s : State) (k : Nat) : (s.elapse k).hrv = s.hrv := rfl
@[simp] theorem State.elapse_rake (s : State) (k : Nat) : (s.elapse k).rake = s.rake := rfl
@[simp] theorem State.elapse_chk (s : State) (k : Nat) : (s.elapse k).chk = s.chk := rfl
@[simp] theorem State.elapse_chkPtr (s : State) (k : Nat) : (s.elapse k).chkPtr = s.chkPtr := rfl
@[simp] theorem State.elapse_pwr (s : State) (k : Nat) : (s.elapse k).pwr = s.pwr := rfl
@[simp] theorem State.elapse_start (s : State) (k : Nat) : (s.elapse k).start = s.start := rfl
@[simp] theorem State.elapse_ctrl (s : State) (k : Nat) : (s.elapse k).ctrl = s.ctrl := rfl
@[simp] theorem State.elapse_e2eSeq (s : State) (k : Nat) : (s.elapse k).e2eSeq = s.e2eSeq := rfl
@[simp] theorem State.elapse_entered (s : State) (k : Nat) : (s.elapse k).entered = s.entered := rfl
@[simp] theorem State.elapse_links (s : State) (k : Nat) : (s.elapse k).links = s.links := rfl
@[simp] theorem State.elapse_slices (s : State) (k : Nat) : (s.elapse k).slices = s.slices := rfl
@[simp] theorem State.elapse_out (s : State) (k : Nat) : (s.elapse k).out = s.out := rfl

/-! ### What an update makes of its own field -/

@[simp] theorem State.emit_out (s : State) (e : OutEv) : (s.emit e).out = s.out ++ [e] := rfl
@[simp] theorem State.emits_out (s : State) (es : List OutEv) : (s.emits es).out = s.out ++ es := rfl
@[simp] theorem State.modTide_tide (s : State) (f : Tide → Tide) : (s.modTide f).tide = f s.tide := rfl
@[simp] theorem State.modRake_rake (s : State) (f : Rake → Rake) : (s.modRake f).rake = f s.rake := rfl
@[simp] theorem State.modHrv_hrv (s : State) (f : Harvest → Harvest) : (s.modHrv f).hrv = f s.hrv := rfl
@[simp] theorem State.modPwr_pwr (s : State) (f : Power → Power) : (s.modPwr f).pwr = f s.pwr := rfl
@[simp] theorem State.modFlt_flt (s : State) (f : Flt → Flt) : (s.modFlt f).flt = f s.flt := rfl
@[simp] theorem State.modImg_img (s : State) (f : Img → Img) : (s.modImg f).img = f s.img := rfl
@[simp] theorem State.elapse_fc (s : State) (k : Nat) : (s.elapse k).fc = s.fc + k := rfl
@[simp] theorem State.setCount_tide (s : State) (c : BitVec 64) (p : Nat) :
    (s.setCount c p).tide = { s.tide with count := c, phase := p } := rfl

/-! ### A part of a stop or of a link is changed by a change of it -/

@[simp] theorem State.modRt_eq (s : State) (t : Nat) (f : Router → Router) : s.modRt t f = s.modStop t fun st => { st with rt := f st.rt } := rfl
@[simp] theorem State.modRo_eq (s : State) (t : Nat) (f : Routes → Routes) : s.modRo t f = s.modStop t fun st => { st with ro := f st.ro } := rfl
@[simp] theorem State.modSl_eq (s : State) (t : Nat) (f : Sluice → Sluice) : s.modSl t f = s.modStop t fun st => { st with sl := f st.sl } := rfl
@[simp] theorem State.modSi_eq (s : State) (t : Nat) (f : Si → Si) : s.modSi t f = s.modStop t fun st => { st with si := f st.si } := rfl
@[simp] theorem State.modPb_eq (s : State) (t : Nat) (f : Probe → Probe) : s.modPb t f = s.modStop t fun st => { st with pb := f st.pb } := rfl
@[simp] theorem State.modC_eq (s : State) (t : Nat) (f : CRouter → CRouter) : s.modC t f = s.modStop t fun st => { st with c := f st.c } := rfl
@[simp] theorem State.modQ_eq (s : State) (t : Nat) (f : QBlock → QBlock) : s.modQ t f = s.modStop t fun st => { st with q := f st.q } := rfl
@[simp] theorem State.modLk_eq (s : State) (t : Nat) (f : LockTab → LockTab) : s.modLk t f = s.modStop t fun st => { st with lk := f st.lk } := rfl
@[simp] theorem State.modCr_eq (s : State) (t : Nat) (f : CReqs → CReqs) : s.modCr t f = s.modStop t fun st => { st with cr := f st.cr } := rfl
@[simp] theorem State.modCu_eq (s : State) (t : Nat) (f : Cu → Cu) : s.modCu t f = s.modStop t fun st => { st with cu := f st.cu } := rfl
@[simp] theorem State.modCo_eq (s : State) (t : Nat) (f : Coll → Coll) : s.modCo t f = s.modStop t fun st => { st with co := f st.co } := rfl
@[simp] theorem State.modMp_eq (s : State) (t : Nat) (f : MPort → MPort) : s.modMp t f = s.modStop t fun st => { st with mp := f st.mp } := rfl
@[simp] theorem State.modKpr_eq (s : State) (n : Nat) (f : Keeper → Keeper) : s.modKpr n f = s.modLink n fun l => { l with kpr := f l.kpr } := rfl
@[simp] theorem State.modLl_eq (s : State) (n : Nat) (f : LinkLayer → LinkLayer) : s.modLl n f = s.modLink n fun l => { l with ll := f l.ll } := rfl

/-! ### Stops and links: reading after a change -/

theorem State.stop_congr {s u : State} (h : u.stops = s.stops) (t : Nat) : u.stop t = s.stop t := by
  unfold State.stop; rw [h]

theorem State.link_congr {s u : State} (h : u.links = s.links) (n : Nat) : u.link n = s.link n := by
  unfold State.link; rw [h]

@[simp] theorem State.setStop_stop_self (s : State) (t : Nat) (x : Stop) : (s.setStop t x).stop t = x :=
  Tab.get_set_self _ _ _ _

theorem State.setStop_stop_ne (s : State) (t j : Nat) (x : Stop) (h : j ≠ t) : (s.setStop t x).stop j = s.stop j :=
  Tab.get_set_ne _ _ _ _ _ h

@[simp] theorem State.modStop_stop_self (s : State) (t : Nat) (f : Stop → Stop) : (s.modStop t f).stop t = f (s.stop t) :=
  Tab.get_set_self _ _ _ _

theorem State.modStop_stop_ne (s : State) (t j : Nat) (f : Stop → Stop) (h : j ≠ t) : (s.modStop t f).stop j = s.stop j :=
  Tab.get_set_ne _ _ _ _ _ h

@[simp] theorem State.modLink_link_self (s : State) (n : Nat) (f : Link → Link) : (s.modLink n f).link n = f (s.link n) :=
  Tab.get_set_self _ _ _ _

theorem State.modLink_link_ne (s : State) (n j : Nat) (f : Link → Link) (h : j ≠ n) : (s.modLink n f).link j = s.link j :=
  Tab.get_set_ne _ _ _ _ _ h

@[simp] theorem State.modCheck_check_self (s : State) (u : Nat) (f : Check → Check) : (s.modCheck u f).check u = f (s.check u) :=
  Tab.get_set_self _ _ _ _

theorem State.modCheck_check_ne (s : State) (u j : Nat) (f : Check → Check) (h : j ≠ u) : (s.modCheck u f).check j = s.check j :=
  Tab.get_set_ne _ _ _ _ _ h

@[simp] theorem State.modAttach_attach_self (s : State) (sl : Nat) (f : Attach → Attach) : (s.modAttach sl f).attach sl = f (s.attach sl) :=
  Tab.get_set_self _ _ _ _

theorem State.modAttach_attach_ne (s : State) (sl j : Nat) (f : Attach → Attach) (h : j ≠ sl) : (s.modAttach sl f).attach j = s.attach j :=
  Tab.get_set_ne _ _ _ _ _ h

end Sys2Proof.Machine
end

