-- ==== Sys2Proof/Laws/Forms.lean ====
section
/-! SUPPORT. The forms of a meaning: what each answers where its unit carries out the command, and what it can never touch. -/

namespace Sys2Proof.Machine

/-- What a form puts back once a command of a unit has had its effect. -/
def State.kept (s u : State) : State :=
  { u with pending := s.pending, build := s.build, fc := s.fc, ft := s.ft, tide := s.tide }

theorem fabAct_running {s : State} (h : s.running = true) (f : State → State) : fabAct s f = .next (s.kept (f s)) := by
  simp [fabAct, h, State.kept]

theorem runAct_ready {s : State} (h : s.ready = true) (f : State → State) : runAct s f = .next (s.kept (f s)) := by
  simp [runAct, h, State.kept]

theorem tideAct_ready {s : State} (h : s.ready = true) (f : State → State) :
    tideAct s f = .next { f s with pending := s.pending, build := s.build } := by
  simp [tideAct, h, act]

theorem State.running_ready {s : State} (h : s.running = true) : s.ready = true := by
  simp [State.running] at h; simp [State.ready, h.1]

theorem atTile_runs {s : State} {t : Nat} (h : s.stopRuns t) (f : State → State) : atTile t s f = .next (s.kept (f s)) := by
  obtain ⟨hr, ht, hf⟩ := h
  simp [atTile, ht, hf, fabAct_running hr]

theorem atPort_runs {s : State} {t p : Nat} (h : s.stopRuns t) (hp : portOk s.build t p = true) (f : State → State) :
    atPort t p s f = .next (s.kept (f s)) := by
  obtain ⟨hr, ht, hf⟩ := h
  simp [atPort, ht, hf, hp, fabAct_running hr]

theorem atLink_runs {s : State} {n : Nat} (h : s.linkRuns n) (f : State → State) : atLink n s f = .next (s.kept (f s)) := by
  simp [atLink, h.2, runAct_ready h.1]

theorem atLinkFab_runs {s : State} {n : Nat} (h : s.linkFabRuns n) (f : State → State) :
    atLinkFab n s f = .next (s.kept (f s)) := by
  simp [atLinkFab, h.2, fabAct_running h.1]

theorem atSlice_runs {s : State} {n : Nat} (hr : s.running = true) (h : n < nSlices s.build) (f : State → State) :
    atSlice n s f = .next (s.kept (f s)) := by
  simp [atSlice, h, fabAct_running hr]

/-- A client's request that the stop takes at once. -/
theorem portAct_takes {α : Type} {s : State} {t : Nat} {x : XPath} (h : s.portTakes t x) (q : Stop → List α) (put : Stop → List α → Stop)
    (depth : Nat) (i : α) (f : State → State) : portAct t x q put depth true i s f = .next (s.kept (f s)) := by
  obtain ⟨⟨hr, ht, hf⟩, hk, hx⟩ := h
  simp [portAct, ht, hf, hk, hr, hx, fabAct_running hr]

/-- One that the stop is not ready for waits in the crossing while a place is free (R31). -/
theorem portAct_waits {α : Type} {s : State} {t : Nat} {x : XPath} (h : s.portTakes t x) (q : Stop → List α) (put : Stop → List α → Stop)
    (depth : Nat) (i : α) (f : State → State) (hq : (q (s.stop t)).length < depth) :
    portAct t x q put depth false i s f = .next (s.kept (s.modStop t fun st => put st (q st ++ [i]))) := by
  obtain ⟨⟨hr, ht, hf⟩, hk, hx⟩ := h
  simp [portAct, ht, hf, hk, hx, runAct_ready (State.running_ready hr), Nat.not_le.mpr hq]

/-- A report touches the stop that carries its message and what leaves the block, and there puts one event (R455, R456). -/
theorem State.raise_eq (s : State) (unit code detT detN detV : Nat) :
    ∃ f : FaultMsg, f.code = BitVec.ofNat 16 code ∧ f.unit = BitVec.ofNat 16 unit ∧ f.cls = BitVec.ofNat 2 (faultClass code) ∧
      s.raise unit code detT detN detV =
        { s with out := s.out ++ [.fault f], stops := (s.raise unit code detT detN detV).stops } :=
  ⟨_, rfl, rfl, rfl, rfl⟩

/-- A record of the trace touches the rake alone. -/
theorem State.trace_eq (s : State) (unit typ : Nat) (cls : Option Nat) (a b c : Nat) (raws : List Byte) :
    ∃ r, s.trace unit typ cls a b c raws = { s with rake := r } := by
  unfold State.trace
  split
  · exact ⟨_, rfl⟩
  · exact ⟨s.rake, rfl⟩

theorem State.input_eq (s : State) (unit kind b c : Nat) : ∃ r, s.input unit kind b c = { s with rake := r } := by
  unfold State.input
  split
  · exact State.trace_eq ..
  · exact ⟨s.rake, rfl⟩

theorem State.inputReq_eq (s : State) (wr : Bool) (q : Req) : ∃ r, s.inputReq wr q = { s with rake := r } := State.input_eq ..

theorem State.mirror_eq (s : State) (sel unit kind : Nat) (bs : List Byte) : ∃ r, s.mirror sel unit kind bs = { s with rake := r } := by
  unfold State.mirror
  split
  · obtain ⟨r, h⟩ := State.trace_eq s unit 0x09 (some 5) bs.length s.rake.mirrorSeq kind (rawRecs bs)
    rw [h]; exact ⟨_, rfl⟩
  · exact ⟨s.rake, rfl⟩

/-- A request that is performed at once sees the state but for the record of its arrival. -/
theorem State.ctlTake_serves {s : State} {ofs : Nat} {q : Req} (h : s.serves ofs q) (wr : Bool) (f : State → State) :
    ∃ r, s.ctlTake wr q f = f { s with rake := r } := by
  obtain ⟨r, hr⟩ := s.inputReq_eq wr q
  exact ⟨r, by simp [State.ctlTake, h.2.1, h.2.2.1, h.2.2.2.1, h.2.2.2.2.1, hr]⟩

theorem ready_phase {s : State} (h : s.ready = true) : s.start.phase = 5 := by simpa [State.ready] using h

theorem ctlEnter_serves {s : State} {ofs : Nat} {q : Req} (h : s.serves ofs q) (wr : Bool) (f : State → State) :
    ∃ r, ctlEnter wr ofs q s f = .next (s.kept (f { s with rake := r })) := by
  obtain ⟨r, hr⟩ := State.ctlTake_serves h wr f
  refine ⟨r, ?_⟩
  simp [ctlEnter, h.2.2.2.2.2, ready_phase h.1, runAct_ready h.1, hr]

theorem tideReq_serves {s : State} {ofs : Nat} {q : Req} (h : s.serves (0x10000 + ofs) q) (wr : Bool) (f : State → State) :
    ∃ r, tideReq wr ofs q s f = .next { f { s with rake := r } with pending := s.pending, build := s.build } := by
  obtain ⟨r, hr⟩ := State.ctlTake_serves h wr f
  refine ⟨r, ?_⟩
  simp [tideReq, h.2.2.2.2.2, ready_phase h.1, tideAct_ready h.1, hr]

theorem State.raise_stop_ne (s : State) (unit code detT detN detV j : Nat) (h : j ≠ s.unitTile unit) :
    (s.raise unit code detT detN detV).stop j = s.stop j := State.modStop_stop_ne _ _ _ _ h

end Sys2Proof.Machine
end

