-- ==== Sys2Proof/Tests/Slice0.lean ====
section
/-! SUPPORT. Tests: worked examples of the spec, ill-formed commands that the checks refuse, and for every statement states and operands that
meet its hypotheses, clause by clause. -/

namespace Sys2Proof.Tests
open Sys2Proof Sys2Proof.Machine

set_option Elab.async false
set_option maxRecDepth 100000
set_option linter.unusedVariables false

/-! ## Small states -/

/-- The block right after reset. -/
def base : State := State.reset

/-- A request to the register at byte offset `o` through window `w` with data `v`. -/
def rq (o w : Nat) (v : Word) : Req := { win := BitVec.ofNat 3 w, tag := 5, wofs := BitVec.ofNat 22 (o / 4), wdata := v }

/-- A pan of the whole die, and the block with it in force. -/
def pan1 : PanRec := { (default : PanRec) with id := 1, x1 := 23, y1 := 15, nodes := [0] }
def inPan : State := { base with img := { base.img with act := { base.img.act with pans := [pan1] } } }

/-- The block in a pan with the stop at tile 17 changed. -/
def at17 (f : Stop → Stop) : State := inPan.modStop 17 f
def si17 (f : Si → Si) : State := inPan.modSi 17 f
def rt17 (f : Router → Router) : State := inPan.modRt 17 f

/-- The block with link 3 changed. -/
def on3 (f : Link → Link) : State := inPan.modLink 3 f

/-- A header for tile 17 from tile 40 of the same die and pan. -/
def h17 : THdr :=
  { (default : THdr) with stile := 40, dtile := 17, pan := 1, last := 1, plen := 4, pcnt := 1, mseq := 9, ctag := 7 }
def pk (type : BitVec 4) (vc : BitVec 2) (data : List Byte) : Pkt :=
  { hdr := { h17 with type := type, vc := vc, plen := BitVec.ofNat 12 data.length }, data := data }

/-- A message of the SI at tile 17. -/
def msg1 : Msg := { (default : Msg) with uid := 3, hdr := { h17 with type := 1, stile := 17, dtile := 40 }, dkind := 1, len := 4 }

/-- A C-plane message for tile 17 from tile 40. -/
def cm (kind : BitVec 4) (arg : BitVec 32) (data : List Byte) : CMsg :=
  { hdr := { (default : CHdr) with stile := 40, dtile := 17, pan := 1, mkind := kind, arg := arg, mseq := 9, plen := BitVec.ofNat 6 data.length }
    data := data }

/-- A write of `v` to the page register at offset `o`, through window 0. -/
def regWr (o : Nat) (v : Nat) : CMsg := cm 0xA 0 (bytesOf 16 (o / 4 * 2 ^ 103 + v))
def regRd (o : Nat) : CMsg := cm 9 0 (bytesOf 16 (o / 4 * 2 ^ 103))

/-- The rectangle of tile 17 alone, a collector's record, and an answer to its message. -/
def rect17 : Word64 := 1 + 1 * 32 + 1 * 512 + 1 * 16384
def rec17 (targets : List Nat) : CollRec :=
  { snode := 3, stile := 50, vc := 3, mseq := 9, ntgt := targets.length, targets := targets, answers := [], deadline := 0,
    hdr := { h17 with snode := 3, stile := 50, vc := 3, mseq := 9, type := 8 } }
def ansPk (type : BitVec 4) (code : Nat) : Pkt :=
  { hdr := { h17 with type := type, vc := 1, addr := 3 * 512 + 50, w6 := ansWord false true 0 9 code }, data := [] }

/-- An answer of code `code` to the message of tile 17. -/
def ansTo17 (type : BitVec 4) (code : Nat) : Pkt :=
  { hdr := { (ansPk type code).hdr with addr := 0, plen := 0 }, data := [] }

/-- Word 0 of a transfer descriptor of kind `k` to rank `r`; a ring queue's address; a board of two chips and a pan with a memory
window. -/
def dw0 (k r : Nat) : Word64 := BitVec.ofNat 64 (k * 2 ^ 60 + r * 2 ^ 22)
def ringAddr16 : Word64 := BitVec.ofNat 64 (2 * 2 ^ 44 + 16 * 2 ^ 26)
def panMem : PanRec := { pan1 with wins := [{ base := 0, size := 2 ^ 44, r := true, w := true, a := true }] }
def memState : State :=
  { base with img := { base.img with act := { base.img.act with
      pans := [panMem], nodesGiven := true, memS := 6
      nodes := [{ pos := 0, node := 0, board := 0, mtile := 0 }, { pos := 1, node := 5, board := 0, mtile := 0 }] } } }

/-- An M-plane read of slice 5 from tile 17. -/
def mreq1 : MMsg :=
  { ret := false, kind := .read, tile := 17, slice := 5, tag := 3, row := 0, lo := 0, len := 64, guaranteed := false, status := 0, data := [] }

/-- A C-plane message being received at tile 17, a queue of tile 17, a QSEND to it, and the address of ring queue 0 of tile 17. -/
def cbuf17 : CBuf :=
  { (default : CBuf) with flits := [{ vc := 0, head := true, tail := false, data := chdrBytes (cm 1 0 [1]).hdr }], dest := 4 }
def q17 (k : Nat) (q : Queue) : State := inPan.modQueue 17 k fun _ => q
def qm (k : Nat) : CMsg := { hdr := { (cm 1 0 [1]).hdr with index := BitVec.ofNat 6 k }, data := [1] }
def ringAt17 : BitVec 48 := BitVec.ofNat 48 (2 * 2 ^ 44 + 1 * 2 ^ 35 + 1 * 2 ^ 31 + 16 * 2 ^ 26)

/-- A request of tile 17's M-port. -/
def mr17 : MReq :=
  { orig := .mp 9, kind := .read, slice := 5, row := 0, lo := 4, len := 4, data := [], tag := 3, deadline := 0, lost := none }

/-- A pan of tiles 17 and 18, a group of both with a plan node at tile 17 below a root at tile 18, and contributions of its two children. -/
def pan2 : PanRec := { (default : PanRec) with id := 1, x0 := 1, x1 := 1, y0 := 1, y1 := 2, nodes := [0] }
def pn17 : PlanNode :=
  { (default : PlanNode) with pnode := 1, tile := 17, parent := 2, childIdx := 0
                              children := [{ member := true, index := 0 }, { member := true, index := 1 }] }
def pnTop : PlanNode :=
  { (default : PlanNode) with pnode := 2, tile := 18, root := true, children := [{ member := false, index := 1 }] }
def plan17 : Plan := { (default : Plan) with nodes := [pn17, pnTop], deputy := some (0, 17) }
def g17 : Group :=
  { (default : Group) with id := 2, pan := 1, nstr := 1, nmem := 2, acw := 0x8000, gtl := 100, cp := (0, 15), bd := (0, 255), ty := (0, 1)
                           plans := [plan17] }
def cuState : State :=
  { base with img := { base.img with act := { base.img.act with pans := [pan2], groups := [g17] } } }
def red17 (child : Nat) : Pkt :=
  { hdr := { h17 with type := 6, vc := 2, coll := 128, fmt := 8, child := BitVec.ofNat 8 child, ctag := 1, sig := 5 }, data := [1, 0, 0, 0] }
def head17 : Slot :=
  { (default : Slot) with state := 1, key := segKey (red17 0).hdr, sig := 5, next := 1, mask := 1, acw := 0x8000
                          acc := some { vals := [.int 7], payload := none, saf := {} } }
def small17 : CMsg :=
  { hdr := { (cm 6 0 []).hdr with plen := 20 }, data := bytesOf 16 (5 * 2 ^ 96 + 128 * 2 ^ 80 + 8 * 2 ^ 48 + 1 * 2 ^ 32 + 1 * 2 ^ 7) ++ [1, 0, 0, 0] }

/-- A barrier's descriptor of the group, a member's live all-reduce, the root's record and a control record of it, and what has left the
block: its last completion and its first fault. -/
def bar17 : Desc := { (default : Desc) with w0 := BitVec.ofNat 64 (3 * 2 ^ 60 + 4 * 2 ^ 57 + 2 * 2 ^ 47 + 8 * 2 ^ 43 + 0x8000), w1 := 7 }
def red0 : Desc := { bar17 with w0 := bar17.w0 - BitVec.ofNat 64 (4 * 2 ^ 57), w4 := BitVec.ofNat 64 (4 * 2 ^ 32) }
def live17 : CollM :=
  { (default : CollM) with coll := 128, group := 2, sig := 5, dst := 64, count := 1, ctag := 7, waiting := true, stopped := true }
def root17 : CollRoot := { (default : CollRoot) with coll := 128, sig := 5, group := 2, pan := 1 }
def ctl17 (k : Nat) (vc : BitVec 2) (data : List Byte) : Pkt :=
  { hdr := { h17 with type := 9, vc := vc, coll := 128, sig := 5, plen := 16, mseq := BitVec.ofNat 16 k }, data := data }

/-- A CAPS that agrees with link 2, a write to link 3's register at offset `o`, codewords of idle blocks, of a marker and
of one data block, and a locked lane that is logical lane 1. -/
def caps2 : KMsg := { ktype := 5, kseq := 4, data := (base.capsData 2).set 7 3 }
def linkWr (o v : Nat) : CMsg := cm 0xA 0 (bytesOf 16 ((0x400 + 3) * 2 ^ 113 + o / 4 * 2 ^ 103 + v))
def cw3 (n : Nat) : Codeword := { blocks := List.replicate 20 Block.idle, errs := (List.range n).map fun k => (k, 1) }
def cwMark3 (m : BitVec 32) : Codeword := { blocks := Block.marker m true 1 0 :: List.replicate 19 Block.idle, errs := [] }
def cwData3 : Codeword := { blocks := Block.data 5 :: List.replicate 19 Block.idle, errs := [] }
def lane3 : Lane := { Lane.init with rxst := 1, cwlock := true, llane := 1, two := false }

/-- Link 3 ACTIVE with its link layer changed; a frame of it; a frame kept for replay; and a re-send tile's tree beside the group's plan. -/
def act3 (f : LinkLayer → LinkLayer) : State := on3 fun l => { l with state := 5, ll := f l.ll }
def fr3 (ty fseq crvc ack : Nat) : Frame :=
  frameSeal { hdr := { (default : FHdr) with
                ftype := BitVec.ofNat 4 ty, fseq := BitVec.ofNat 10 fseq, crvc := BitVec.ofNat 3 crvc, crcnt := 5
                ackseq := BitVec.ofNat 10 ack, first := 1, last := 1, nblk := 1 }
              data := List.replicate 32 0 }
def rep3 : RepFrame := { frame := { (fr3 1 8 7 0) with hdr := { (fr3 1 8 7 0).hdr with last := 0 } }, item := default, at_ := 0 }
def relayState : State := cuState.modRo 17 fun r => { r with tree := [(4, 0xF0000001)] }

/-- The sections of a delta of pan 1 and of an empty full image, a stage or the full shadow READY with them, a pending switch, and a delta
as it loads: a header, one directory entry and a pan set. -/
def secs1 : Sections := { (default : Sections) with kind := 1, seq := 2, types := [0x15], panset := [1] }
def secs0 : Sections := { (default : Sections) with kind := 0, seq := 2 }
def staged (k : Nat) : State :=
  { (inPan.modPanWin 0 fun w => { w with arm := 16 }) with
    img := { inPan.img with targets := [(k, { (default : Target) with state := 2, secs := some secs1 })] } }
def fullReady : State := { inPan with img := { inPan.img with targets := [(0, { (default : Target) with state := 2, secs := some secs0 })] } }
def sw17 (id : SwId) (ts : Nat) : Switch := { id := id, ts := ts, d := 0, panset := [1], draining := false, win := 0 }
def withSw (w : Switch) : State := { inPan with img := { inPan.img with switches := [w] } }
def deltaOf (crc : Nat) : List Byte :=
  bytesOf 4 0x44525942 ++ [1, 0, 1, 1, 0, 0, 0, 0, 2, 0, 0, 0, 0, 0, 0, 0, 112, 0, 0, 0, 1, 0, 0, 0, 0, 0, 0, 0] ++ bytesOf 4 crc ++
  List.replicate 28 0 ++ [0x15, 0, 0, 0, 80, 0, 0, 0, 32, 0, 0, 0, 1, 0, 0, 0] ++ 2 :: List.replicate 31 0
def delta1 : List Word :=
  let bs := deltaOf (imgCrc (deltaOf 0))
  (List.range 28).map fun i => BitVec.ofNat 32 (leAt bs (4 * i) 4)
def loading1 : State :=
  { base with img := { base.img with targets := [(1, { (default : Target) with state := 1, len := 112, words := delta1 })] } }

/-- A FAULT message of class `c` from the CU of physical tile 0x22, a PENDING record of it, and the log with that record as its third. -/
def fm (c code : Nat) : CMsg := cm 0xC 0x4022 (bytesOf 16 (code * 2 ^ 112 + c * 2 ^ 110 + 5))
def rec3 : FltRec :=
  { (default : FltRec) with state := 1, cls := 1, code := 0x0402, count := 2, unit := 0x4022, due := some 400000 }
def logged (r : FltRec) : State := { base with flt := { base.flt with log := [(3, r)] } }

/-- The block with the harvest logic or the rake changed; a keeper HARVEST of kind `k` for tick 5000; trace set-up with sink `k`; a lane whose
comma lock stands. -/
def hrvd (f : Harvest → Harvest) : State := { base with hrv := f base.hrv }
def raked (f : Rake → Rake) : State := { base with rake := f base.rake }
def hm (k : Nat) : KMsg := floodMsg k 9 4 5120
def sinkTo (k : Nat) (s : State) : State := { s with img := { s.img with act := { s.img.act with trace := { s.img.act.trace with sink := k, size := 65536 } } } }
def rake1 (f : Rake → Rake) : State := raked fun r => f { r with state := 1, srcs := 127, trig := 31, armed := true }
def traced (f : Rake → Rake) : State :=
  { (sinkTo 2 (rake1 f)) with start := { base.start with trcPass := true } }
def trec (k : Nat) : TrRec := recBytes 5 0x03 uHrv 0 k 0 0

/-- The block with check unit 2 changed, held by window 0; one in a scan of 300 bytes with a READ outstanding. -/
def chk2 (f : Check → Check) : State := memState.modCheck 2 fun c => f { c with owner := some 0, p := 0x04C11DB7, i := 0xFFFFFFFF }
def scan2 : State :=
  chk2 fun c => { c with state := 2, next := 256, stop := 300, len := 300, issued := 1, reads := [{ tag := 0, addr := 0, got := none }] }

/-- The block with the arbiter changed, one that has evaluated under a budget, and a PWR message. -/
def pwrd (f : Power → Power) : State := { base with pwr := f base.pwr }
def evald : State :=
  pwrd fun p => { p with valid := true, budget := 4000, started := true, reqs := base.requesters.map fun id => (id, { (default : PwrReq) with grant := 9 }) }
def pm (v : Nat) (t : Nat) : CMsg :=
  { hdr := { (cm 0xD 0 []).hdr with plen := 16, dtile := BitVec.ofNat 9 t }, data := bytesOf 16 v }

/-- The block in start-up phase `k`; two fuse words with a good CRC and with a bad one; a REG_ANS and the access that waits for it; and a
window's rights. -/
def phased (k : Nat) : State := { base with start := { base.start with phase := k } }
def fuses2 (ok : Bool) : List Word := [7, if ok then crc32 (bytesOf 4 7) else crc32 (bytesOf 4 7) + 1]
def ans1 : CMsg := cm 0xB 0 (bytesOf 16 (0x4100A * 2 ^ 103 + 5 * 2 ^ 97 + 77))
def wait1 : RegWait := { win := 0, tag := 5, wofs := 0x4100A, wr := false, deadline := 0 }
def lined (l : List CtlSlot) : State := { base with ctrl := { base.ctrl with line := l } }
def pageAt (t o : Nat) : Nat := 0x100000 + 0x1000 * base.phys t + o
def regAt (k t o v : Nat) : CMsg := cm (BitVec.ofNat 4 k) 0 (bytesOf 16 ((0x100 + base.phys t) * 2 ^ 113 + o / 4 * 2 ^ 103 + v))

/-! ## Worked examples and tables of the spec -/

/-- The bytes of "123456789". -/
def digits : List Byte := [0x31, 0x32, 0x33, 0x34, 0x35, 0x36, 0x37, 0x38, 0x39]

/-- 18: unit 2 of the worked example is fed through the control port: the second and the third write wait while the unit is busy, and go on at
fc 4 and fc 8. -/
def feed9 : State :=
  let s0 := base.modCheck 2 fun c => { c with owner := some 0, p := 0x04C11DB7, v := 0xFFFFFFFF, x := 0xFFFFFFFF, refin := true, refout := true }
  let run (s : State) (r : Host.Outcome State Fault Refusal) : State := match r with | .next u => u | _ => s
  let s1 := run s0 (execChkData32 2 (rq 0x80130 0 0x34333231) s0)
  let s2 := run s1 (execChkData32 2 (rq 0x80130 0 0x38373635) s1)
  let s3 := run s2 (execChkData8 2 (rq 0x80128 0 0x39) s2)
  let on (k : Nat) (s : State) : State := State.ctlCycle { s with fc := k }
  on 8 (on 4 s3)

/-- 18, worked example: V after the feed, the result, and the nine fc that it takes. -/
theorem test_check_crc32 : (feed9.check 2).v = 0x9B63D02C ∧ (feed9.check 2).result = 0xCBF43926 ∧ (feed9.check 2).busy = 9 := by
  decide +kernel

/-- 18, worked example, unit 3: the keeper's CRC-16; R364: the CRC-32 of frames, as the check unit has it. -/
theorem test_crc16 : crc16 digits = 0x29B1 := by decide +kernel
theorem test_crc32 : crc32 digits = 0xCBF43926 := by decide +kernel

/-- 10, worked example: two granules. -/
theorem test_interleave : granuleMap 0x12345 = (71, 770) ∧ granuleMap 0x12346 = (68, 770) := by decide +kernel
theorem test_slice_tiles : sliceTile 71 = tileId 11 15 ∧ sliceTile 68 = tileId 10 15 ∧ subCh (tileId 11 8) 71 = 2 ∧ subCh (tileId 11 8) 68 = 7 := by
  decide +kernel

/-- 03, worked example: words 0 and 1 of a header. -/
def hPut : THdr :=
  { (default : THdr) with
      prio := 2, route := 1, stile := 0x72, snode := 0x011, pan := 5, dtile := 0x93, dnode := 0x013, type := 4, e2e := 1, last := 1,
      plen := 904, pcnt := 3, pidx := 2, mseq := 0x01A4 }
theorem test_header_words : thdrW0 hPut = 0x24E40220A9301310 ∧ thdrW1 hPut = 0x014E2000600201A4 := by decide +kernel
theorem test_header_bytes : (thdrBytes hPut).take 8 = [0x10, 0x13, 0x30, 0xA9, 0x20, 0x02, 0xE4, 0x24] := by decide +kernel

/-- R70: a maximum packet has 17 flits in HF-E and 9 in HF-S. -/
theorem test_max_flits : maxFlits .hfE = 17 ∧ maxFlits .hfS = 9 := by decide +kernel

/-- 06, worked examples: a stochastic draw, and a sum in carry mode and in data-format mode. -/
theorem test_draw : srDraw 0x0042 0x13 5 0x5A5A0001 = 0xF7E551 := by decide +kernel
theorem test_stochastic : (fmtOf [] 2).encode { mode := 2, strict := false, draw := 0xF7E551, wrap := false } ((fmtOf [] 0).decode 0x3F804000) =
    (0x3F81, {}) := by decide +kernel
def ctx (w : BitVec 16) : SegCtx := { (default : SegCtx) with acw := Acw.ofWord w }
def sum3 (w : BitVec 16) : List Byte × Saf :=
  let c := ctx w
  let a0 := c.fold none true none 3 [0x4D]
  let a1 := c.fold (some a0) true none 2 (bytesOf 2 0x3DCD)
  c.finish (c.fold (some a1) true none 1 (bytesOf 2 0xC0D5)) true 3
theorem test_sum_carry : (sum3 0x1010).1 = bytesOf 2 0x442F := by decide +kernel
theorem test_sum_format : (sum3 0x1000).1 = bytesOf 2 0x4430 := by decide +kernel
def wsum (w : BitVec 16) : List Byte × Saf :=
  let c := ctx w
  let term (a : Option Accum) (x : Nat) (k : Word) : Accum := c.fold a true (some k) 2 (bytesOf 2 x)
  let a0 := term none 0x3FC0 0x40000000
  let a1 := term (some a0) 0x7F7F 0x40800000
  let a2 := term (some a1) 0x7FC5 0x3F800000
  c.finish (term (some a2) 0xC000 0x3F000000) true 4
theorem test_dot_fast : (wsum 0x2300).1 = bytesOf 2 0x7FC0 ∧ (wsum 0x2300).2.byte = 0x50 := by decide +kernel
theorem test_dot_strict : (wsum 0x2320).1 = bytesOf 2 0x7FC5 ∧ (wsum 0x2320).2.byte = 0x15 := by decide +kernel

/-- 02, worked examples: an exchange, and one steering period. -/
theorem test_exchange : exchange 80000 80530 80600 80710 = (710, 210, 320) := by decide +kernel
theorem test_trim : newTrim 40 0 6 = (160, false) ∧ newTrim 3990 0 6 = (4000, true) := by decide +kernel

/-- 01, worked example: row 5 with the removed column 9. -/
def row9 : State := base.setRow 5 { (default : Row) with fuse := some 9, col := 9, src := 1 }
theorem test_row_map : row9.physX 8 5 = 8 ∧ row9.physX 9 5 = 10 ∧ row9.physX 9 6 = 9 ∧ row9.logical 9 5 = none := by decide +kernel
theorem test_stop_id : (row9.stopVal (tileId 9 5) 0x000).map (·.2) = some 0x04AA9400 := by decide +kernel

/-- 09, worked example: a message at the ring's end. -/
def ringAt (rd : Nat) : Queue := { (default : Queue) with state := 1, size := 8192, epoch := 3, rdOfs := rd, wrOfs := 7680 }
theorem test_ring_full : (ringAt 1024).place 1000 = none := by decide +kernel
theorem test_ring_pad : (ringAt 2048).place 1000 = some (some 7680, 0, true) := by decide +kernel
theorem test_ring_words : ringWord0 0 3 512 false 2 = 0x0000030002000002 ∧ ringWord0 0x01B0 3 1000 true 1 = 0x01B0030003E80011 := by decide +kernel

/-- 19, worked example: a pool of 600 shared by weight. -/
def shares : List Share :=
  [{ id := 0, f := 0, e := 300, w := 16, x := 0 }, { id := 1, f := 0, e := 100, w := 16, x := 0 },
   { id := 2, f := 0, e := 400, w := 8, x := 0 }, { id := 3, f := 0, e := 200, w := 0, x := 0 }]
theorem test_pool : (allocRounds 4 shares 600).map (·.x) = [300, 100, 200, 0] := by decide +kernel
theorem test_ramp : (rise [] none 160 [(0, 300), (1, 100), (2, 200)]).1 = [(0, 160)] := by decide +kernel

/-- R332, R333, R335: Gray levels, a marker's fields, and the taps of 1 + x^39 + x^58 for a line whose 39th last bit was 1. -/
theorem test_levels : levelsOf [false, false, false, true, true, true, true, false] = [0, 1, 2, 3] := by decide +kernel
theorem test_marker : Block.marker 0x100 true 1 2 = Block.control 0x100164D ∧ (Block.control 0x100164D).markerOf = some (0x100, true, 1, 2) := by
  decide +kernel
theorem test_scrambler : (scramble 0 20 0 (1 <<< 38) 0).1 = 1 + 2 ^ 19 := by decide +kernel

/-- R598: the payload of a REG_RD. -/
theorem test_reg_request : regReqBytes { win := 3, tag := 5, wofs := 0x6A842, wdata := 0 } =
    bytesOf 16 (3 * 2 ^ 125 + 0x6A842 * 2 ^ 103 + 5 * 2 ^ 97) := by decide +kernel

/-- R595: a request for a page that has no unit is ABSENT. -/
theorem test_absent : ∃ u, execRegisterRead (rq 0xB0000 0 0) base = .next u ∧ u.out = [.reply (base.replyWord 0 5 rAbsent 0)] := ⟨_, rfl, by decide +kernel⟩

/-! ## Ill-formed commands, each refused by its check -/

theorem test_wf_tile : Instr.wellFormed .hfE (.siInject 384) = false ∧ Instr.wellFormed .hfS (.siInject 256) = false := by decide +kernel
theorem test_wf_port : Instr.wellFormed .hfE (.outputCycle 17 9) = false := by decide +kernel
theorem test_wf_vc : Instr.wellFormed .hfE (.creditReturn 17 1 4) = false := by decide +kernel
theorem test_wf_flit : Instr.wellFormed .hfE (.tFlitArrive 17 1 { vc := 0, head := true, tail := true, kill := false, data := [] } .ok) = false := by
  decide +kernel
theorem test_wf_cflit : Instr.wellFormed .hfE (.cFlitArrive 17 1 { vc := 0, head := true, tail := true, data := [1] } .ok) = false := by decide +kernel
theorem test_wf_packet : Instr.wellFormed .hfE (.putArrive 17 { hdr := { h17 with plen := 5 }, data := [1] }) = false := by decide +kernel
theorem test_wf_message : Instr.wellFormed .hfE (.stopPrioWrite 17 { hdr := (cm 1 0 []).hdr, data := [1] }) = false := by decide +kernel
theorem test_wf_keeper : Instr.wellFormed .hfE (.tidePingReceived 3 { ktype := 9, kseq := 0, data := [1] }) = false := by decide +kernel
theorem test_wf_link : Instr.wellFormed .hfE (.tideBurstComplete 64) = false ∧ Instr.wellFormed .hfS (.tideBurstComplete 256) = false := by
  decide +kernel
theorem test_wf_lane : Instr.wellFormed .hfE (.codewordReceived 3 3 (cw3 0) false) = false := by decide +kernel
theorem test_wf_frame : Instr.wellFormed .hfE (.frameTdataReceived 3 { (default : Frame) with data := [1] } false) = false := by decide +kernel
theorem test_wf_slice : Instr.wellFormed .hfE (.sliceRequestPresent 96) = false ∧ Instr.wellFormed .hfS (.sliceRequestPresent 0) = false := by
  decide +kernel
theorem test_wf_port_request : Instr.wellFormed .hfE (.mpRead 17 { addr := 0, len := 257, tag := 0, data := [] }) = false := by decide +kernel
theorem test_wf_row : Instr.wellFormed .hfE (.rowRemapDrained 16) = false := by decide +kernel
theorem test_wf_quadrant : Instr.wellFormed .hfE (.quadrantPhaseLost 4 0) = false := by decide +kernel
theorem test_wf_path : Instr.wellFormed .hfE (.crossingTimeout (.linkRx 64) 0 true) = false := by decide +kernel
theorem test_wf_switch : Instr.wellFormed .hfE (.panDrainStart (.stage 4)) = false ∧ Instr.wellFormed .hfE (.panDrainStart (.reset 256)) = false := by
  decide +kernel
theorem test_wf_queue : Instr.wellFormed .hfE (.queueOpen 17 32 (.msg 0)) = false ∧
    Instr.wellFormed .hfE (.queueOpen 17 3 (.host 8 (regWr 0 0))) = false := by decide +kernel
theorem test_wf_plane : Instr.wellFormed .hfE (.answerTimeout 17 3 0) = false := by decide +kernel
theorem test_wf_mplane : Instr.wellFormed .hfE (.fenceComplete 17) = true ∧ Instr.wellFormed .hfS (.fenceComplete 17) = false := by decide +kernel
theorem test_wf_errors : codeWf { (cw3 0) with errs := [(544, 1)] } = false := by decide +kernel
theorem test_wf_unit : Instr.wellFormed .hfE (.chkClaim 8 (rq 0 0 0)) = false := by decide +kernel
theorem test_wf_place : Instr.wellFormed .hfE (.regRdReceived (.link 64) ans1) = false := by decide +kernel
theorem test_wf_codeword : Instr.wellFormed .hfE (.traceCodewordSlot (some [1])) = false := by decide +kernel
theorem test_wf_entry : Instr.wellFormed .hfE (.escalationExpire 64) = false := by decide +kernel

/-! ## States and operands that meet the hypotheses of the statements -/

/-- A queue with one command, and the well-formedness of it: the hypothesis of EveryStepKeepsTheInvariant. -/
theorem meets_EveryStepKeepsTheInvariant : ∃ s : State, s.Inv ∧ s.pending = [.siInject 17] :=
  ⟨{ base with pending := [.siInject 17] }, by unfold State.Inv State.queueWf Tide.inRange; decide +kernel, rfl⟩
theorem meets_StepRunsTheFrontCommand : ∃ s : State, s.pending = [] := ⟨base, rfl⟩
theorem meets_HeadersSurviveTheirBits :
    (∃ p : Pkt, p.data.length = p.hdr.plen.toNat) ∧ (∃ m : CMsg, m.data.length = m.hdr.plen.toNat) :=
  ⟨⟨pk 4 0 [1, 2, 3], by decide +kernel⟩, ⟨regWr 0x300 5, by decide +kernel⟩⟩

/-- States and operands that meet the hypotheses of TideCountMovesAndReads, clause by clause. -/
theorem meets_TideCountMovesAndReads :
    (∃ (s : State), s.clocked = true ∧ s.tide.loadPend = false) ∧
    (∃ (s : State), s.clocked = true ∧ s.tide.loadPend = true) ∧
    (∃ (s : State), s.clocked = true ∧ s.nothingWaits) ∧
    (∃ (s : State), s.clocked = true ∧ s.tide.loadPend = true) ∧
    (∃ (q : Req) (s : State), s.serves 0x10000 q) ∧
    (∃ (q : Req) (s : State), s.serves 0x10020 q) ∧
    (∃ (q : Req) (s : State), s.serves 0x10004 q) :=
  ⟨⟨(base), by decide +kernel⟩,
    ⟨({ base with tide := { base.tide with loadPend := true, load := 77 } }), by decide +kernel⟩,
    ⟨(base), by unfold State.nothingWaits; decide +kernel⟩,
    ⟨({ base with tide := { base.tide with loadPend := true, load := 77 } }), by decide +kernel⟩,
    ⟨(rq 0x10000 1 0), ({ base with tide := { base.tide with count := 0x1234567812345678 } }), by unfold State.serves; decide +kernel⟩,
    ⟨(rq 0x10020 1 0), ({ base with tide := { base.tide with step := -5 } }), by unfold State.serves; decide +kernel⟩,
    ⟨(rq 0x10004 1 0), ({ base with tide := { base.tide with nowHi := [(1, 9)] } }), by unfold State.serves; decide +kernel⟩⟩

/-- States and operands that meet the hypotheses of TideBurstExchanges, clause by clause. -/
theorem meets_TideBurstExchanges :
    (∃ (n : Nat) (k : KMsg) (s : State), s.linkRuns n ∧ k.ktype = 0x09) ∧
    (∃ (n : Nat) (k : KMsg) (s : State) (b : Burst) (c1 : BitVec 64), s.linkRuns n ∧ k.ktype = 0x0A ∧ (nth 0 k.data 17).toNat ≤ 3 ∧ s.tide.burst.get? n = some b ∧ b.c1.get? (nth 0 k.data 16).toNat = some c1) ∧
    (∃ (n : Nat) (s : State) (b : Burst), s.linkRuns n ∧ s.tide.burst.get? n = some b ∧ b.sent < 8 ∧ b.next ≤ s.fc) ∧
    (∃ (n : Nat) (s : State) (b : Burst) (r : Int) (o : Int) (d : Int), s.linkRuns n ∧ s.tide.burst.get? n = some b ∧ b.use = .measure ∧ b.done = 8 ∧ b.best = some (r, o, d)) ∧
    (∃ (n : Nat) (s : State) (b : Burst) (r : Int) (o : Int) (d : Int), s.linkRuns n ∧ s.tide.burst.get? n = some b ∧ b.use = .align ∧ b.done = 8 ∧ b.best = some (r, o, d) ∧ s.tide.child = true ∧ s.tide.state = 1 ∧ s.tide.alignOn = some n ∧ (Tab.get (0, 0) s.tide.heard n).1 ≤ 3 ∧ (Tab.get (0, 0) s.tide.heard n).2.natAbs ≤ 8) :=
  ⟨⟨(3), ({ ktype := 0x09, kseq := 4, data := [2, 0, 0, 0] }), (base), by unfold State.linkRuns; decide +kernel⟩,
    ⟨(3), ({ ktype := 0x0A, kseq := 4, data := bytesOf 8 100 ++ bytesOf 8 120 ++ [2, 1] ++ bytesOf 8 5 }), ({ base with tide := { base.tide with burst := [(3, ({ use := .steer, sent := 3, done := 2, c1 := [(2, 7), (1, 5)], best := none, next := 0 }))] } }), ({ use := .steer, sent := 3, done := 2, c1 := [(2, 7), (1, 5)], best := none, next := 0 }), (7), by unfold State.linkRuns; decide +kernel⟩,
    ⟨(3), ({ base with tide := { base.tide with burst := [(3, ({ use := .steer, sent := 3, done := 2, c1 := [], best := none, next := 0 }))] } }), ({ use := .steer, sent := 3, done := 2, c1 := [], best := none, next := 0 }), by unfold State.linkRuns; decide +kernel⟩,
    ⟨(3), ({ base with tide := { base.tide with burst := [(3, ({ use := .measure, sent := 8, done := 8, c1 := [], best := some (5, -7, 9), next := 0 }))] } }), ({ use := .measure, sent := 8, done := 8, c1 := [], best := some (5, -7, 9), next := 0 }), (5), (-7), (9), by unfold State.linkRuns; decide +kernel⟩,
    ⟨(3), ({ base with tide := { base.tide with burst := [(3, ({ use := .align, sent := 8, done := 8, c1 := [], best := some (5, 210, 9), next := 0 }))], state := 1, alignOn := some 3, heard := [(3, (3, -8))], cfg := { base.tide.cfg with enable := true, parent := 3 } } }), ({ use := .align, sent := 8, done := 8, c1 := [], best := some (5, 210, 9), next := 0 }), (5), (210), (9), by unfold State.linkRuns; decide +kernel⟩⟩

/-- States and operands that meet the hypotheses of TideSteers, clause by clause. -/
theorem meets_TideSteers :
    (∃ (s : State) (d : Nat), s.ready = true ∧ s.tide.steerDue = some d ∧ d ≤ s.fc ∧ s.tide.state = 2 ∧ s.tide.child = true) ∧
    (∃ (n : Nat) (s : State) (b : Burst) (r : Int) (o : Int) (d : Int), s.linkRuns n ∧ s.tide.burst.get? n = some b ∧ b.use = .steer ∧ b.done = 8 ∧ b.best = some (r, o, d) ∧ s.tide.child = true ∧ s.tide.state = 2 ∧ n = s.tideLink ∧ ((Tab.get (0, 0) s.tide.heard n).2 + o).natAbs ≤ 8) ∧
    (∃ (n : Nat) (s : State) (b : Burst) (r : Int) (o : Int) (d : Int), s.linkRuns n ∧ s.tide.burst.get? n = some b ∧ b.use = .steer ∧ b.done = 8 ∧ b.best = some (r, o, d) ∧ s.tide.child = true ∧ s.tide.state = 2 ∧ n = s.tideLink ∧ 8 < ((Tab.get (0, 0) s.tide.heard n).2 + o).natAbs) :=
  ⟨⟨({ base with tide := { base.tide with state := 2, steerDue := some 0, cfg := { base.tide.cfg with enable := true, parent := 3 } } }), (0), by decide +kernel⟩,
    ⟨(3), ({ base with tide := { base.tide with burst := [(3, ({ use := .steer, sent := 8, done := 8, c1 := [], best := some (5, -7, 9), next := 0 }))], trim := -3990, state := 2, cfg := { base.tide.cfg with enable := true, parent := 3 } } }), ({ use := .steer, sent := 8, done := 8, c1 := [], best := some (5, -7, 9), next := 0 }), (5), (-7), (9), by unfold State.linkRuns; decide +kernel⟩,
    ⟨(3), ({ base with tide := { base.tide with burst := [(3, ({ use := .steer, sent := 8, done := 8, c1 := [], best := some (5, -9, 9), next := 0 }))], state := 2, cfg := { base.tide.cfg with enable := true, parent := 3 } } }), ({ use := .steer, sent := 8, done := 8, c1 := [], best := some (5, -9, 9), next := 0 }), (5), (-9), (9), by unfold State.linkRuns; decide +kernel⟩⟩

/-- States and operands that meet the hypotheses of TideHoldover, clause by clause. -/
theorem meets_TideHoldover :
    (∃ (s : State), s.ready = true ∧ s.tide.state = 2 ∧ s.tide.child = true ∧ s.keeperUp s.tideLink = false) ∧
    (∃ (s : State) (d : Nat), s.ready = true ∧ s.tide.holdDue = some d ∧ d ≤ s.fc ∧ s.tide.state = 3 ∧ s.tide.child = true) ∧
    (∃ (n : Nat) (s : State), s.linkRuns n ∧ s.tide.awaits n = true ∧ (s.link n).state = 5) ∧
    (∃ (n : Nat) (s : State) (b : Burst) (r : Int) (o : Int) (d : Int), s.linkRuns n ∧ s.tide.burst.get? n = some b ∧ b.use = .rejoin ∧ b.done = 8 ∧ b.best = some (r, o, d) ∧ s.tide.child = true ∧ s.tide.state = 3 ∧ s.tide.far = false ∧ o.natAbs ≤ 8 ∧ (Tab.get (0, 0) s.tide.heard n).1 ≤ 3 ∧ ((Tab.get (0, 0) s.tide.heard n).2 + o).natAbs ≤ 8) ∧
    (∃ (s : State) (d : Nat), s.ready = true ∧ s.tide.alignDue = some d ∧ d ≤ s.fc ∧ s.tide.state = 1 ∧ s.tide.child = true ∧ s.tide.cfg.backupVld = true ∧ s.tide.alignOn ≠ some s.tide.cfg.backup.toNat) ∧
    (∃ (s : State) (d : Nat), s.ready = true ∧ s.tide.alignDue = some d ∧ d ≤ s.fc ∧ s.tide.state = 1 ∧ s.tide.child = true ∧ s.tide.cfg.backupVld = false) :=
  ⟨⟨({ (base.modLink 4 fun l => { l with state := 5 }) with tide := { base.tide with state := 2, cfg := { base.tide.cfg with enable := true, parent := 3, backup := 4, backupVld := true } } }), by decide +kernel⟩,
    ⟨({ base with tide := { base.tide with state := 3, holdDue := some 0, cfg := { base.tide.cfg with enable := true } } }), (0), by decide +kernel⟩,
    ⟨(3), ({ (base.modLink 3 fun l => { l with state := 5 }) with tide := { base.tide with state := 3, cfg := { base.tide.cfg with enable := true, parent := 3 } } }), by unfold State.linkRuns; decide +kernel⟩,
    ⟨(3), ({ base with tide := { base.tide with burst := [(3, ({ use := .rejoin, sent := 8, done := 8, c1 := [], best := some (5, -8, 9), next := 0 }))], state := 3, holdDue := some 9, heard := [(3, (3, 0))], cfg := { base.tide.cfg with enable := true, parent := 3 } } }), ({ use := .rejoin, sent := 8, done := 8, c1 := [], best := some (5, -8, 9), next := 0 }), (5), (-8), (9), by unfold State.linkRuns; decide +kernel⟩,
    ⟨({ base with tide := { base.tide with state := 1, alignDue := some 0, alignOn := some 3, cfg := { base.tide.cfg with enable := true, parent := 3, backup := 4, backupVld := true } } }), (0), by decide +kernel⟩,
    ⟨({ base with tide := { base.tide with state := 1, alignDue := some 0, alignOn := some 3, cfg := { base.tide.cfg with enable := true, parent := 3 } } }), (0), by decide +kernel⟩⟩

/-- States and operands that meet the hypotheses of TideRegisters, clause by clause. -/
theorem meets_TideRegisters :
    (∃ (q : Req) (s : State), s.serves 0x1001C q ∧ q.win = 0 ∧ (q.wdata.extractLsb' 16 8) ≠ 0) ∧
    (∃ (q : Req) (s : State), s.serves 0x1001C q ∧ q.win = 0 ∧ (q.wdata.extractLsb' 16 8) = 0) ∧
    (∃ (q : Req) (s : State), s.serves 0x1001C q ∧ q.win ≠ 0) ∧
    (∃ (q : Req) (s : State), s.serves 0x1000C q ∧ q.win = 0 ∧ q.wdata.getLsbD 0 = true ∧ s.scheduled = false ∧ s.xchipActive = false ∧ s.tide.child = true) ∧
    (∃ (q : Req) (s : State), s.serves 0x1000C q ∧ q.win = 0 ∧ q.wdata.getLsbD 0 = true ∧ ((s.scheduled = true ∨ s.xchipActive = true))) ∧
    (∃ (q : Req) (s : State), s.serves 0x1000C q ∧ q.win ≠ 0 ∧ q.wdata.getLsbD 0 = true) ∧
    (∃ (q : Req) (s : State), s.serves 0x1000C q ∧ q.win = 0 ∧ q.wdata.getLsbD 1 = true ∧ ((q.wdata.getLsbD 0 = true → s.scheduled = false ∧ s.xchipActive = false))) ∧
    (∃ (q : Req) (s : State), s.serves 0x1000C q ∧ q.win ≠ 0 ∧ q.wdata.getLsbD 1 = true) ∧
    (∃ (q : Req) (s : State), s.serves 0x10008 q ∧ q.win = 0 ∧ q.wdata.getLsbD 7 = true) ∧
    (∃ (q : Req) (s : State), s.serves 0x10008 q ∧ q.win ≠ 0 ∧ q.wdata.getLsbD 7 = true) :=
  ⟨⟨(rq 0x1001C 0 0xC0050004), (base), by unfold State.serves; decide +kernel⟩,
    ⟨(rq 0x1001C 0 0xC0000004), (base), by unfold State.serves; decide +kernel⟩,
    ⟨(rq 0x1001C 2 0xC0050004), (base), by unfold State.serves; decide +kernel⟩,
    ⟨(rq 0x1000C 0 3), ({ (base.modLink 3 fun l => { l with state := 5 }) with tide := { base.tide with state := 2, cfg := { base.tide.cfg with enable := true, parent := 3 } } }), by unfold State.serves; decide +kernel⟩,
    ⟨(rq 0x1000C 0 1), ({ base with slotPend := [(64, true)] }), by unfold State.serves; decide +kernel⟩,
    ⟨(rq 0x1000C 2 1), (base), by unfold State.serves; decide +kernel⟩,
    ⟨(rq 0x1000C 0 2), (base.modLink 3 fun l => { l with state := 5 }), by unfold State.serves; decide +kernel⟩,
    ⟨(rq 0x1000C 2 2), (base), by unfold State.serves; decide +kernel⟩,
    ⟨(rq 0x10008 0 0x80), ({ base with tide := { base.tide with oob := true, suspended := true, accErr := 4 } }), by unfold State.serves; decide +kernel⟩,
    ⟨(rq 0x10008 2 0x80), (base), by unfold State.serves; decide +kernel⟩⟩

/-- States and operands that meet the hypotheses of RouterTakesFlits, clause by clause. -/
theorem meets_RouterTakesFlits :
    (∃ (t : Nat) (port : Nat) (l : List Nat) (f : Flit) (s : State), s.stopRuns t ∧ portOk s.build t port = true ∧ f.head = true ∧ f.kill = false ∧ ((s.stop t).rt.buf port f.vc.toNat).disc = false ∧ (s.atEntry t port (thdrOfBytes f.data)).fate t port (thdrOfBytes f.data) = .choose l) ∧
    (∃ (t : Nat) (port : Nat) (l : List Nat) (f : Flit) (s : State), s.stopRuns t ∧ portOk s.build t port = true ∧ f.head = true ∧ f.kill = false ∧ ((s.stop t).rt.buf port f.vc.toNat).disc = false ∧ (s.atEntry t port (thdrOfBytes f.data)).fate t port (thdrOfBytes f.data) = .fork l ∧ l ≠ [] ∧ s.liveBranches t l = l ∧ (s.atEntry t port (thdrOfBytes f.data)).enterDie t port (thdrOfBytes f.data) = (s.atEntry t port (thdrOfBytes f.data), true)) ∧
    (∃ (t : Nat) (port : Nat) (code : Nat) (f : Flit) (s : State), s.stopRuns t ∧ portOk s.build t port = true ∧ f.head = true ∧ f.kill = false ∧ ((s.stop t).rt.buf port f.vc.toNat).disc = false ∧ (s.atEntry t port (thdrOfBytes f.data)).fate t port (thdrOfBytes f.data) = .drop code none ∧ ((code = 0x0303 ∨ code = 0x0307 ∨ code = 0x0309))) ∧
    (∃ (t : Nat) (port : Nat) (f : Flit) (s : State) (p : BufPkt) (ps : List BufPkt), s.stopRuns t ∧ portOk s.build t port = true ∧ f.head = false ∧ f.kill = false ∧ (s.stop t).rt.buf port f.vc.toNat = { pkts := ps ++ [p], disc := false } ∧ (p.got.getLast?.map (·.tail)).getD false = false) ∧
    (∃ (t : Nat) (port : Nat) (f : Flit) (s : State) (p : BufPkt) (ps : List BufPkt), s.stopRuns t ∧ portOk s.build t port = true ∧ f.head = false ∧ f.kill = false ∧ (s.stop t).rt.buf port f.vc.toNat = { pkts := ps ++ [p], disc := false } ∧ (p.got.getLast?.map (·.tail)).getD false = false) ∧
    (∃ (t : Nat) (port : Nat) (f : Flit) (s : State), s.stopRuns t ∧ portOk s.build t port = true ∧ (f.head && f.kill && !f.tail) = false ∧ ((s.stop t).rt.buf port f.vc.toNat).disc = true) ∧
    (∃ (t : Nat) (port : Nat) (f : Flit) (s : State), s.stopRuns t ∧ portOk s.build t port = true ∧ f.head = true ∧ (f.kill && !f.tail) = false ∧ ((s.stop t).rt.buf port f.vc.toNat).disc = false) ∧
    (∃ (t : Nat) (port : Nat) (vc : Nat) (s : State), s.stopRuns t ∧ portOk s.build t port = true) :=
  ⟨⟨(17), (0), ([4]), ({ vc := 0, head := true, tail := false, kill := false, data := thdrBytes { h17 with type := 4, vc := 0 } }), (inPan), by unfold State.stopRuns; decide +kernel⟩,
    ⟨(17), (0), ([4]), ({ vc := 3, head := true, tail := false, kill := false, data := thdrBytes { h17 with type := 8, vc := 3, dmode := 1, w6 := rect17 } }), (inPan), by unfold State.stopRuns; decide +kernel⟩,
    ⟨(17), (0), (0x0303), ({ vc := 0, head := true, tail := false, kill := false, data := thdrBytes { h17 with type := 15, vc := 0 } }), (inPan), by unfold State.stopRuns; decide +kernel⟩,
    ⟨(17), (0), ({ vc := 0, head := false, tail := true, kill := false, data := [1] }), (rt17 fun r => { r with bufs := [(0, { pkts := [({ (default : BufPkt) with hdr := h17, total := 2, got := [{ vc := 0, head := true, tail := false, kill := false, data := [] }], branches := [{ port := 4, sent := 0, won := false }] })], disc := false })] }), ({ (default : BufPkt) with hdr := h17, total := 2, got := [{ vc := 0, head := true, tail := false, kill := false, data := [] }], branches := [{ port := 4, sent := 0, won := false }] }), ([]), by unfold State.stopRuns; decide +kernel⟩,
    ⟨(17), (0), ({ vc := 0, head := false, tail := true, kill := false, data := [1] }), (rt17 fun r => { r with bufs := [(0, { pkts := [({ (default : BufPkt) with hdr := h17, total := 2, got := [{ vc := 0, head := true, tail := false, kill := false, data := [] }], branches := [{ port := 4, sent := 0, won := false }] })], disc := false })] }), ({ (default : BufPkt) with hdr := h17, total := 2, got := [{ vc := 0, head := true, tail := false, kill := false, data := [] }], branches := [{ port := 4, sent := 0, won := false }] }), ([]), by unfold State.stopRuns; decide +kernel⟩,
    ⟨(17), (0), ({ vc := 0, head := false, tail := true, kill := false, data := [1] }), (rt17 fun r => { r with bufs := [(0, { pkts := [], disc := true })] }), by unfold State.stopRuns; decide +kernel⟩,
    ⟨(17), (0), ({ vc := 0, head := true, tail := false, kill := false, data := [1] }), (inPan), by unfold State.stopRuns; decide +kernel⟩,
    ⟨(17), (0), (2), (rt17 fun r => { r with outs := [(0, { OutPort.init with used := [(2, 5)] })] }), by unfold State.stopRuns; decide +kernel⟩⟩

/-- States and operands that meet the hypotheses of OutputCycleGrantsAndSends, clause by clause. -/
theorem meets_OutputCycleGrantsAndSends :
    (∃ (t : Nat) (o : Nat) (s : State), s.stopRuns t ∧ portOk s.build t o = true ∧ s.ringIdle t ∧ s.expireSkid t = s ∧ seKind (s.entry t o s.slotIndex) ≠ 1 ∧ ((s.stop t).rt.outp o).holder = none ∧ s.candidates t o ≠ []) ∧
    (∃ (t : Nat) (o : Nat) (i : Nat) (p : BufPkt) (b : Branch) (f : Flit) (s : State), s.stopRuns t ∧ portOk s.build t o = true ∧ o < 5 ∧ s.ringIdle t ∧ s.expireSkid t = s ∧ seKind (s.entry t o s.slotIndex) ≠ 1 ∧ ((s.stop t).rt.outp o).holder = some i ∧ ((s.stop t).rt.buf (i / 4) (i % 4)).pkts.head? = some p ∧ p.branches.find? (fun b => b.port == o && b.won) = some b ∧ p.got[b.sent]? = some f ∧ ((b.sent = 0 → ((s.stop t).rt.outp o).headAt ≤ s.ft))) ∧
    (∃ (t : Nat) (o : Nat) (p : Nat) (x : SkidFlit) (s : State), s.stopRuns t ∧ portOk s.build t o = true ∧ o < 4 ∧ s.ringIdle t ∧ s.expireSkid t = s ∧ seKind (s.entry t o s.slotIndex) = 1 ∧ s.ceased t o (s.entry t o s.slotIndex) = false ∧ slotPort s.build t (seIn (s.entry t o s.slotIndex)) = some p ∧ p < 4 ∧ (Tab.get [] (s.stop t).rt.skid p).find? (fun y => y.cid == seCid (s.entry t o s.slotIndex) && y.due == s.ft) = some x) :=
  ⟨⟨(17), (1), (rt17 fun r => { r with bufs := [(12, { pkts := [{ (default : BufPkt) with hdr := h17, total := 2, got := [{ vc := 0, head := true, tail := false, kill := false, data := [] }], branches := [{ port := 1, sent := 0, won := false }] }], disc := false })] }), by exact ⟨by unfold State.stopRuns; decide +kernel, by decide +kernel, by unfold State.ringIdle; intro n hn; exact (nomatch (show n ∈ ([] : List Nat) from hn)), by decide +kernel⟩⟩,
    ⟨(17), (1), (3 * 4), ({ (default : BufPkt) with hdr := h17, total := 2, got := [({ vc := 0, head := true, tail := true, kill := false, data := [] })], branches := [({ port := 1, sent := 0, won := true })] }), ({ port := 1, sent := 0, won := true }), ({ vc := 0, head := true, tail := true, kill := false, data := [] }), (rt17 fun r => { r with bufs := [(12, { pkts := [({ (default : BufPkt) with hdr := h17, total := 2, got := [({ vc := 0, head := true, tail := true, kill := false, data := [] })], branches := [({ port := 1, sent := 0, won := true })] })], disc := false })], outs := [(1, { OutPort.init with holder := some 12, used := [(0, 2)] })] }), by exact ⟨by unfold State.stopRuns; decide +kernel, by decide +kernel, by decide +kernel, by unfold State.ringIdle; intro n hn; exact (nomatch (show n ∈ ([] : List Nat) from hn)), by decide +kernel⟩⟩,
    ⟨(17), (1), (3), ({ cid := 5, flit := { vc := 0, head := true, tail := false, kill := true, data := [1] }, due := 0 }), (rt17 fun r => { r with skid := [(3, [({ cid := 5, flit := { vc := 0, head := true, tail := false, kill := true, data := [1] }, due := 0 })])], outs := [(1, { OutPort.init with bank0 := { tmap := 0, entries := [(0, 0x46000005)] } })] }), by exact ⟨by unfold State.stopRuns; decide +kernel, by decide +kernel, by decide +kernel, by unfold State.ringIdle; intro n hn; exact (nomatch (show n ∈ ([] : List Nat) from hn)), by decide +kernel⟩⟩⟩

/-- States and operands that meet the hypotheses of SlotsAndCircuits, clause by clause. -/
theorem meets_SlotsAndCircuits :
    (∃ (t : Nat) (port : Nat) (f : Flit) (e : Ecc) (s : State), s.stopRuns t ∧ portOk s.build t port = true ∧ s.expireSkid t = s ∧ s.recvMap t port s.slotIndex = none) ∧
    (∃ (t : Nat) (port : Nat) (cid : Nat) (f : Flit) (s : State), s.stopRuns t ∧ portOk s.build t port = true ∧ s.expireSkid t = s ∧ s.recvMap t port s.slotIndex = some cid ∧ (s.stop t).rt.ceasedPorts.contains port = false ∧ (s.stop t).rt.cdisc.contains cid = false ∧ (Tab.get [] (s.stop t).rt.skid port).length < 2) ∧
    (∃ (t : Nat) (port : Nat) (cid : Nat) (f : Flit) (s : State), s.stopRuns t ∧ portOk s.build t port = true ∧ s.expireSkid t = s ∧ s.recvMap t port s.slotIndex = some cid) ∧
    (∃ (q : Req) (s : State), s.serves 0x48 q ∧ q.win = 0 ∧ s.hrv.state < 2 ∧ q.wdata.getLsbD 0 = true ∧ s.ctrl.slotAt.toNat % 64 = 0 ∧ s.now + 16 ≤ s.ctrl.slotAt.toNat ∧ s.swapComing = false) ∧
    (∃ (q : Req) (s : State), s.serves 0x48 q ∧ q.win = 0 ∧ s.hrv.state < 2 ∧ q.wdata.getLsbD 0 = true ∧ s.ctrl.slotAt.toNat % 64 ≠ 0) ∧
    (∃ (q : Req) (s : State), s.serves 0x48 q ∧ q.win = 0 ∧ s.hrv.state < 2 ∧ q.wdata.getLsbD 0 = true ∧ s.ctrl.slotAt.toNat % 64 = 0 ∧ s.ctrl.slotAt.toNat < s.now + 16) ∧
    (∃ (q : Req) (s : State), s.serves 0x48 q ∧ q.win = 0 ∧ s.hrv.state < 2 ∧ q.wdata.getLsbD 0 = true ∧ s.ctrl.slotAt.toNat % 64 = 0 ∧ s.now + 16 ≤ s.ctrl.slotAt.toNat ∧ s.swapComing = true) ∧
    (∃ (q : Req) (s : State) (k : Nat), s.serves 0x48 q ∧ q.win = 0 ∧ s.hrv.state < 2 ∧ q.wdata.getLsbD 0 = false ∧ q.wdata.getLsbD 1 = true ∧ s.slotPend = [(k, true)] ∧ s.now + 16 ≤ k) ∧
    (∃ (s : State) (k : Nat) (a : Bool), s.running = true ∧ (k, a) ∈ s.slotPend ∧ k ≤ s.now ∧ s.now < k + 64 ∧ s.now % 64 = 0 ∧ s.tide.phase = 0) :=
  ⟨⟨(17), (0), ({ vc := 0, head := true, tail := false, kill := false, data := [1] }), (.bad), (inPan), by unfold State.stopRuns; decide +kernel⟩,
    ⟨(17), (0), (5), ({ vc := 0, head := true, tail := false, kill := false, data := [1] }), (inPan.modRt 16 fun r => { r with outs := [(2, { OutPort.init with bank0 := { tmap := 0, entries := [(255, 0x42000005), (254, 0x42000005), (253, 0x42000005), (0, 0x42000005), (1, 0x42000005)] } })] }), by unfold State.stopRuns; decide +kernel⟩,
    ⟨(17), (0), (5), ({ vc := 0, head := true, tail := false, kill := false, data := [1] }), (inPan.modRt 16 fun r => { r with outs := [(2, { OutPort.init with bank0 := { tmap := 0, entries := [(255, 0x42000005), (254, 0x42000005), (253, 0x42000005), (0, 0x42000005), (1, 0x42000005)] } })] }), by unfold State.stopRuns; decide +kernel⟩,
    ⟨(rq 0x48 0 1), ({ base with ctrl := { base.ctrl with slotAt := 128 } }), by unfold State.serves; decide +kernel⟩,
    ⟨(rq 0x48 0 1), ({ base with ctrl := { base.ctrl with slotAt := 100 } }), by unfold State.serves; decide +kernel⟩,
    ⟨(rq 0x48 0 1), (base), by unfold State.serves; decide +kernel⟩,
    ⟨(rq 0x48 0 1), ({ base with ctrl := { base.ctrl with slotAt := 128 }, slotPend := [(64, true)] }), by unfold State.serves; decide +kernel⟩,
    ⟨(rq 0x48 0 2), ({ base with slotPend := [(128, true)] }), (128), by unfold State.serves; decide +kernel⟩,
    ⟨({ base with slotPend := [(0, true), (64, false)] }), (0), (true), by decide +kernel⟩⟩

/-- States and operands that meet the hypotheses of ArbitrationRegisters, clause by clause. -/
theorem meets_ArbitrationRegisters :
    (∃ (t : Nat) (m : CMsg) (s : State), s.stopRuns t ∧ s.regWrite t 0x300 m) ∧
    (∃ (t : Nat) (m : CMsg) (s : State), s.stopRuns t ∧ s.regWrite t 0x304 m ∧ 1 ≤ ((regData m).extractLsb' 16 5).toNat ∧ ((regData m).extractLsb' 16 5).toNat ≤ 16) ∧
    (∃ (t : Nat) (m : CMsg) (s : State), s.stopRuns t ∧ s.regWrite t 0x304 m ∧ ((((regData m).extractLsb' 16 5).toNat = 0 ∨ 16 < ((regData m).extractLsb' 16 5).toNat))) :=
  ⟨⟨(17), (regWr 0x300 0xFFFF1234), (inPan), by unfold State.stopRuns State.regWrite; decide +kernel⟩,
    ⟨(17), (regWr 0x304 0x80050000), (inPan), by unfold State.stopRuns State.regWrite; decide +kernel⟩,
    ⟨(17), (regWr 0x304 0x80000000), (inPan), by unfold State.stopRuns State.regWrite; decide +kernel⟩⟩

/-- States and operands that meet the hypotheses of SluiceEvaluates, clause by clause. -/
theorem meets_SluiceEvaluates :
    (∃ (t : Nat) (s : State), s.stopRuns t ∧ s.now % 16 = 0 ∧ s.tide.phase = 0) ∧
    (∃ (t : Nat) (m : CMsg) (s : State), s.stopRuns t ∧ m.hdr.mkind = 0xD ∧ m.hdr.plen = 16 ∧ m.hdr.dtile.toNat = t ∧ bits (pwrVal m) 127 124 = 2 ∧ bits (pwrVal m) 111 96 = t) :=
  ⟨⟨(17), (inPan), by unfold State.stopRuns; decide +kernel⟩,
    ⟨(17), (pm (2 * 2 ^ 124 + 17 * 2 ^ 96 + 30 * 2 ^ 64 + 5 * 2 ^ 61) 17), (base), by unfold State.stopRuns; decide +kernel⟩⟩

/-- States and operands that meet the hypotheses of FencesTakeHold, clause by clause. -/
theorem meets_FencesTakeHold :
    (∃ (t : Nat) (s : State), s.stopRuns t ∧ (s.stop t).ro.clientFenced = false) ∧
    (∃ (t : Nat) (s : State), s.stopRuns t ∧ s.fabricEmpty) ∧
    (∃ (s : State) (t : Nat) (tick : Nat), s.running = true ∧ s.fabricEmpty ∧ s.flt.fenceSet = some (t, tick) ∧ s.atTick tick = true) :=
  ⟨⟨(17), (inPan), by unfold State.stopRuns; decide +kernel⟩,
    ⟨(17), (inPan), by exact ⟨by unfold State.stopRuns; decide +kernel, by unfold State.fabricEmpty; exact fun _ => ⟨rfl, rfl, rfl, rfl⟩⟩⟩,
    ⟨({ (inPan.modRo 18 fun r => { r with shadowRoute := [(3, 9)] }) with flt := { inPan.flt with fenceSet := some (17, 0) } }), (17), (0), by exact ⟨by decide +kernel, by unfold State.fabricEmpty; exact fun t => if h : 18 = t then (by subst h; decide +kernel) else (by simp only [State.stop, State.modStop, State.modRo, State.setStop, State.setRow, Tab.get, Tab.get?, Tab.set, inPan, base, State.reset, h, if_false]; exact ⟨rfl, rfl, rfl, rfl⟩), by decide +kernel, by decide +kernel⟩⟩⟩

/-- States and operands that meet the hypotheses of CollectorRecords, clause by clause. -/
theorem meets_CollectorRecords :
    (∃ (t : Nat) (p : Pkt) (s : State) (r : CollRec), s.stopRuns t ∧ (s.stop t).si.records.find? (fun r => r.isOf (answered p.hdr)) = some r ∧ r.targets.contains p.hdr.stile.toNat = true ∧ Tab.get? r.answers p.hdr.stile.toNat = none ∧ r.answers.length + 1 < r.ntgt) ∧
    (∃ (t : Nat) (p : Pkt) (s : State) (r : CollRec), s.stopRuns t ∧ (s.stop t).si.records.find? (fun r => r.isOf (answered p.hdr)) = some r ∧ r.targets.contains p.hdr.stile.toNat = true ∧ Tab.get? r.answers p.hdr.stile.toNat = none ∧ r.ntgt ≤ r.answers.length + 1 ∧ r.isOf r.hdr = true ∧ ((r.snode ≠ s.node ∨ r.stile ≠ t))) ∧
    (∃ (t : Nat) (p : Pkt) (s : State) (r : CollRec) (m : Msg) (c : Mcast), s.stopRuns t ∧ (s.stop t).si.records.find? (fun r => r.isOf (answered p.hdr)) = some r ∧ r.targets.contains p.hdr.stile.toNat = true ∧ Tab.get? r.answers p.hdr.stile.toNat = none ∧ r.ntgt ≤ r.answers.length + 1 ∧ r.isOf r.hdr = true ∧ r.snode = s.node ∧ r.stile = t ∧ (s.stop t).si.msgs = [m] ∧ m.collects r.mseq r.hdr.ctag r.hdr.pan = true ∧ m.mc = some c ∧ c.got = [] ∧ c.noRecord = []) ∧
    (∃ (t : Nat) (p : Pkt) (s : State) (r : CollRec), s.stopRuns t ∧ (s.stop t).si.records.find? (fun r => r.isOf (answered p.hdr)) = some r ∧ ((r.targets.contains p.hdr.stile.toNat = false ∨ (Tab.get? r.answers p.hdr.stile.toNat).isSome = true))) ∧
    (∃ (t : Nat) (snode : Nat) (stile : Nat) (mseq : Nat) (s : State) (r : CollRec), s.stopRuns t ∧ (s.stop t).si.records.find? (fun r => r.named snode stile mseq && decide (r.deadline ≤ s.ft)) = some r ∧ ((r.snode ≠ s.node ∨ r.stile ≠ t))) ∧
    (∃ (t : Nat) (snode : Nat) (stile : Nat) (mseq : Nat) (s : State), s.stopRuns t) :=
  ⟨⟨(17), (ansPk tAck 0), (si17 fun si => { si with records := [(rec17 [40, 41])] }), (rec17 [40, 41]), by unfold State.stopRuns; decide +kernel⟩,
    ⟨(17), (ansPk tAck 0), (si17 fun si => { si with records := [(rec17 [40])] }), (rec17 [40]), by unfold State.stopRuns; decide +kernel⟩,
    ⟨(17), ({ ansPk tAck 0 with hdr := { (ansPk tAck 0).hdr with addr := 17 } }), (si17 fun si => { si with records := [({ rec17 [40] with snode := 0, stile := 17, hdr := { (rec17 [40]).hdr with snode := 0, stile := 17 } })], msgs := [({ msg1 with issued := true, mc := some ({ collecting := true, need := 1, got := [], noRecord := [], maps := [], failed := [], silent := none }) })] }), ({ rec17 [40] with snode := 0, stile := 17, hdr := { (rec17 [40]).hdr with snode := 0, stile := 17 } }), ({ msg1 with issued := true, mc := some ({ collecting := true, need := 1, got := [], noRecord := [], maps := [], failed := [], silent := none }) }), ({ collecting := true, need := 1, got := [], noRecord := [], maps := [], failed := [], silent := none }), by unfold State.stopRuns; decide +kernel⟩,
    ⟨(17), (ansPk tAck 0), (si17 fun si => { si with records := [(rec17 [41])] }), (rec17 [41]), by unfold State.stopRuns; decide +kernel⟩,
    ⟨(17), (3), (50), (9), (si17 fun si => { si with records := [(rec17 [40])] }), (rec17 [40]), by unfold State.stopRuns; decide +kernel⟩,
    ⟨(17), (3), (50), (9), (si17 fun si => { si with closed := [(rec17 [40], 0)] }), by unfold State.stopRuns; decide +kernel⟩⟩

/-- States and operands that meet the hypotheses of MulticastEnds, clause by clause. -/
theorem meets_MulticastEnds :
    (∃ (t : Nat) (port : Nat) (c : Nat) (p : Pkt) (s : State), s.stopRuns t ∧ portOk s.build t port = true ∧ p.hdr.type = tMcast ∧ s.mcLocal t port p.hdr = some true ∧ s.enterDie t port p.hdr = (s, true) ∧ s.siTakes t p.hdr ∧ countOk p.hdr = true ∧ s.inSpace t p.hdr = true ∧ p.hdr.pidx = 0 ∧ p.hdr.pcnt = 1 ∧ (s.stop t).si.keyState (keyOf p.hdr) s.ft = none ∧ (s.stop t).si.asms.find? (fun a => a.key == keyOf p.hdr) = none ∧ (s.stop t).si.asms.length < 32 ∧ s.answerTile p.hdr = some c ∧ ((c ≠ t ∨ p.hdr.snode.toNat ≠ s.node ∨ p.hdr.stile.toNat ≠ t))) ∧
    (∃ (t : Nat) (port : Nat) (p : Pkt) (s : State), s.stopRuns t ∧ portOk s.build t port = true ∧ p.hdr.type = tMcast ∧ p.hdr.dmode = 0 ∧ s.siTakes t p.hdr ∧ countOk p.hdr = true ∧ s.inSpace t p.hdr = true ∧ p.hdr.pidx = 0 ∧ p.hdr.pcnt = 1 ∧ (s.stop t).si.keyState (keyOf p.hdr) s.ft = none ∧ (s.stop t).si.asms.find? (fun a => a.key == keyOf p.hdr) = none ∧ (s.stop t).si.asms.length < 32) ∧
    (∃ (t : Nat) (waited : Nat) (c : Nat) (p : Pkt) (s : State), s.stopRuns t ∧ mcAnswered p.hdr = true ∧ p.hdr.dmode ≠ 0 ∧ 64 ≤ waited ∧ (s.stop t).si.keyState (keyOf p.hdr) s.ft ≠ some false ∧ s.answerTile p.hdr = some c ∧ ((c ≠ t ∨ p.hdr.snode.toNat ≠ s.node ∨ p.hdr.stile.toNat ≠ t))) ∧
    (∃ (t : Nat) (mseq : Nat) (s : State) (m : Msg) (c : Mcast), s.stopRuns t ∧ (s.stop t).si.msgs.find? (fun m => m.issued && m.hdr.mseq.toNat == mseq && (match m.mc with | some c => c.collecting | none => false)) = some m ∧ m.mc = some c ∧ m.owner = .desc ∧ m.aux = 0 ∧ c.noRecord = [] ∧ c.need ≤ c.got.length ∧ c.maps = []) :=
  ⟨⟨(17), (0), (40), ({ hdr := { h17 with type := 8, vc := 3, dmode := 1, w6 := rect17 }, data := [1, 2, 3, 4] }), (si17 fun si => { si with rxlim := 100 }), by unfold State.stopRuns State.siTakes; decide +kernel⟩,
    ⟨(17), (4), ({ hdr := { h17 with type := 8, vc := 3, dmode := 0 }, data := [1, 2, 3, 4] }), (si17 fun si => { si with rxlim := 100 }), by unfold State.stopRuns State.siTakes; decide +kernel⟩,
    ⟨(17), (64), (40), ({ hdr := { h17 with type := 8, vc := 3, dmode := 1, w6 := rect17 }, data := [1, 2, 3, 4] }), (inPan), by unfold State.stopRuns; decide +kernel⟩,
    ⟨(17), (9), (si17 fun si => { si with msgs := [({ msg1 with issued := true, mc := some ({ collecting := true, need := 1, got := [0], noRecord := [], maps := [], failed := [], silent := none }) })] }), ({ msg1 with issued := true, mc := some ({ collecting := true, need := 1, got := [0], noRecord := [], maps := [], failed := [], silent := none }) }), ({ collecting := true, need := 1, got := [0], noRecord := [], maps := [], failed := [], silent := none }), by unfold State.stopRuns; decide +kernel⟩⟩

/-- States and operands that meet the hypotheses of DescriptorsBecomeMessages, clause by clause. -/
theorem meets_DescriptorsBecomeMessages :
    (∃ (t : Nat) (n : Nat) (v : Nat) (d : Desc) (p : PanRec) (s : State), s.cmdTakes t ∧ d.kind = 1 ∧ s.descCode t d = 0 ∧ s.tilePan t = some p ∧ p.rank d.drank = some (n, v) ∧ d.daddr.extractLsb' 40 8 = 0) ∧
    (∃ (t : Nat) (n : Nat) (v : Nat) (d : Desc) (p : PanRec) (s : State), s.cmdTakes t ∧ d.kind = 5 ∧ s.descCode t d = 0 ∧ s.tilePan t = some p ∧ p.rank d.drank = some (n, v) ∧ ringAddrOk d.daddr = true) ∧
    (∃ (t : Nat) (d : Desc) (p : PanRec) (k : Nat) (s : State), s.cmdTakes t ∧ d.kind = 6 ∧ s.descCode t d = 0 ∧ s.tilePan t = some p ∧ s.mcastNeed t p d.dmode (d.mset.setWidth 64) = some k ∧ d.daddr.extractLsb' 40 8 = 0 ∧ msetOk d.dmode d.mset = true) ∧
    (∃ (t : Nat) (n : Nat) (v : Nat) (d : Desc) (p : PanRec) (s : State), s.cmdTakes t ∧ d.kind = 2 ∧ s.descCode t d = 0 ∧ s.tilePan t = some p ∧ s.memTarget p d 1 = some (.inr (n, v))) ∧
    (∃ (t : Nat) (n : Nat) (v : Nat) (d : Desc) (p : PanRec) (s : State), s.cmdTakes t ∧ d.kind = 4 ∧ s.descCode t d = 0 ∧ s.tilePan t = some p ∧ s.memTarget p d 0 = some (.inr (n, v))) ∧
    (∃ (t : Nat) (d : Desc) (p : PanRec) (s : State), s.cmdTakes t ∧ d.kind = 2 ∧ s.descCode t d = 0 ∧ s.tilePan t = some p ∧ s.memTarget p d 1 = some (.inl ())) ∧
    (∃ (t : Nat) (d : Desc) (p : PanRec) (s : State), s.cmdTakes t ∧ d.kind = 4 ∧ s.descCode t d = 0 ∧ s.tilePan t = some p ∧ s.memTarget p d 0 = some (.inl ()) ∧ s.img.act.watch = []) :=
  ⟨⟨(17), (0), (129), ({ (default : Desc) with w0 := dw0 1 32, w1 := 4, w3 := 0x40 }), (pan1), (inPan), by unfold State.cmdTakes State.portTakes State.stopRuns; decide +kernel⟩,
    ⟨(17), (0), (129), ({ (default : Desc) with w0 := dw0 5 32, w1 := 4, w3 := ringAddr16 }), (pan1), (inPan), by unfold State.cmdTakes State.portTakes State.stopRuns; decide +kernel⟩,
    ⟨(17), ({ (default : Desc) with w0 := dw0 6 0, w1 := 4, w3 := 0x40, w5 := 1 * 2 ^ 62 + (2 + 1 * 32 + 2 * 512 + 1 * 16384) }), (pan1), (1), (inPan), by unfold State.cmdTakes State.portTakes State.stopRuns; decide +kernel⟩,
    ⟨(17), (5), (0), ({ (default : Desc) with w0 := dw0 2 0, w1 := 4, w3 := 0x10000000000 }), (panMem), (memState), by unfold State.cmdTakes State.portTakes State.stopRuns; decide +kernel⟩,
    ⟨(17), (5), (0), ({ (default : Desc) with w0 := dw0 4 0, w1 := 4, w3 := 0x10000000000 }), (panMem), (memState), by unfold State.cmdTakes State.portTakes State.stopRuns; decide +kernel⟩,
    ⟨(17), ({ (default : Desc) with w0 := dw0 2 0, w1 := 4, w3 := 64 }), (panMem), (memState), by unfold State.cmdTakes State.portTakes State.stopRuns; decide +kernel⟩,
    ⟨(17), ({ (default : Desc) with w0 := dw0 4 0, w1 := 4, w3 := 64 }), (panMem), (memState), by unfold State.cmdTakes State.portTakes State.stopRuns; decide +kernel⟩⟩

/-- States and operands that meet the hypotheses of DescriptorsAreRefused, clause by clause. -/
theorem meets_DescriptorsAreRefused :
    (∃ (t : Nat) (d : Desc) (s : State) (i : Instr), s.cmdTakes t ∧ s.descCode t d ≠ 0 ∧ (i, d.kind) ∈ [(Instr.dscPut t d, 1), (.dscMwrite t d, 2), (.dscMread t d, 4), (.dscRingmsg t d, 5), (.dscMcast t d, 6)]) :=
  ⟨(17), ({ (default : Desc) with w0 := dw0 1 32 }), (inPan), (.dscPut 17 ({ (default : Desc) with w0 := dw0 1 32 })), by unfold State.cmdTakes State.portTakes State.stopRuns; decide +kernel⟩

/-- States and operands that meet the hypotheses of MessagesLeave, clause by clause. -/
theorem meets_MessagesLeave :
    (∃ (t : Nat) (m : Msg) (s : State), s.stopRuns t ∧ (s.stop t).si.msgs = [m] ∧ m.issued = false ∧ m.hdr.type ≠ 0 ∧ m.circ = none ∧ m.fetch ≤ m.asked ∧ s.draining t = false ∧ (s.stop t).si.mseqFree s.ft = true) ∧
    (∃ (t : Nat) (m : Msg) (s : State), s.stopRuns t ∧ (s.stop t).si.msgs = [m] ∧ m.issued = true ∧ m.circ = none ∧ m.asked = 0 ∧ 0 < m.fetch ∧ m.fetch ≤ 2048 ∧ s.shut (.tp t) = false ∧ (s.stop t).si.reads = []) ∧
    (∃ (t : Nat) (m : Msg) (r : TpRead) (data : List Byte) (s : State), s.stopRuns t ∧ (s.stop t).si.reads = [r] ∧ r.done = false ∧ r.tag < 16 ∧ (s.stop t).si.msgs = [m] ∧ m.uid = r.uid ∧ m.issued = true ∧ m.hdr.type ≠ 0 ∧ m.circ = none ∧ m.fetch ≤ m.asked ∧ (s.stop t).co.live = []) ∧
    (∃ (t : Nat) (x : Inj) (s : State), s.stopRuns t ∧ (s.stop t).si.msgs = [] ∧ (s.stop t).si.inj = [x] ∧ x.governed = false ∧ s.rowHeld t = false ∧ (s.stop t).si.injAt ≤ s.ft ∧ x.pkt.hdr.vc ≠ 0 ∧ s.toOwnCu t x.pkt.hdr = true) ∧
    (∃ (t : Nat) (x : Inj) (s : State), s.stopRuns t ∧ (s.stop t).si.msgs = [] ∧ (s.stop t).si.inj = [x] ∧ x.governed = false ∧ s.rowHeld t = false ∧ (s.stop t).si.injAt ≤ s.ft ∧ (x.pkt.hdr.vc ≠ 0 ∨ s.img.act.watch = []) ∧ x.pkt.hdr.dmode = 0 ∧ x.pkt.hdr.dnode.toNat ≠ s.node ∧ flitsOf s.build x.pkt.data.length + ((s.stop t).rt.buf 4 x.pkt.hdr.vc.toNat).load ≤ maxFlits s.build) :=
  ⟨⟨(17), (msg1), (si17 fun si => { si with msgs := [(msg1)] }), by unfold State.stopRuns; decide +kernel⟩,
    ⟨(17), ({ msg1 with issued := true, fetch := 4 }), (si17 fun si => { si with msgs := [({ msg1 with issued := true, fetch := 4 })] }), by unfold State.stopRuns; decide +kernel⟩,
    ⟨(17), ({ msg1 with issued := true, fetch := 4, asked := 4 }), ({ tag := 0, uid := 3, addr := 2, len := 4, got := [], done := false }), ((List.range 64).map (BitVec.ofNat 8)), (si17 fun si => { si with msgs := [({ msg1 with issued := true, fetch := 4, asked := 4 })], reads := [({ tag := 0, uid := 3, addr := 2, len := 4, got := [], done := false })] }), by unfold State.stopRuns; decide +kernel⟩,
    ⟨(17), ({ pkt := { hdr := { h17 with type := 6, vc := 2, dtile := 17 }, data := [1] }, readyAt := 0, governed := false, place := 0, uid := none }), (si17 fun si => { si with inj := [({ pkt := { hdr := { h17 with type := 6, vc := 2, dtile := 17 }, data := [1] }, readyAt := 0, governed := false, place := 0, uid := none })] }), by unfold State.stopRuns; decide +kernel⟩,
    ⟨(17), ({ pkt := { hdr := { h17 with type := 10, vc := 1, dnode := 5 }, data := [] }, readyAt := 0, governed := false, place := 0, uid := none }), (si17 fun si => { si with inj := [({ pkt := { hdr := { h17 with type := 10, vc := 1, dnode := 5 }, data := [] }, readyAt := 0, governed := false, place := 0, uid := none })] }), by unfold State.stopRuns; decide +kernel⟩⟩

/-- States and operands that meet the hypotheses of AnswersEndMessages, clause by clause. -/
theorem meets_AnswersEndMessages :
    (∃ (t : Nat) (p : Pkt) (m : Msg) (s : State), s.ansTakes t p tAck m ∧ m.owner = .desc ∧ m.mc = none) ∧
    (∃ (t : Nat) (p : Pkt) (m : Msg) (s : State), s.ansTakes t p tNack m ∧ ansCode p.hdr.w6 = nNotReady ∧ ansWhole p.hdr.w6 = true ∧ m.notReady < 7) ∧
    (∃ (t : Nat) (p : Pkt) (m : Msg) (s : State), s.ansTakes t p tNack m ∧ m.owner = .desc ∧ m.mc = none ∧ ansCode p.hdr.w6 ≠ nNotReady ∧ ansCode p.hdr.w6 ≠ nIncomplete) ∧
    (∃ (t : Nat) (mseq : Nat) (m : Msg) (s : State), s.stopRuns t ∧ s.backedOff t mseq (fun m => !m.claim) = some m) ∧
    (∃ (t : Nat) (plane : Nat) (mseq : Nat) (m : Msg) (s : State), s.stopRuns t ∧ plane ≠ 1 ∧ (s.stop t).si.msgs.find? (fun m => m.issued && m.owner.red == (plane == 2) && m.hdr.mseq.toNat == mseq && dueBy m.deadline s.ft) = some m ∧ m.mc = none ∧ m.circ = none ∧ (∀ x ∈ (s.stop t).si.msgs, x.small = false) ∧ m.tries < 3) ∧
    (∃ (t : Nat) (mseq : Nat) (m : Msg) (s : State), s.stopRuns t ∧ (s.stop t).si.msgs.find? (fun m => m.issued && m.owner.red == false && m.hdr.mseq.toNat == mseq && dueBy m.deadline s.ft) = some m ∧ m.owner = .desc ∧ m.mc = none ∧ m.circ = none ∧ 3 ≤ m.tries) ∧
    (∃ (t : Nat) (mseq : Nat) (r : CReq) (s : State), s.stopRuns t ∧ (s.stop t).cr.reqs.find? (fun r => r.issued && r.msg.hdr.mseq.toNat == mseq && dueBy r.deadline s.ft) = some r ∧ r.tries < 3) :=
  ⟨⟨(17), (ansTo17 tAck 0), ({ msg1 with issued := true }), (si17 fun si => { si with msgs := [({ msg1 with issued := true })] }), by unfold State.ansTakes State.stopRuns; decide +kernel⟩,
    ⟨(17), (ansTo17 tNack nNotReady), ({ msg1 with issued := true }), (si17 fun si => { si with msgs := [({ msg1 with issued := true })] }), by unfold State.ansTakes State.stopRuns; decide +kernel⟩,
    ⟨(17), (ansTo17 tNack nBounds), ({ msg1 with issued := true }), (si17 fun si => { si with msgs := [({ msg1 with issued := true })] }), by unfold State.ansTakes State.stopRuns; decide +kernel⟩,
    ⟨(17), (9), ({ msg1 with issued := true, backoff := some 0, notReady := 1 }), (si17 fun si => { si with msgs := [({ msg1 with issued := true, backoff := some 0, notReady := 1 })] }), by unfold State.stopRuns; decide +kernel⟩,
    ⟨(17), (0), (9), ({ msg1 with issued := true, deadline := some 0 }), (si17 fun si => { si with msgs := [({ msg1 with issued := true, deadline := some 0 })] }), by unfold State.stopRuns; decide +kernel⟩,
    ⟨(17), (9), ({ msg1 with issued := true, deadline := some 0, tries := 3 }), (si17 fun si => { si with msgs := [({ msg1 with issued := true, deadline := some 0, tries := 3 })] }), by unfold State.stopRuns; decide +kernel⟩,
    ⟨(17), (9), ({ (default : CReq) with op := 5, msg := cm 1 0 [1], issued := true, deadline := some 0 }), (at17 fun st => { st with cr := { st.cr with reqs := [({ (default : CReq) with op := 5, msg := cm 1 0 [1], issued := true, deadline := some 0 })] } }), by unfold State.stopRuns; decide +kernel⟩⟩

/-- States and operands that meet the hypotheses of ReceiversAssemble, clause by clause. -/
theorem meets_ReceiversAssemble :
    (∃ (t : Nat) (p : Pkt) (s : State), s.stopRuns t ∧ p.hdr.type = tPut ∧ p.hdr.dmode = 0 ∧ s.siTakes t p.hdr ∧ countOk p.hdr = true ∧ s.inSpace t p.hdr = true ∧ p.hdr.pidx = 0 ∧ p.hdr.pcnt = 1 ∧ (s.stop t).si.keyState (keyOf p.hdr) s.ft = none ∧ (s.stop t).si.asms.find? (fun a => a.key == keyOf p.hdr) = none ∧ (s.stop t).si.asms.length < 32) ∧
    (∃ (t : Nat) (p : Pkt) (s : State), s.stopRuns t ∧ p.hdr.type = tPut ∧ p.hdr.dmode = 0 ∧ s.siTakes t p.hdr ∧ countOk p.hdr = true ∧ s.inSpace t p.hdr = true ∧ p.hdr.pidx = 0 ∧ p.hdr.pcnt ≠ 1 ∧ (s.stop t).si.keyState (keyOf p.hdr) s.ft = none ∧ (s.stop t).si.asms.find? (fun a => a.key == keyOf p.hdr) = none ∧ (s.stop t).si.asms.length < 32) ∧
    (∃ (t : Nat) (p : Pkt) (a : Assembly) (s : State), s.stopRuns t ∧ p.hdr.type = tPut ∧ p.hdr.dmode = 0 ∧ s.siTakes t p.hdr ∧ countOk p.hdr = true ∧ s.inSpace t p.hdr = true ∧ (s.stop t).si.keyState (keyOf p.hdr) s.ft = none ∧ (s.stop t).si.asms = [a] ∧ a.key = keyOf p.hdr ∧ p.hdr.pidx.toNat = a.next ∧ a.seen.contains p.hdr.pidx.toNat = false ∧ a.held = [] ∧ p.hdr.pcnt.toNat = a.next + 1) ∧
    (∃ (t : Nat) (p : Pkt) (a : Assembly) (s : State), s.stopRuns t ∧ p.hdr.type = tPut ∧ p.hdr.dmode = 0 ∧ s.siTakes t p.hdr ∧ countOk p.hdr = true ∧ s.inSpace t p.hdr = true ∧ (s.stop t).si.keyState (keyOf p.hdr) s.ft = none ∧ (s.stop t).si.asms = [a] ∧ a.key = keyOf p.hdr ∧ p.hdr.pidx.toNat ≠ a.next ∧ a.seen.contains p.hdr.pidx.toNat = false ∧ a.held.length < 16) ∧
    (∃ (t : Nat) (p : Pkt) (s : State), s.stopRuns t ∧ p.hdr.type = tPut ∧ p.hdr.dmode = 0 ∧ s.siTakes t p.hdr ∧ countOk p.hdr = true ∧ s.inSpace t p.hdr = true ∧ (s.stop t).si.keyState (keyOf p.hdr) s.ft = none ∧ (s.stop t).si.asms.find? (fun a => a.key == keyOf p.hdr) = none ∧ 32 ≤ (s.stop t).si.asms.length) ∧
    (∃ (t : Nat) (p : Pkt) (s : State), s.stopRuns t ∧ p.hdr.type = tPut ∧ p.hdr.dmode = 0 ∧ s.siTakes t p.hdr ∧ (countOk p.hdr && s.inSpace t p.hdr) = false) ∧
    (∃ (t : Nat) (p : Pkt) (q : PanRec) (s : State), s.stopRuns t ∧ p.hdr.type = tPut ∧ p.hdr.dmode = 0 ∧ s.hdrOk p.hdr = true ∧ p.hdr.e2e = 0 ∧ s.isLate p.hdr = false ∧ s.tilePan t = some q ∧ p.hdr.pan.toNat ≠ q.id ∧ p.hdr.last = 1) :=
  ⟨⟨(17), (pk 4 0 [1, 2, 3, 4]), (si17 fun si => { si with rxlim := 100 }), by unfold State.stopRuns State.siTakes; decide +kernel⟩,
    ⟨(17), ({ hdr := { h17 with type := 4, pcnt := 2, last := 0, plen := 2048 }, data := [1] }), (si17 fun si => { si with rxlim := 4096 }), by unfold State.stopRuns State.siTakes; decide +kernel⟩,
    ⟨(17), ({ hdr := { h17 with type := 4, pcnt := 2, pidx := 1, addr := 2048 }, data := [1, 2, 3, 4] }), ({ (default : Assembly) with key := keyOf h17, next := 1, seen := [0], bytes := 2048, hdr := { h17 with ctag := 6 } }), (si17 fun si => { si with rxlim := 4096, asms := [({ (default : Assembly) with key := keyOf h17, next := 1, seen := [0], bytes := 2048, hdr := { h17 with ctag := 6 } })] }), by unfold State.stopRuns State.siTakes; decide +kernel⟩,
    ⟨(17), ({ hdr := { h17 with type := 4, pcnt := 3, pidx := 2, addr := 2048 }, data := [1, 2, 3, 4] }), ({ (default : Assembly) with key := keyOf h17, next := 1, seen := [0], bytes := 2048, hdr := { h17 with ctag := 6 } }), (si17 fun si => { si with rxlim := 4096, asms := [({ (default : Assembly) with key := keyOf h17, next := 1, seen := [0], bytes := 2048, hdr := { h17 with ctag := 6 } })] }), by unfold State.stopRuns State.siTakes; decide +kernel⟩,
    ⟨(17), (pk 4 0 [1, 2, 3, 4]), (si17 fun si => { si with rxlim := 100, asms := List.replicate 32 { (default : Assembly) with key := { (default : Key) with mseq := 1 } } }), by unfold State.stopRuns State.siTakes; decide +kernel⟩,
    ⟨(17), (pk 4 0 [1, 2, 3, 4]), (inPan), by unfold State.stopRuns State.siTakes; decide +kernel⟩,
    ⟨(17), ({ hdr := { h17 with type := 4, pan := 2 }, data := [] }), (pan1), (inPan), by unfold State.stopRuns; decide +kernel⟩⟩

/-- States and operands that meet the hypotheses of AssembliesEnd, clause by clause. -/
theorem meets_AssembliesEnd :
    (∃ (t : Nat) (p : Pkt) (m : Msg) (s : State), s.stopRuns t ∧ p.hdr.type = tMresp ∧ s.hdrOk p.hdr = true ∧ p.hdr.e2e = 0 ∧ s.isLate p.hdr = false ∧ (s.stop t).ro.clientFenced = false ∧ (s.stop t).si.msgs.find? (fun m => m.reads p.hdr) = some m ∧ m.mc = none ∧ countOk p.hdr = true ∧ respInBuf m p.hdr = true ∧ p.hdr.pidx = 0 ∧ p.hdr.pcnt = 1 ∧ (s.stop t).si.keyState (keyOf p.hdr) s.ft = none ∧ (s.stop t).si.asms = []) ∧
    (∃ (t : Nat) (snode : Nat) (stile : Nat) (vc : Nat) (mseq : Nat) (a : Assembly) (s : State), s.stopRuns t ∧ (s.stop t).si.asms.find? (fun a => a.key == { snode := snode, stile := stile, vc := vc, mseq := mseq } && decide (a.deadline ≤ s.ft)) = some a ∧ a.hdr.type ≠ tMresp ∧ a.hdr.dmode = 0) ∧
    (∃ (t : Nat) (snode : Nat) (stile : Nat) (vc : Nat) (mseq : Nat) (s : State), s.stopRuns t ∧ (s.stop t).si.asms.find? (fun a => a.key == { snode := snode, stile := stile, vc := vc, mseq := mseq } && decide (a.deadline ≤ s.ft)) = none) ∧
    (∃ (t : Nat) (snode : Nat) (stile : Nat) (vc : Nat) (mseq : Nat) (s : State), s.stopRuns t) :=
  ⟨⟨(17), ({ hdr := { h17 with type := 3, vc := 1, addr := 64 }, data := [1, 2, 3, 4] }), ({ msg1 with issued := true, hdr := { msg1.hdr with type := tMread, w6 := 4 * 2 ^ 40 + 64 } }), (si17 fun si => { si with msgs := [({ msg1 with issued := true, hdr := { msg1.hdr with type := tMread, w6 := 4 * 2 ^ 40 + 64 } })] }), by unfold State.stopRuns; decide +kernel⟩,
    ⟨(17), (0), (40), (0), (9), ({ (default : Assembly) with key := keyOf h17, next := 1, seen := [0], bytes := 2048, hdr := h17 }), (si17 fun si => { si with asms := [({ (default : Assembly) with key := keyOf h17, next := 1, seen := [0], bytes := 2048, hdr := h17 })] }), by unfold State.stopRuns; decide +kernel⟩,
    ⟨(17), (0), (40), (0), (9), (inPan), by unfold State.stopRuns; decide +kernel⟩,
    ⟨(17), (0), (40), (0), (9), (inPan), by unfold State.stopRuns; decide +kernel⟩⟩

/-- States and operands that meet the hypotheses of RowsTakeTheirMaps, clause by clause. -/
theorem meets_RowsTakeTheirMaps :
    (∃ (y : Nat) (h : RowHold) (s : State), s.running = true ∧ s.rowDrained y = true ∧ (s.row y).hold = some h ∧ s.ft < h.deadline) ∧
    (∃ (y : Nat) (h : RowHold) (s : State), s.running = true ∧ s.fabricEmpty ∧ (s.row y).hold = some h ∧ s.ft < h.deadline) ∧
    (∃ (y : Nat) (h : RowHold) (s : State), s.running = true ∧ (s.row y).hold = some h ∧ (s.rowDrained y = false ∨ h.deadline ≤ s.ft)) ∧
    (∃ (y : Nat) (h : RowHold) (s : State), s.running = true ∧ (s.row y).hold = some h ∧ h.deadline ≤ s.ft) ∧
    (∃ (x : Nat) (y : Nat) (s : State), x < cols s.build ∧ (s.row y).col = pcols s.build - 1) ∧
    (∃ (x : Nat) (y : Nat) (s : State), x < cols s.build ∧ y < 16) :=
  ⟨⟨(2), ({ col := 3, src := 2, deadline := 5 }), ((inPan.modStop 18 fun st => { st with q := { st.q with sel := 4 } }).setRow 2 { base.row 2 with hold := some ({ col := 3, src := 2, deadline := 5 }) }), by decide +kernel⟩,
    ⟨(2), ({ col := 3, src := 2, deadline := 5 }), ((inPan.modStop 18 fun st => { st with q := { st.q with sel := 4 } }).setRow 2 { base.row 2 with hold := some ({ col := 3, src := 2, deadline := 5 }) }), by exact ⟨by decide +kernel, by unfold State.fabricEmpty; exact fun t => if h : 18 = t then (by subst h; decide +kernel) else (by simp only [State.stop, State.modStop, State.modRo, State.setStop, State.setRow, Tab.get, Tab.get?, Tab.set, inPan, base, State.reset, h, if_false]; exact ⟨rfl, rfl, rfl, rfl⟩), by decide +kernel, by decide +kernel⟩⟩,
    ⟨(2), ({ col := 3, src := 2, deadline := 5 }), ((inPan.modStop 66 fun st => { st with mheld := [(0, 0, mreq1)] }).setRow 2 { base.row 2 with hold := some ({ col := 3, src := 2, deadline := 5 }) }), by decide +kernel⟩,
    ⟨(2), ({ col := 3, src := 2, deadline := 0 }), (inPan.setRow 2 { base.row 2 with hold := some ({ col := 3, src := 2, deadline := 0 }) }), by decide +kernel⟩,
    ⟨(5), (2), (base), by decide +kernel⟩,
    ⟨(5), (2), (base), by decide +kernel⟩⟩

/-- States and operands that meet the hypotheses of QuadrantsReport, clause by clause. -/
theorem meets_QuadrantsReport :
    (∃ (s : State), s.start.phase = 3) ∧
    (∃ (bad : List (Nat × Nat)) (s : State), s.start.phase = 3 ∧ bad ≠ []) ∧
    (∃ (p : Nat) (q : Nat) (s : State), s.ready = true) :=
  ⟨⟨({ base with start := { base.start with phase := 3 } }), by decide +kernel⟩,
    ⟨([(3, 5), (4, 6)]), ({ base with start := { base.start with phase := 3 } }), by decide +kernel⟩,
    ⟨(3), (4), (base), by decide +kernel⟩⟩

/-- States and operands that meet the hypotheses of CrossingsShutAndReopen, clause by clause. -/
theorem meets_CrossingsShutAndReopen :
    (∃ (x : XPath) (quiet : Nat) (s : State), s.xRuns x = true ∧ s.xOk x = true ∧ s.xPending x = true ∧ 4096 ≤ quiet ∧ s.shut x = false) ∧
    (∃ (t : Nat) (quiet : Nat) (s : State), s.running = true ∧ tileOk s.build t = true ∧ s.clientKind t ≠ 0 ∧ 4096 ≤ quiet) ∧
    (∃ (quiet : Nat) (s : State), s.ready = true ∧ 4096 ≤ quiet ∧ s.shut .control = false) ∧
    (∃ (sl : Nat) (quiet : Nat) (s : State), s.running = true ∧ sl < nSlices s.build ∧ 4096 ≤ quiet ∧ s.shut (.slice sl) = false) ∧
    (∃ (x : XPath) (quiet : Nat) (pend : Bool) (s : State), (quiet < 4096 ∨ pend = false)) ∧
    (∃ (x : XPath) (run : Nat) (s : State), s.xRuns x = true ∧ s.xOk x = true ∧ 64 ≤ run ∧ ((∀ e ∈ s.xings, e.1 = x → e.2.cleared = true))) ∧
    (∃ (x : XPath) (run : Nat) (s : State), (run < 64 ∨ (∀ e ∈ s.xings, e.1 = x → e.2.cleared = false))) :=
  ⟨⟨(.cmd 17), (4096), (inPan), by decide +kernel⟩,
    ⟨(17), (4096), (inPan), by decide +kernel⟩,
    ⟨(4096), ({ inPan with ctrl := { inPan.ctrl with line := [.todo true (rq 0 0 0) (inPan.entryOf 0)] } }), by decide +kernel⟩,
    ⟨(5), (4096), ({ inPan with slices := [(5, { (default : Attach) with queue := [mreq1] })] }), by decide +kernel⟩,
    ⟨(.cmd 17), (4095), (true), (at17 fun st => { st with alive := true }), by decide +kernel⟩,
    ⟨(.control), (64), ({ base with xings := [(.control, { shut := true, cleared := true }), (.budget, { shut := true, cleared := true })] }), by decide +kernel⟩,
    ⟨(.cmd 17), (63), ({ base with xings := [(.cmd 17, { shut := true, cleared := true })] }), by decide +kernel⟩⟩

/-- States and operands that meet the hypotheses of CPlaneCarriesMessages, clause by clause. -/
theorem meets_CPlaneCarriesMessages :
    (∃ (t : Nat) (port : Nat) (o : Nat) (f : CFlit) (s : State), s.stopRuns t ∧ portOk s.build t port = true ∧ port ≠ 4 ∧ f.head = true ∧ (s.stop t).c.buf (2 * port + f.vc.toNat) = default ∧ s.cHdrOk (chdrOfBytes f.data) = true ∧ s.cOut t port (chdrOfBytes f.data) = .inr o) ∧
    (∃ (t : Nat) (port : Nat) (f : CFlit) (b : CBuf) (s : State), s.stopRuns t ∧ portOk s.build t port = true ∧ port ≠ 4 ∧ f.head = false ∧ (s.stop t).c.buf (2 * port + f.vc.toNat) = b ∧ b.disc = false ∧ b.flits ≠ [] ∧ b.whole = false ∧ b.granted = false) ∧
    (∃ (t : Nat) (port : Nat) (f : CFlit) (b : CBuf) (s : State), s.stopRuns t ∧ portOk s.build t port = true ∧ port ≠ 4 ∧ f.head = false ∧ f.tail = true ∧ (s.stop t).c.buf (2 * port + f.vc.toNat) = b ∧ b.disc = false ∧ b.flits ≠ [] ∧ b.whole = false ∧ b.granted = true ∧ b.dest < 5) ∧
    (∃ (t : Nat) (port : Nat) (f : CFlit) (b : CBuf) (s : State), s.stopRuns t ∧ portOk s.build t port = true ∧ port ≠ 4 ∧ (s.stop t).c.buf (2 * port + f.vc.toNat) = b ∧ b.disc = false ∧ b.granted = false) ∧
    (∃ (t : Nat) (port : Nat) (f : CFlit) (s : State), s.stopRuns t ∧ portOk s.build t port = true ∧ port ≠ 4 ∧ f.head = true ∧ (s.stop t).c.buf (2 * port + f.vc.toNat) = default ∧ s.cHdrOk (chdrOfBytes f.data) = false) ∧
    (∃ (t : Nat) (o : Nat) (m : CMsg) (s : State), s.stopRuns t ∧ portOk s.build t o = true ∧ o < 4 ∧ s.ringIdle t ∧ (s.stop t).c.bufs = [] ∧ (s.stop t).c.cq = [m] ∧ s.cOut t 4 m.hdr = .inr o ∧ Tab.get none (s.stop t).c.holder o = none ∧ s.deadOut t o = false ∧ (s.stop t).c.busy.contains (2 * o + cVc m.hdr.mkind) = false ∧ s.heldInto t o = false ∧ s.rowHeld t = false) ∧
    (∃ (t : Nat) (m : CMsg) (s : State), s.stopRuns t ∧ m.hdr.mkind = 0xE ∧ s.cHdrOk m.hdr = true) ∧
    (∃ (t : Nat) (m : CMsg) (s : State), s.stopRuns t ∧ m.hdr.mkind = 0xE ∧ s.cHdrOk m.hdr = false) :=
  ⟨⟨(17), (0), (4), ({ vc := 0, head := true, tail := false, data := chdrBytes (cm 1 0 [1]).hdr }), (inPan), by unfold State.stopRuns; decide +kernel⟩,
    ⟨(17), (0), ({ vc := 0, head := false, tail := true, data := [] }), (cbuf17), (inPan.setCBuf 17 0 (cbuf17)), by unfold State.stopRuns; decide +kernel⟩,
    ⟨(17), (0), ({ vc := 0, head := false, tail := true, data := [] }), ({ cbuf17 with granted := true, sent := 1 }), (inPan.setCBuf 17 0 ({ cbuf17 with granted := true, sent := 1 })), by unfold State.stopRuns; decide +kernel⟩,
    ⟨(17), (0), ({ vc := 0, head := false, tail := true, data := [] }), (cbuf17), (inPan.setCBuf 17 0 (cbuf17)), by unfold State.stopRuns; decide +kernel⟩,
    ⟨(17), (0), ({ vc := 0, head := true, tail := false, data := chdrBytes (cm 1 0 []).hdr }), (inPan), by unfold State.stopRuns; decide +kernel⟩,
    ⟨(17), (1), ({ (cm 1 0 [1]) with hdr := { (cm 1 0 [1]).hdr with dtile := 33 } }), (inPan.modC 17 fun c => { c with cq := [({ (cm 1 0 [1]) with hdr := { (cm 1 0 [1]).hdr with dtile := 33 } })] }), by exact ⟨by unfold State.stopRuns; decide +kernel, by decide +kernel, by decide +kernel, by unfold State.ringIdle; intro n hn; exact (nomatch (show n ∈ ([] : List Nat) from hn)), by decide +kernel⟩⟩,
    ⟨(17), (cm 0xE 0 (List.replicate 16 0)), (inPan), by unfold State.stopRuns; decide +kernel⟩,
    ⟨(17), (cm 0xE 0 [1]), (inPan), by unfold State.stopRuns; decide +kernel⟩⟩

/-- States and operands that meet the hypotheses of QueuesFollowCommands, clause by clause. -/
theorem meets_QueuesFollowCommands :
    (∃ (t : Nat) (k : Nat) (g : BitVec 4) (s : State), s.msgTakes t 1 g ∧ k < 16 ∧ (s.queue t k).state = 1) ∧
    (∃ (t : Nat) (k : Nat) (g : BitVec 4) (s : State), s.msgTakes t 1 g ∧ 16 ≤ k ∧ k < 32 ∧ (s.queue t k).state = 1 ∧ (s.queue t k).base.toNat % 64 = 0 ∧ (s.queue t k).size.toNat % 32 = 0 ∧ 4096 ≤ (s.queue t k).size.toNat ∧ (s.queue t k).size.toNat ≤ 2 ^ 30) ∧
    (∃ (t : Nat) (k : Nat) (g : BitVec 4) (s : State), s.msgTakes t 1 g ∧ k < 32 ∧ ((s.queue t k).state = 2 ∨ (s.queue t k).state = 3)) ∧
    (∃ (t : Nat) (k : Nat) (g : BitVec 4) (s : State), s.msgTakes t 1 g ∧ k < 32 ∧ (s.queue t k).state ≠ 0) ∧
    (∃ (t : Nat) (k : Nat) (g : BitVec 4) (s : State), s.msgTakes t 1 g ∧ k < 32 ∧ (s.queue t k).state = 2) ∧
    (∃ (t : Nat) (k : Nat) (g : BitVec 4) (s : State), s.msgTakes t 1 g ∧ k < 32 ∧ (s.queue t k).state = 3) ∧
    (∃ (t : Nat) (k : Nat) (g : BitVec 4) (i : Instr) (l : List Nat) (s : State), s.msgTakes t 1 g ∧ (i, l) ∈ [(Instr.queueOpen t k (.msg g), [1, 2]), (.queueClose t k (.msg g), [2, 3]), (.queueReset t k (.msg g), [1, 2, 3]), (.queuePause t k (.msg g), [2]), (.queueResume t k (.msg g), [3])] ∧ (s.queue t k).state ∉ l) ∧
    (∃ (t : Nat) (k : Nat) (c : Nat) (w : Nat) (m : CMsg) (i : Instr) (o : Option Queue) (s : State), s.stopRuns t ∧ s.regWrite t 0x600 m ∧ s.qFree t 1 = true ∧ k < 32 ∧ regData m &&& 0x71F = BitVec.ofNat 32 (c * 256 + k) ∧ (i, c, o) ∈ [(Instr.queueOpen t k (.host w m), 1, (s.queue t k).open (decide (16 ≤ k))), (.queueClose t k (.host w m), 2, (s.queue t k).close), (.queueReset t k (.host w m), 3, (s.queue t k).reset), (.queuePause t k (.host w m), 4, (s.queue t k).pause), (.queueResume t k (.host w m), 5, (s.queue t k).resume)]) :=
  ⟨⟨(17), (3), (2), (q17 3 { (default : Queue) with state := 1 }), by unfold State.msgTakes State.portTakes State.stopRuns; decide +kernel⟩,
    ⟨(17), (19), (2), (q17 19 { (default : Queue) with state := 1, size := 4096, wrOfs := 5 }), by unfold State.msgTakes State.portTakes State.stopRuns; decide +kernel⟩,
    ⟨(17), (3), (2), (q17 3 { (default : Queue) with state := 3 }), by unfold State.msgTakes State.portTakes State.stopRuns; decide +kernel⟩,
    ⟨(17), (3), (2), ((q17 3 { (default : Queue) with state := 3, entries := [[1]] }).modQ 17 fun q => { q with alive := [{ snode := 0, stile := 1, queue := 3, last := 1 }] }), by unfold State.msgTakes State.portTakes State.stopRuns; decide +kernel⟩,
    ⟨(17), (3), (2), (q17 3 { (default : Queue) with state := 2 }), by unfold State.msgTakes State.portTakes State.stopRuns; decide +kernel⟩,
    ⟨(17), (3), (2), (q17 3 { (default : Queue) with state := 3 }), by unfold State.msgTakes State.portTakes State.stopRuns; decide +kernel⟩,
    ⟨(17), (3), (2), (.queuePause 17 3 (.msg 2)), ([2]), (q17 3 { (default : Queue) with state := 3 }), by unfold State.msgTakes State.portTakes State.stopRuns; decide +kernel⟩,
    ⟨(17), (3), (4), (0), (regWr 0x600 0x403), (.queuePause 17 3 (.host 0 (regWr 0x600 0x403))), (((q17 3 { (default : Queue) with state := 2 }).queue 17 3).pause), (q17 3 { (default : Queue) with state := 2 }), by unfold State.stopRuns State.regWrite; decide +kernel⟩⟩

/-- States and operands that meet the hypotheses of RegisterQueuesAnswer, clause by clause. -/
theorem meets_RegisterQueuesAnswer :
    (∃ (t : Nat) (m : CMsg) (q : Queue) (s : State), s.qsendTakes t m q ∧ q.state = 2 ∧ m.hdr.epoch = q.epoch ∧ q.entries.length < q.depth ∧ ((s.stop t).q.aliveOf m.hdr.snode.toNat m.hdr.stile.toNat m.hdr.index.toNat).1 = none) ∧
    (∃ (t : Nat) (m : CMsg) (q : Queue) (s : State), s.qsendTakes t m q ∧ ((q.state = 1 ∨ (q.state = 2 ∧ m.hdr.epoch ≠ q.epoch)))) ∧
    (∃ (t : Nat) (m : CMsg) (q : Queue) (s : State), s.qsendTakes t m q ∧ q.state = 2 ∧ m.hdr.epoch = q.epoch ∧ q.depth ≤ q.entries.length ∧ ((s.stop t).q.aliveOf m.hdr.snode.toNat m.hdr.stile.toNat m.hdr.index.toNat).1 = none) ∧
    (∃ (t : Nat) (m : CMsg) (q : Queue) (e : Alive) (s : State), s.qsendTakes t m q ∧ q.state = 2 ∧ m.hdr.epoch = q.epoch ∧ ((s.stop t).q.aliveOf m.hdr.snode.toNat m.hdr.stile.toNat m.hdr.index.toNat).1 = some e ∧ e.last = m.hdr.alive) ∧
    (∃ (t : Nat) (m : CMsg) (s : State), s.stopRuns t ∧ m.hdr.mkind = 1 ∧ (s.qFree t 3 = false ∨ (s.stop t).q.arrivals = true)) ∧
    (∃ (t : Nat) (k : Nat) (g : BitVec 4) (e : List Byte) (es : List (List Byte)) (s : State), s.msgTakes t 2 g ∧ k < 16 ∧ (s.queue t k).entries = e :: es ∧ (s.queue t k).dropped = false) ∧
    (∃ (t : Nat) (k : Nat) (g : BitVec 4) (e : List Byte) (es : List (List Byte)) (s : State), s.msgTakes t 2 g ∧ k < 16 ∧ (s.queue t k).entries = e :: es ∧ (s.queue t k).dropped = false) ∧
    (∃ (t : Nat) (k : Nat) (g : BitVec 4) (fixed : Bool) (bad : Nat) (s : State), s.msgTakes t 2 g ∧ k < 16 ∧ (s.queue t k).entries = []) ∧
    (∃ (t : Nat) (k : Nat) (ks : List Nat) (s : State), s.stopRuns t ∧ s.shut (.dsp t) = false ∧ (s.stop t).q.disp = k :: ks) ∧
    (∃ (t : Nat) (n : Nat) (v : Nat) (r : MsgReq) (p : PanRec) (s : State), s.msgTakes t 0 (mqTag r.hdr) ∧ mqOp r.hdr = 5 ∧ mqQueue r.hdr < 16 ∧ 1 ≤ (r.hdr.extractLsb' 72 6).toNat ∧ (r.hdr.extractLsb' 72 6).toNat ≤ 48 ∧ s.tilePan t = some p ∧ p.rank (mqRank r.hdr) = some (n, v) ∧ (s.stop t).cr.reqs = [] ∧ (∀ e ∈ (s.stop t).cr.issuedAt, e.1 ≠ (s.stop t).si.cseq.toNat) ∧ s.draining t = false) ∧
    (∃ (t : Nat) (m : CMsg) (r : CReq) (g : BitVec 4) (s : State), s.stopRuns t ∧ m.hdr.mkind = 2 ∧ (s.stop t).cr.reqs = [r] ∧ r.op = 5 ∧ r.answers m = true ∧ m.hdr.arg.extractLsb' 0 4 = 0 ∧ r.tag = some g ∧ s.shut (.msg t) = false) ∧
    (∃ (t : Nat) (m : CMsg) (r : CReq) (s : State), s.stopRuns t ∧ m.hdr.mkind = 2 ∧ (s.stop t).cr.reqs = [r] ∧ r.op = 5 ∧ r.answers m = true ∧ (m.hdr.arg.extractLsb' 0 4).toNat = nNotReady ∧ r.notReady < 7) :=
  ⟨⟨(17), (qm 3), ({ (default : Queue) with state := 2, depth := 4, disp := true }), (q17 3 ({ (default : Queue) with state := 2, depth := 4, disp := true })), by unfold State.qsendTakes State.stopRuns; decide +kernel⟩,
    ⟨(17), (qm 3), ({ (default : Queue) with state := 2, depth := 4, epoch := 7 }), (q17 3 ({ (default : Queue) with state := 2, depth := 4, epoch := 7 })), by unfold State.qsendTakes State.stopRuns; decide +kernel⟩,
    ⟨(17), (qm 3), ({ (default : Queue) with state := 2, depth := 1, entries := [[1]] }), (q17 3 ({ (default : Queue) with state := 2, depth := 1, entries := [[1]] })), by unfold State.qsendTakes State.stopRuns; decide +kernel⟩,
    ⟨(17), (qm 3), ({ (default : Queue) with state := 2, depth := 1, entries := [[1]] }), ({ snode := 0, stile := 40, queue := 3, last := 0 }), ((q17 3 ({ (default : Queue) with state := 2, depth := 1, entries := [[1]] })).modQ 17 fun b => { b with alive := [({ snode := 0, stile := 40, queue := 3, last := 0 })] }), by unfold State.qsendTakes State.stopRuns; decide +kernel⟩,
    ⟨(17), (qm 3), (at17 fun st => { st with q := { st.q with turn := some (0, 3) } }), by unfold State.stopRuns; decide +kernel⟩,
    ⟨(17), (3), (2), ([1]), ([[2]]), (q17 3 { (default : Queue) with state := 2, depth := 4, entries := [[1], [2]] }), by unfold State.msgTakes State.portTakes State.stopRuns; decide +kernel⟩,
    ⟨(17), (3), (2), ([1]), ([[2]]), (q17 3 { (default : Queue) with state := 2, depth := 4, entries := [[1], [2]] }), by unfold State.msgTakes State.portTakes State.stopRuns; decide +kernel⟩,
    ⟨(17), (3), (2), (true), (2), (q17 3 { (default : Queue) with state := 2, depth := 4 }), by unfold State.msgTakes State.portTakes State.stopRuns; decide +kernel⟩,
    ⟨(17), (3), ([4]), (inPan.modQ 17 fun b => { b with disp := [3, 4] }), by unfold State.stopRuns; decide +kernel⟩,
    ⟨(17), (0), (129), ({ hdr := BitVec.ofNat 128 (5 * 2 ^ 124 + 3 * 2 ^ 119 + 32 * 2 ^ 90 + 2 * 2 ^ 72), payload := [1, 2] }), (pan1), (inPan), by unfold State.msgTakes State.portTakes State.stopRuns; decide +kernel⟩,
    ⟨(17), (cm 2 0x30 []), ({ (default : CReq) with op := 5, issued := true, tag := some 2, msg := cm 1 0 [] }), (2), (at17 fun st => { st with cr := { st.cr with reqs := [({ (default : CReq) with op := 5, issued := true, tag := some 2, msg := cm 1 0 [] })] } }), by unfold State.stopRuns; decide +kernel⟩,
    ⟨(17), (cm 2 (BitVec.ofNat 32 nNotReady) []), ({ (default : CReq) with op := 5, issued := true, tag := some 2, msg := cm 1 0 [] }), (at17 fun st => { st with cr := { st.cr with reqs := [({ (default : CReq) with op := 5, issued := true, tag := some 2, msg := cm 1 0 [] })] } }), by unfold State.stopRuns; decide +kernel⟩⟩

/-- States and operands that meet the hypotheses of RingQueues, clause by clause. -/
theorem meets_RingQueues :
    (∃ (t : Nat) (k : Nat) (p : Pkt) (q : Queue) (s : State), s.stopRuns t ∧ p.hdr.type = tRing ∧ s.siTakes t p.hdr ∧ (s.stop t).si.keyState (keyOf p.hdr) s.ft = none ∧ (p.hdr.addr.extractLsb' 26 5).toNat = k ∧ s.queue t k = q ∧ q.writes = [] ∧ q.state = 2 ∧ ringAddrOk p.hdr.addr = true ∧ (p.hdr.addr.extractLsb' 40 4).toNat = s.chipPos ∧ tileId (p.hdr.addr.extractLsb' 35 5).toNat (p.hdr.addr.extractLsb' 31 4).toNat = t ∧ countOk p.hdr = true ∧ p.hdr.qepoch = q.epoch ∧ q.wrLap = q.rdLap ∧ q.rdOfs ≤ q.wrOfs ∧ q.wrOfs + 32 + ceilDiv p.hdr.plen.toNat 32 * 32 ≤ q.size.toNat) ∧
    (∃ (t : Nat) (k : Nat) (w : RingWrite) (ws : List RingWrite) (q : Queue) (s : State), s.stopRuns t ∧ s.queue t k = q ∧ q.writes = w :: ws ∧ w.pad = none ∧ w.ofs + 32 + ceilDiv w.hdr.plen.toNat 32 * 32 < q.size.toNat) ∧
    (∃ (t : Nat) (k : Nat) (p : Pkt) (q : Queue) (s : State), s.stopRuns t ∧ p.hdr.type = tRing ∧ s.siTakes t p.hdr ∧ (s.stop t).si.keyState (keyOf p.hdr) s.ft = none ∧ (p.hdr.addr.extractLsb' 26 5).toNat = k ∧ s.queue t k = q ∧ q.writes = [] ∧ q.state = 2 ∧ ringAddrOk p.hdr.addr = true ∧ (p.hdr.addr.extractLsb' 40 4).toNat = s.chipPos ∧ tileId (p.hdr.addr.extractLsb' 35 5).toNat (p.hdr.addr.extractLsb' 31 4).toNat = t ∧ countOk p.hdr = true ∧ p.hdr.qepoch = q.epoch ∧ q.place p.hdr.plen.toNat = none) ∧
    (∃ (t : Nat) (k : Nat) (g : BitVec 4) (b : BitVec 40) (n : BitVec 31) (s : State), s.msgTakes t 0 g ∧ 16 ≤ k ∧ k < 32 ∧ (s.queue t k).state = 1) ∧
    (∃ (t : Nat) (k : Nat) (w : Nat) (m : CMsg) (f : RingField) (s : State), s.stopRuns t ∧ s.regWrite t (ringReg f).1 m ∧ (ringReg f).2 = regData m ∧ (s.stop t).q.sel = k ∧ 16 ≤ k ∧ k < 32 ∧ (s.queue t k).state = 1) ∧
    (∃ (t : Nat) (k : Nat) (ofs : Nat) (g : BitVec 4) (q : Queue) (s : State), s.msgTakes t 0 g ∧ 16 ≤ k ∧ k < 32 ∧ s.queue t k = q ∧ q.rdLap = q.wrLap ∧ q.rdOfs ≤ ofs ∧ ofs ≤ q.wrOfs ∧ ofs < q.size.toNat ∧ ofs % 32 = 0) ∧
    (∃ (t : Nat) (k : Nat) (ofs : Nat) (g : BitVec 4) (q : Queue) (s : State), s.msgTakes t 0 g ∧ 16 ≤ k ∧ k < 32 ∧ s.queue t k = q ∧ q.rdLap = q.wrLap ∧ q.rdOfs ≤ q.wrOfs ∧ q.wrOfs < ofs) ∧
    (∃ (t : Nat) (k : Nat) (ofs : Nat) (w : Nat) (m : CMsg) (q : Queue) (s : State), s.stopRuns t ∧ s.regWrite t 0x61C m ∧ (s.stop t).q.sel = k ∧ 16 ≤ k ∧ k < 32 ∧ s.queue t k = q ∧ regData m = BitVec.ofBool q.rdLap ++ BitVec.ofNat 31 ofs ∧ q.rdLap = q.wrLap ∧ q.rdOfs ≤ ofs ∧ ofs ≤ q.wrOfs ∧ ofs < q.size.toNat ∧ ofs % 32 = 0) :=
  ⟨⟨(17), (16), ({ hdr := { h17 with type := 5, addr := ringAt17 }, data := [1, 2, 3, 4] }), ({ (default : Queue) with state := 2, size := 4096, wrOfs := 64 }), (q17 16 ({ (default : Queue) with state := 2, size := 4096, wrOfs := 64 })), by unfold State.stopRuns State.siTakes; decide +kernel⟩,
    ⟨(17), (16), ({ hdr := h17, ofs := 64, lap := false, pad := none }), ([]), ({ (default : Queue) with state := 2, size := 4096, wrOfs := 64, writes := [({ hdr := h17, ofs := 64, lap := false, pad := none })] }), (q17 16 ({ (default : Queue) with state := 2, size := 4096, wrOfs := 64, writes := [({ hdr := h17, ofs := 64, lap := false, pad := none })] })), by unfold State.stopRuns; decide +kernel⟩,
    ⟨(17), (16), ({ hdr := { h17 with type := 5, addr := ringAt17 }, data := [1, 2, 3, 4] }), ({ (default : Queue) with state := 2, size := 4096, wrOfs := 0, wrLap := true }), (q17 16 ({ (default : Queue) with state := 2, size := 4096, wrOfs := 0, wrLap := true })), by unfold State.stopRuns State.siTakes; decide +kernel⟩,
    ⟨(17), (16), (2), (64), (4096), (q17 16 { (default : Queue) with state := 1 }), by unfold State.msgTakes State.portTakes State.stopRuns; decide +kernel⟩,
    ⟨(17), (16), (0), (regWr 0x614 4096), (.size 4096), ((q17 16 { (default : Queue) with state := 1 }).modQ 17 fun q => { q with sel := 16 }), by unfold State.stopRuns State.regWrite; decide +kernel⟩,
    ⟨(17), (16), (64), (2), ({ (default : Queue) with state := 2, size := 4096, wrOfs := 64 }), (q17 16 ({ (default : Queue) with state := 2, size := 4096, wrOfs := 64 })), by unfold State.msgTakes State.portTakes State.stopRuns; decide +kernel⟩,
    ⟨(17), (16), (96), (2), ({ (default : Queue) with state := 2, size := 4096, wrOfs := 64 }), (q17 16 ({ (default : Queue) with state := 2, size := 4096, wrOfs := 64 })), by unfold State.msgTakes State.portTakes State.stopRuns; decide +kernel⟩,
    ⟨(17), (16), (64), (0), (regWr 0x61C 64), ({ (default : Queue) with state := 2, size := 4096, wrOfs := 64 }), ((q17 16 ({ (default : Queue) with state := 2, size := 4096, wrOfs := 64 })).modQ 17 fun b => { b with sel := 16 }), by unfold State.stopRuns State.regWrite; decide +kernel⟩⟩

/-- States and operands that meet the hypotheses of LocksDecide, clause by clause. -/
theorem meets_LocksDecide :
    (∃ (t : Nat) (m : CMsg) (l : Lock) (s : State), s.lockTakes t m 3 l ∧ ((l.state = 0 ∨ l.state = 2))) ∧
    (∃ (t : Nat) (m : CMsg) (l : Lock) (s : State), s.lockTakes t m 3 l ∧ l.state = 1) ∧
    (∃ (t : Nat) (m : CMsg) (l : Lock) (s : State), s.lockTakes t m 4 l ∧ l.state = 1 ∧ l.node = m.hdr.snode.toNat ∧ l.tile = m.hdr.stile.toNat ∧ l.gen = m.hdr.arg.extractLsb' 0 16) ∧
    (∃ (t : Nat) (m : CMsg) (l : Lock) (s : State), s.lockTakes t m 4 l ∧ l.state = 1 ∧ ((l.node ≠ m.hdr.snode.toNat ∨ l.tile ≠ m.hdr.stile.toNat ∨ l.gen ≠ m.hdr.arg.extractLsb' 0 16))) ∧
    (∃ (t : Nat) (k : Nat) (m : CMsg) (l : Lock) (s : State), s.stopRuns t ∧ m.hdr.mkind = 8 ∧ m.hdr.snode.toNat = s.node ∧ (s.stop t).lk.locks = [(k, l)] ∧ l.state = 1 ∧ l.node = (m.hdr.arg.extractLsb' 9 12).toNat ∧ (((m.hdr.arg.extractLsb' 0 9).toNat = 0x1FF ∨ (m.hdr.arg.extractLsb' 0 9).toNat = l.tile))) ∧
    (∃ (t : Nat) (m : CMsg) (s : State), s.stopRuns t ∧ m.hdr.mkind = 8 ∧ m.hdr.snode.toNat ≠ s.node) ∧
    (∃ (t : Nat) (n : Nat) (v : Nat) (r : MsgReq) (p : PanRec) (s : State), s.msgTakes t 0 (mqTag r.hdr) ∧ mqOp r.hdr = 6 ∧ (r.hdr.extractLsb' 56 16) ≠ 0 ∧ s.tilePan t = some p ∧ p.rank (mqRank r.hdr) = some (n, v) ∧ (s.stop t).cr.reqs = [] ∧ (∀ e ∈ (s.stop t).cr.issuedAt, e.1 ≠ (s.stop t).si.cseq.toNat) ∧ s.draining t = false) ∧
    (∃ (t : Nat) (n : Nat) (v : Nat) (r : MsgReq) (p : PanRec) (s : State), s.msgTakes t 0 (mqTag r.hdr) ∧ mqOp r.hdr = 7 ∧ s.tilePan t = some p ∧ p.rank (mqRank r.hdr) = some (n, v) ∧ (s.stop t).cr.reqs = [] ∧ (∀ e ∈ (s.stop t).cr.issuedAt, e.1 ≠ (s.stop t).si.cseq.toNat)) ∧
    (∃ (t : Nat) (m : CMsg) (r : CReq) (g : BitVec 4) (s : State), s.stopRuns t ∧ m.hdr.mkind = 5 ∧ (s.stop t).cr.reqs = [r] ∧ r.op = 6 ∧ r.answers m = true ∧ m.hdr.arg.extractLsb' 0 4 = 0 ∧ (m.hdr.arg.extractLsb' 4 4).toNat ≤ 1 ∧ r.tag = some g ∧ s.shut (.msg t) = false) ∧
    (∃ (t : Nat) (m : CMsg) (r : CReq) (s : State), s.stopRuns t ∧ m.hdr.mkind = 5 ∧ (s.stop t).cr.reqs = [r] ∧ r.op = 6 ∧ r.answers m = true ∧ m.hdr.arg.extractLsb' 0 4 = 0 ∧ m.hdr.arg.extractLsb' 4 4 = 2) ∧
    (∃ (t : Nat) (tag : Nat) (d : Nat) (r : CReq) (s : State), s.stopRuns t ∧ s.acqOf t tag = some r ∧ (s.stop t).cr.reqs = [r] ∧ r.issued = false ∧ r.lostDue = some d ∧ d ≤ s.ft ∧ (∀ e ∈ (s.stop t).cr.issuedAt, e.1 ≠ (s.stop t).si.cseq.toNat) ∧ s.draining t = false) ∧
    (∃ (t : Nat) (tag : Nat) (d : Nat) (r : CReq) (g : BitVec 4) (s : State), s.stopRuns t ∧ s.acqOf t tag = some r ∧ (s.stop t).cr.reqs = [r] ∧ r.limit = some d ∧ d ≤ s.ft ∧ r.tag = some g ∧ s.shut (.msg t) = false) :=
  ⟨⟨(17), ({ (cm 3 5 []) with hdr := { (cm 3 5 []).hdr with index := 3 } }), ({ (default : Lock) with state := 2, gen := 4 }), (inPan.setLock 17 3 ({ (default : Lock) with state := 2, gen := 4 })), by unfold State.lockTakes State.stopRuns; decide +kernel⟩,
    ⟨(17), ({ (cm 3 5 []) with hdr := { (cm 3 5 []).hdr with index := 3 } }), ({ (default : Lock) with state := 1, gen := 4 }), (inPan.setLock 17 3 ({ (default : Lock) with state := 1, gen := 4 })), by unfold State.lockTakes State.stopRuns; decide +kernel⟩,
    ⟨(17), ({ (cm 4 0x10004 []) with hdr := { (cm 4 0x10004 []).hdr with index := 3 } }), ({ (default : Lock) with state := 1, gen := 4, tile := 40 }), (inPan.setLock 17 3 ({ (default : Lock) with state := 1, gen := 4, tile := 40 })), by unfold State.lockTakes State.stopRuns; decide +kernel⟩,
    ⟨(17), ({ (cm 4 0x10004 []) with hdr := { (cm 4 0x10004 []).hdr with index := 3 } }), ({ (default : Lock) with state := 1, gen := 5, tile := 40 }), (inPan.setLock 17 3 ({ (default : Lock) with state := 1, gen := 5, tile := 40 })), by unfold State.lockTakes State.stopRuns; decide +kernel⟩,
    ⟨(17), (3), (cm 8 (lostArg 0 40) []), ({ (default : Lock) with state := 1, gen := 5, tile := 40 }), (inPan.setLock 17 3 ({ (default : Lock) with state := 1, gen := 5, tile := 40 })), by unfold State.stopRuns; decide +kernel⟩,
    ⟨(17), ({ (cm 8 (lostArg 7 40) []) with hdr := { (cm 8 (lostArg 7 40) []).hdr with snode := 7 } }), (inPan), by unfold State.stopRuns; decide +kernel⟩,
    ⟨(17), (0), (129), ({ hdr := BitVec.ofNat 128 (6 * 2 ^ 124 + 3 * 2 ^ 110 + 32 * 2 ^ 90 + 2 * 2 ^ 56), payload := [] }), (pan1), (inPan), by unfold State.msgTakes State.portTakes State.stopRuns; decide +kernel⟩,
    ⟨(17), (0), (129), ({ hdr := BitVec.ofNat 128 (7 * 2 ^ 124 + 3 * 2 ^ 110 + 32 * 2 ^ 90 + 2 * 2 ^ 40), payload := [] }), (pan1), (inPan), by unfold State.msgTakes State.portTakes State.stopRuns; decide +kernel⟩,
    ⟨(17), (cm 5 0x40010 []), ({ (default : CReq) with op := 6, issued := true, tag := some 2, msg := cm 3 0 [] }), (2), (at17 fun st => { st with cr := { st.cr with reqs := [({ (default : CReq) with op := 6, issued := true, tag := some 2, msg := cm 3 0 [] })] } }), by unfold State.stopRuns; decide +kernel⟩,
    ⟨(17), (cm 5 0x40020 []), ({ (default : CReq) with op := 6, issued := true, tag := some 2, msg := cm 3 0 [] }), (at17 fun st => { st with cr := { st.cr with reqs := [({ (default : CReq) with op := 6, issued := true, tag := some 2, msg := cm 3 0 [] })] } }), by unfold State.stopRuns; decide +kernel⟩,
    ⟨(17), (2), (0), ({ (default : CReq) with op := 6, tag := some 2, msg := cm 3 0 [], lostDue := some 0 }), (at17 fun st => { st with cr := { st.cr with reqs := [({ (default : CReq) with op := 6, tag := some 2, msg := cm 3 0 [], lostDue := some 0 })] } }), by unfold State.stopRuns; decide +kernel⟩,
    ⟨(17), (2), (0), ({ (default : CReq) with op := 6, tag := some 2, msg := cm 3 0 [], limit := some 0 }), (2), (at17 fun st => { st with cr := { st.cr with reqs := [({ (default : CReq) with op := 6, tag := some 2, msg := cm 3 0 [], limit := some 0 })] } }), by unfold State.stopRuns; decide +kernel⟩⟩

/-- States and operands that meet the hypotheses of InterleaveIsOneToOne, clause by clause. -/
theorem meets_InterleaveIsOneToOne :
    (∃ (g : Nat) (h : Nat), granuleMap g = granuleMap h) ∧
    (∃ (t : Nat) (a : Nat) (n : Nat) (o : MOrig) (k : MKind) (d : List Byte) (s : State), s.img.act.watch = []) ∧
    (∃ (sl : Nat) (m : MMsg) (s : State), s.running = true ∧ sl < nSlices s.build ∧ s.shut (.slice sl) = false ∧ (s.attach sl).busy = false ∧ (s.attach sl).queue = [m] ∧ (s.attach sl).pend = []) :=
  ⟨⟨(7), (7), by decide +kernel⟩,
    ⟨(17), (0x1234), (8), (.mp 5), (.read), ([]), (memState), by decide +kernel⟩,
    ⟨(5), (mreq1), ({ memState with slices := [(5, { (default : Attach) with queue := [(mreq1)] })] }), by decide +kernel⟩⟩

/-- States and operands that meet the hypotheses of ClientsReachMemory, clause by clause. -/
theorem meets_ClientsReachMemory :
    (∃ (t : Nat) (r : MpReq) (k : MKind) (i : Instr) (p : PanRec) (s : State), (i, k) ∈ [(Instr.mpRead t r, MKind.read), (.mpWrite t r, .write), (.atomicAdd t r, .add), (.atomicCas t r, .cas), (.atomicXchg t r, .xchg)] ∧ s.mpTakes t ∧ s.mpShape k r = true ∧ s.tilePan t = some p ∧ p.allows r.addr.toNat r.len (kindRight k) = true ∧ s.img.act.watch = [] ∧ (s.stop t).mp.reqs = [] ∧ s.rowHeld t = false ∧ (s.stop t).mFree 4 (subCh t (granuleMap (r.addr.toNat % 2 ^ 40 / 256)).1) false = true) ∧
    (∃ (t : Nat) (r : MpReq) (k : MKind) (i : Instr) (s : State), (i, k) ∈ [(Instr.mpRead t r, MKind.read), (.mpWrite t r, .write), (.atomicAdd t r, .add), (.atomicCas t r, .cas), (.atomicXchg t r, .xchg)] ∧ s.mpTakes t ∧ s.mpShape k r = false) ∧
    (∃ (t : Nat) (r : MpReq) (k : MKind) (i : Instr) (p : PanRec) (s : State), (i, k) ∈ [(Instr.mpRead t r, MKind.read), (.mpWrite t r, .write), (.atomicAdd t r, .add), (.atomicCas t r, .cas), (.atomicXchg t r, .xchg)] ∧ s.mpTakes t ∧ s.mpShape k r = true ∧ s.tilePan t = some p ∧ p.allows r.addr.toNat r.len (kindRight k) = false) ∧
    (∃ (t : Nat) (g : BitVec 8) (s : State), s.mpTakes t) ∧
    (∃ (t : Nat) (g : BitVec 8) (n : BitVec 9) (s : State), s.mpTakes t ∧ n ≠ 0) ∧
    (∃ (t : Nat) (g : BitVec 8) (s : State), s.stopRuns t ∧ s.build = .hfE ∧ s.shut (.mp t) = false ∧ (s.stop t).mp.line = [.fence g] ∧ (∀ x ∈ (s.stop t).mp.reqs, x.lost.isSome = true)) ∧
    (∃ (t : Nat) (x : MReq) (l : List MWait) (g : BitVec 8) (s : State), s.stopRuns t ∧ s.build = .hfE ∧ (s.stop t).mp.line = .fence g :: l ∧ x ∈ (s.stop t).mp.reqs ∧ x.lost = none) ∧
    (∃ (t : Nat) (r : MpReq) (g : BitVec 8) (n : BitVec 9) (i : Instr) (s : State), s.build = .hfS ∧ i ∈ [Instr.mpRead t r, .mpWrite t r, .atomicAdd t r, .atomicCas t r, .atomicXchg t r, .mpFence t g n, .fenceComplete t]) :=
  ⟨⟨(17), ({ addr := 0x1234, len := 8, tag := 5, data := (List.range 256).map (BitVec.ofNat 8) }), (.write), (.mpWrite 17 ({ addr := 0x1234, len := 8, tag := 5, data := (List.range 256).map (BitVec.ofNat 8) })), (panMem), (memState), by unfold State.mpTakes State.portTakes State.stopRuns; decide +kernel⟩,
    ⟨(17), ({ addr := 0x12FD, len := 8, tag := 5, data := [] }), (.add), (.atomicAdd 17 ({ addr := 0x12FD, len := 8, tag := 5, data := [] })), (memState), by unfold State.mpTakes State.portTakes State.stopRuns; decide +kernel⟩,
    ⟨(17), ({ addr := 0x1234, len := 8, tag := 5, data := [] }), (.read), (.mpRead 17 ({ addr := 0x1234, len := 8, tag := 5, data := [] })), (pan1), ({ inPan with img := { inPan.img with act := { inPan.img.act with memS := 6 } } }), by unfold State.mpTakes State.portTakes State.stopRuns; decide +kernel⟩,
    ⟨(17), (3), (memState), by unfold State.mpTakes State.portTakes State.stopRuns; decide +kernel⟩,
    ⟨(17), (3), (4), (memState), by unfold State.mpTakes State.portTakes State.stopRuns; decide +kernel⟩,
    ⟨(17), (3), (memState.modMp 17 fun x => { x with line := [.fence 3] }), by unfold State.stopRuns; decide +kernel⟩,
    ⟨(17), (mr17), ([]), (3), (memState.modMp 17 fun y => { y with line := [.fence 3], reqs := [mr17] }), by unfold State.stopRuns; decide +kernel⟩,
    ⟨(17), ({ addr := 0x1234, len := 8, tag := 5, data := [] }), (3), (0), (.mpRead 17 ({ addr := 0x1234, len := 8, tag := 5, data := [] })), ({ memState with build := .hfS }), by decide +kernel⟩⟩

/-- States and operands that meet the hypotheses of PlaneCarriesRequests, clause by clause. -/
theorem meets_PlaneCarriesRequests :
    (∃ (t : Nat) (port : Nat) (sub : Nat) (p : Nat) (m : MMsg) (s : State), s.mTakes t port ∧ mFlits m = 1 ∧ s.mOut t m = .out p ∧ p < 4 ∧ s.mGrants t p sub m) ∧
    (∃ (t : Nat) (port : Nat) (sub : Nat) (m : MMsg) (s : State), s.mTakes t port ∧ mFlits m = 1 ∧ s.mOut t m = .out 4 ∧ m.ret = false ∧ s.mGrants t (5 + m.slice % 2) sub m ∧ s.shut (.slice m.slice) = false) ∧
    (∃ (t : Nat) (port : Nat) (sub : Nat) (m : MMsg) (r : MReq) (g : BitVec 8) (s : State), s.mTakes t port ∧ mFlits m = 1 ∧ s.mOut t m = .out 4 ∧ m.ret = true ∧ s.mGrants t 4 sub m ∧ (s.stop t).mp.reqs = [r] ∧ r.tag = m.tag.toNat ∧ r.lost = none ∧ r.orig = .mp g ∧ r.kind = .read ∧ m.status = 0 ∧ (s.stop t).mp.line = [] ∧ s.shut (.mp t) = false) ∧
    (∃ (t : Nat) (port : Nat) (sub : Nat) (m : MMsg) (s : State), s.mTakes t port ∧ mFlits m = 1) ∧
    (∃ (t : Nat) (tag : Nat) (r : MReq) (g : BitVec 8) (s : State), s.stopRuns t ∧ s.build = .hfE ∧ (s.stop t).mp.reqs = [r] ∧ r.tag = tag ∧ r.lost = none ∧ r.deadline ≤ s.ft ∧ r.orig = .mp g ∧ s.shut (.mp t) = false) ∧
    (∃ (t : Nat) (tag : Nat) (s : State), s.stopRuns t ∧ s.build = .hfE ∧ (s.stop t).mp.line = []) :=
  ⟨⟨(17), (4), (0), (1), (mreq1), (memState), by unfold State.mTakes State.stopRuns State.mGrants; decide +kernel⟩,
    ⟨(32), (2), (0), (mreq1), (memState), by unfold State.mTakes State.stopRuns State.mGrants; decide +kernel⟩,
    ⟨(17), (2), (0), ({ mreq1 with ret := true, data := [1] }), (mr17), (9), (memState.modMp 17 fun x => { x with reqs := [(mr17)] }), by unfold State.mTakes State.stopRuns State.mGrants; decide +kernel⟩,
    ⟨(17), (2), (0), (mreq1), (memState), by unfold State.mTakes State.stopRuns; decide +kernel⟩,
    ⟨(17), (3), (mr17), (9), (memState.modMp 17 fun x => { x with reqs := [(mr17)] }), by unfold State.stopRuns; decide +kernel⟩,
    ⟨(17), (3), (memState.modMp 17 fun x => { x with reqs := [{ mr17 with lost := some 0 }, { mr17 with lost := some 1 }] }), by unfold State.stopRuns; decide +kernel⟩⟩

/-- States and operands that meet the hypotheses of SlicesAnswer, clause by clause. -/
theorem meets_SlicesAnswer :
    (∃ (sl : Nat) (m : MMsg) (s : State), s.running = true ∧ sl < nSlices s.build ∧ s.shut (.slice sl) = false ∧ (s.attach sl).busy = false ∧ (s.attach sl).queue = [m] ∧ (s.attach sl).pend = []) ∧
    (∃ (sl : Nat) (tag : BitVec 8) (data : List Byte) (p : SlPend) (s : State), s.sliceAnswers sl p.msg.tile ∧ (s.attach sl).pend = [p] ∧ p.tag = tag.toNat ∧ tag.toNat < 32 ∧ p.msg.kind = .read) ∧
    (∃ (sl : Nat) (tag : BitVec 8) (data : List Byte) (p : SlPend) (s : State), s.sliceAnswers sl p.msg.tile ∧ (s.attach sl).pend = [p] ∧ p.tag = tag.toNat ∧ tag.toNat < 32 ∧ p.msg.kind = .write) ∧
    (∃ (sl : Nat) (tag : BitVec 8) (data : List Byte) (p : SlPend) (s : State), s.running = true ∧ sl < nSlices s.build ∧ (s.attach sl).pend = [p] ∧ p.tag = tag.toNat ∧ tag.toNat < 32 ∧ isAtomic p.msg.kind = true ∧ p.old = none) ∧
    (∃ (sl : Nat) (tag : BitVec 8) (data : List Byte) (old : List Byte) (p : SlPend) (s : State), s.sliceAnswers sl p.msg.tile ∧ (s.attach sl).pend = [p] ∧ p.tag = tag.toNat ∧ tag.toNat < 32 ∧ isAtomic p.msg.kind = true ∧ p.old = some old) ∧
    (∃ (sl : Nat) (st : Nat) (tag : BitVec 8) (data : List Byte) (p : SlPend) (s : State), s.sliceAnswers sl p.msg.tile ∧ (s.attach sl).pend = [p] ∧ p.tag = tag.toNat ∧ tag.toNat < 32 ∧ st ≠ 0) ∧
    (∃ (sl : Nat) (code : Byte) (full : Bool) (s : State), s.running = true ∧ sl < nSlices s.build ∧ (s.attach sl).events.length < 4) :=
  ⟨⟨(5), (mreq1), ({ memState with slices := [(5, { (default : Attach) with queue := [(mreq1)] })] }), by decide +kernel⟩,
    ⟨(5), (0), ((List.range 256).map (BitVec.ofNat 8)), ({ tag := 0, msg := mreq1, old := none, ans := none }), ({ memState with slices := [(5, { (default : Attach) with pend := [({ tag := 0, msg := mreq1, old := none, ans := none })] })] }), by unfold State.sliceAnswers; decide +kernel⟩,
    ⟨(5), (0), ([]), ({ tag := 0, msg := { mreq1 with kind := .write }, old := none, ans := none }), ({ memState with slices := [(5, { (default : Attach) with pend := [({ tag := 0, msg := { mreq1 with kind := .write }, old := none, ans := none })] })] }), by unfold State.sliceAnswers; decide +kernel⟩,
    ⟨(5), (0), ((List.range 256).map (BitVec.ofNat 8)), ({ tag := 0, msg := { mreq1 with kind := .add, lo := 8, len := 8, data := [1, 0, 0, 0, 0, 0, 0, 0] }, old := none, ans := none }), ({ memState with slices := [(5, { (default : Attach) with pend := [({ tag := 0, msg := { mreq1 with kind := .add, lo := 8, len := 8, data := [1, 0, 0, 0, 0, 0, 0, 0] }, old := none, ans := none })], busy := true })] }), by decide +kernel⟩,
    ⟨(5), (0), ([]), ([1]), ({ tag := 0, msg := { mreq1 with kind := .add, lo := 8, len := 8 }, old := some [1], ans := none }), ({ memState with slices := [(5, { (default : Attach) with pend := [({ tag := 0, msg := { mreq1 with kind := .add, lo := 8, len := 8 }, old := some [1], ans := none })] })] }), by unfold State.sliceAnswers; decide +kernel⟩,
    ⟨(5), (1), (0), ([]), ({ tag := 0, msg := mreq1, old := none, ans := none }), ({ memState with slices := [(5, { (default : Attach) with pend := [({ tag := 0, msg := mreq1, old := none, ans := none })] })] }), by unfold State.sliceAnswers; decide +kernel⟩,
    ⟨(5), (7), (false), (memState), by decide +kernel⟩⟩

/-- States and operands that meet the hypotheses of ServiceTilePerforms, clause by clause. -/
theorem meets_ServiceTilePerforms :
    (∃ (t : Nat) (p : Pkt) (s : State), s.servesPeer t p tMwrite ∧ countOk p.hdr = true ∧ s.serveOk p.hdr p.hdr.plen.toNat 1 = true ∧ p.hdr.pidx = 0 ∧ p.hdr.pcnt = 1 ∧ p.hdr.addr.toNat % 256 + p.hdr.plen.toNat ≤ 256 ∧ (s.stop t).mp.serves = [] ∧ (s.stop t).mp.line = [] ∧ (s.stop t).mp.reqs = [] ∧ s.img.act.watch = [] ∧ s.rowHeld t = false ∧ (s.stop t).mFree 4 (subCh t (granuleMap (p.hdr.addr.toNat % 2 ^ 40 / 256)).1) false = true ∧ (s.stop t).si.keyState (keyOf p.hdr) s.ft = none ∧ (s.stop t).si.asms = []) ∧
    (∃ (t : Nat) (n : Nat) (p : Pkt) (s : State), s.servesPeer t p tMread ∧ countOk p.hdr = true ∧ (p.hdr.w6.extractLsb' 40 24).toNat = n ∧ 1 ≤ n ∧ s.serveOk p.hdr n 0 = true ∧ p.hdr.addr.toNat % 256 + n ≤ 256 ∧ (s.stop t).mp.serves = [] ∧ (s.stop t).mp.line = [] ∧ (s.stop t).mp.reqs = [] ∧ s.img.act.watch = [] ∧ s.rowHeld t = false ∧ (s.stop t).mFree 4 (subCh t (granuleMap (p.hdr.addr.toNat % 2 ^ 40 / 256)).1) false = true) ∧
    (∃ (t : Nat) (n : Nat) (right : Nat) (i : Instr) (p : Pkt) (s : State), s.servesPeer t p (if right = 1 then tMwrite else tMread) ∧ p.hdr.dmode = 0 ∧ (i, n, right) ∈ [(Instr.mwriteArrive t p, p.hdr.plen.toNat, 1), (.mreadArrive t p, (p.hdr.w6.extractLsb' 40 24).toNat, 0)] ∧ s.serveOk p.hdr n right = false) :=
  ⟨⟨(17), ({ hdr := { h17 with type := 1, addr := 0x1234 }, data := [1, 2, 3, 4] }), (memState), by unfold State.servesPeer State.stopRuns; decide +kernel⟩,
    ⟨(17), (8), ({ hdr := { h17 with type := 2, addr := 0x1234, plen := 0, w6 := 8 * 2 ^ 40 }, data := [] }), (memState), by unfold State.servesPeer State.stopRuns; decide +kernel⟩,
    ⟨(17), (4), (1), (.mwriteArrive 17 ({ hdr := { h17 with type := 1, addr := 0x1234 }, data := [1, 2, 3, 4] })), ({ hdr := { h17 with type := 1, addr := 0x1234 }, data := [1, 2, 3, 4] }), (inPan), by unfold State.servesPeer State.stopRuns; decide +kernel⟩⟩

/-- States and operands that meet the hypotheses of ContributionsCombine, clause by clause. -/
theorem meets_ContributionsCombine :
    (∃ (t : Nat) (k : Nat) (own : Bool) (ks : List Nat) (pk : Pkt) (g : Group) (p : Plan) (n : PlanNode) (i : Instr) (s : State), ((i = .redUpArrive t pk own ∨ i = .cuPacketCombine t pk own none)) ∧ s.cuTakes t own pk g p n ∧ s.nodeWorks t p n ∧ contribOk (s.segCtx g pk.hdr.coll.toNat pk.hdr.seg.toNat) (g.acwOf pk.hdr.seg.toNat) n false pk.hdr = true ∧ tagRootc pk.hdr = false ∧ s.headOf t (segKey pk.hdr) = none ∧ s.holdsOf t (segKey pk.hdr) = [] ∧ s.claimable t false = k :: ks ∧ pk.hdr.child = 0 ∧ pk.hdr.pidx = 0 ∧ pk.hdr.pcnt = 1 ∧ 1 < n.children.length) ∧
    (∃ (t : Nat) (k : Nat) (own : Bool) (pk : Pkt) (g : Group) (p : Plan) (n : PlanNode) (q : PlanNode) (x : Slot) (i : Instr) (s : State), ((i = .redUpArrive t pk own ∨ i = .cuPacketCombine t pk own none)) ∧ s.cuTakes t own pk g p n ∧ s.nodeWorks t p n ∧ contribOk x.ctx x.acw n false pk.hdr = true ∧ s.dueAt t k pk.hdr x ∧ pk.hdr.pidx = 0 ∧ pk.hdr.pcnt = 1 ∧ n.children.length = x.next + 1 ∧ p.nodeOf n.parent n.stripe = some q ∧ (s.stop t).cu.stopped = []) ∧
    (∃ (t : Nat) (own : Bool) (pk : Pkt) (g : Group) (p : Plan) (n : PlanNode) (i : Instr) (s : State), ((i = .redUpArrive t pk own ∨ i = .cuPacketCombine t pk own none)) ∧ s.cuTakes t own pk g p n ∧ pk.hdr.pidx = 0 ∧ (∃ d ∈ (s.stop t).cu.done, d.1 = segKey pk.hdr ∧ s.ft < d.2)) ∧
    (∃ (t : Nat) (own : Bool) (pk : Pkt) (g : Group) (p : Plan) (n : PlanNode) (i : Instr) (s : State), ((i = .redUpArrive t pk own ∨ i = .cuPacketCombine t pk own none)) ∧ s.cuTakes t own pk g p n ∧ s.nodeWorks t p n ∧ tagRootc pk.hdr = false ∧ s.headOf t (segKey pk.hdr) = none ∧ s.claimable t false = [] ∧ pk.hdr.pidx = 0) ∧
    (∃ (t : Nat) (k : Nat) (b : Nat) (pk : Pkt) (g : Group) (p : Plan) (n : PlanNode) (x : Slot) (s : State), s.cuTakes t false pk g p n ∧ s.nodeWorks t p n ∧ contribOk x.ctx x.acw n false pk.hdr = true ∧ s.dueAt t k pk.hdr x ∧ pk.hdr.pidx = 0) ∧
    (∃ (t : Nat) (pk : Pkt) (killed : Option Nat) (s : State), s.stopRuns t ∧ pk.hdr.type = tRedUp ∧ s.cuMay t = false ∧ (pk, killed) ∉ (s.stop t).cu.waitR) ∧
    (∃ (t : Nat) (k : Nat) (ks : List Nat) (m : CMsg) (g : Group) (p : Plan) (n : PlanNode) (s : State), s.stopRuns t ∧ m.hdr.mkind = 6 ∧ s.groupOf (smallPkt m).hdr.coll.toNat = some g ∧ g.pan = m.hdr.pan.toNat ∧ s.hasEnded t (smallPkt m).hdr = false ∧ s.nodeFor t (smallPkt m).hdr = some (g, p, n) ∧ s.nodeWorks t p n ∧ (s.stop t).co.roots = [] ∧ contribOk (s.segCtx g (smallPkt m).hdr.coll.toNat (smallPkt m).hdr.seg.toNat) (g.acwOf (smallPkt m).hdr.seg.toNat) n true (smallPkt m).hdr = true ∧ tagRootc (smallPkt m).hdr = false ∧ s.headOf t (segKey (smallPkt m).hdr) = none ∧ s.holdsOf t (segKey (smallPkt m).hdr) = [] ∧ s.claimable t false = k :: ks ∧ (smallPkt m).hdr.child = 0 ∧ (smallPkt m).hdr.pidx = 0 ∧ (smallPkt m).hdr.pcnt = 1 ∧ 1 < n.children.length) :=
  ⟨⟨(17), (0), (false), ((List.range 30).drop 1), (red17 0), (g17), (plan17), (pn17), (.redUpArrive 17 (red17 0) false), (cuState), by unfold State.cuTakes State.stopRuns State.nodeWorks; decide +kernel⟩,
    ⟨(17), (2), (true), (red17 1), (g17), (plan17), (pn17), (pnTop), (head17), (.cuPacketCombine 17 (red17 1) true none), ((cuState.modSlot 17 2 fun _ => head17).modCu 17 fun c => { c with waitO := [red17 1] }), by unfold State.cuTakes State.stopRuns State.nodeWorks State.dueAt; decide +kernel⟩,
    ⟨(17), (false), (red17 0), (g17), (plan17), (pn17), (.redUpArrive 17 (red17 0) false), (cuState.modCu 17 fun c => { c with done := [(segKey (red17 0).hdr, 5)] }), by unfold State.cuTakes State.stopRuns; decide +kernel⟩,
    ⟨(17), (false), (red17 0), (g17), (plan17), (pn17), (.redUpArrive 17 (red17 0) false), (cuState.modCu 17 fun c => { c with retiring := List.range 8 }), by unfold State.cuTakes State.stopRuns State.nodeWorks; decide +kernel⟩,
    ⟨(17), (2), (1), (red17 1), (g17), (plan17), (pn17), (head17), (cuState.modSlot 17 2 fun _ => head17), by unfold State.cuTakes State.stopRuns State.nodeWorks State.dueAt; decide +kernel⟩,
    ⟨(17), (red17 0), (none), ({ cuState with pwr := { cuState.pwr with cuK := [(1, 0)] } }), by unfold State.stopRuns; decide +kernel⟩,
    ⟨(17), (0), ((List.range 30).drop 1), (small17), (g17), (plan17), (pn17), (cuState), by unfold State.stopRuns State.nodeWorks; decide +kernel⟩⟩

/-- States and operands that meet the hypotheses of ContributionsAreAnswered, clause by clause. -/
theorem meets_ContributionsAreAnswered :
    (∃ (t : Nat) (mseq : Nat) (m : Msg) (s : State), s.stopRuns t ∧ s.backedOff t mseq Msg.claim = some m ∧ (s.stop t).si.msgs = [m] ∧ m.small = false) ∧
    (∃ (t : Nat) (p : Pkt) (m : Msg) (s : State), s.stopRuns t ∧ isCtl p 1 3 = true ∧ s.hdrOk p.hdr = true ∧ p.hdr.e2e = 0 ∧ s.isLate p.hdr = false ∧ (s.stop t).si.msgs = [m] ∧ m.issued = true ∧ m.claim = true ∧ m.small = false ∧ m.hdr.coll = p.hdr.coll ∧ m.hdr.seg = p.hdr.seg ∧ m.hdr.child = p.hdr.child ∧ m.hdr.sig = p.hdr.sig ∧ m.hdr.pan = p.hdr.pan ∧ tagPnode m.hdr = tagPnode p.hdr) ∧
    (∃ (t : Nat) (k : Nat) (m : CMsg) (x : Msg) (s : State), s.stopRuns t ∧ m.hdr.mkind = 7 ∧ (s.stop t).si.msgs = [x] ∧ x.small = true ∧ x.issued = true ∧ x.hdr.mseq = m.hdr.mseq ∧ x.hdr.pan = m.hdr.pan ∧ x.hdr.dnode = m.hdr.snode ∧ x.hdr.dtile = m.hdr.stile ∧ x.owner = .partialOf k ∧ m.hdr.arg.toNat % 16 = 0) :=
  ⟨⟨(17), (9), ({ msg1 with owner := .contrib 128 0, issued := true, backoff := some 0 }), (si17 fun si => { si with msgs := [({ msg1 with owner := .contrib 128 0, issued := true, backoff := some 0 })] }), by unfold State.stopRuns; decide +kernel⟩,
    ⟨(17), ({ hdr := { h17 with type := 9, vc := 3, coll := 128, plen := 16 }, data := ctlRec 1 (5 * 512 + 33) 0 0 }), ({ msg1 with owner := .contrib 128 0, issued := true, hdr := { msg1.hdr with coll := 128, ctag := 7 } }), (si17 fun si => { si with msgs := [({ msg1 with owner := .contrib 128 0, issued := true, hdr := { msg1.hdr with coll := 128, ctag := 7 } })] }), by unfold State.stopRuns; decide +kernel⟩,
    ⟨(17), (2), (cm 7 0x10 []), ({ msg1 with owner := .partialOf 2, small := true, issued := true, hdr := { msg1.hdr with mseq := 9 } }), ((si17 fun si => { si with msgs := [({ msg1 with owner := .partialOf 2, small := true, issued := true, hdr := { msg1.hdr with mseq := 9 } })] }).modSlot 17 2 fun _ => head17), by unfold State.stopRuns; decide +kernel⟩⟩

/-- States and operands that meet the hypotheses of UnitsDegrade, clause by clause. -/
theorem meets_UnitsDegrade :
    (∃ (t : Nat) (lane : Nat) (s : State), s.stopRuns t ∧ s.laneUsed t lane = true ∧ Tab.get? (s.stop t).cu.laneErr lane = none) ∧
    (∃ (t : Nat) (lane : Nat) (f : Nat) (s : State), s.stopRuns t ∧ s.laneUsed t lane = true ∧ Tab.get? (s.stop t).cu.laneErr lane = some f ∧ s.ft ≤ f + 2000000 ∧ (s.stop t).cu.fenced = false ∧ (s.stop t).cu.laneSpare = none) ∧
    (∃ (t : Nat) (lane : Nat) (f : Nat) (k : Nat) (s : State), s.stopRuns t ∧ s.laneUsed t lane = true ∧ Tab.get? (s.stop t).cu.laneErr lane = some f ∧ s.ft ≤ f + 2000000 ∧ (s.stop t).cu.fenced = false ∧ (s.stop t).cu.laneSpare = some k) ∧
    (∃ (t : Nat) (lane : Nat) (s : State), s.stopRuns t ∧ s.laneUsed t lane = false) ∧
    (∃ (t : Nat) (slot : Nat) (s : State), s.stopRuns t) ∧
    (∃ (t : Nat) (slot : Nat) (s : State), s.stopRuns t ∧ (s.slot t slot).state = 0) ∧
    (∃ (t : Nat) (bank : Nat) (s : State), s.stopRuns t ∧ (s.stop t).cu.retiring.contains bank = true ∧ ((∀ i, i < 4 → (s.slot t (4 * bank + i)).state = 0)) ∧ s.spareFree t bank = true) ∧
    (∃ (t : Nat) (bank : Nat) (s : State), s.stopRuns t ∧ (s.stop t).cu.retiring.contains bank = true ∧ ((∀ i, i < 4 → (s.slot t (4 * bank + i)).state = 0)) ∧ s.spareFree t bank = false) ∧
    (∃ (t : Nat) (coll : Nat) (seg : Nat) (pnode : Nat) (s : State), s.stopRuns t) ∧
    (∃ (t : Nat) (coll : Nat) (seg : Nat) (pnode : Nat) (s : State), s.stopRuns t) ∧
    (∃ (t : Nat) (coll : Nat) (sig : Nat) (s : State), s.stopRuns t) :=
  ⟨⟨(17), (3), (inPan), by unfold State.stopRuns; decide +kernel⟩,
    ⟨(17), (3), (0), (inPan.modCu 17 fun c => { c with laneErr := [(3, 0)] }), by unfold State.stopRuns; decide +kernel⟩,
    ⟨(17), (3), (0), (4), (inPan.modCu 17 fun c => { c with laneErr := [(3, 0)], laneSpare := some 4 }), by unfold State.stopRuns; decide +kernel⟩,
    ⟨(17), (32), (inPan), by unfold State.stopRuns; decide +kernel⟩,
    ⟨(17), (5), (inPan), by unfold State.stopRuns; decide +kernel⟩,
    ⟨(17), (5), (inPan), by unfold State.stopRuns; decide +kernel⟩,
    ⟨(17), (1), (inPan.modCu 17 fun c => { c with retiring := [1] }), by unfold State.stopRuns; decide +kernel⟩,
    ⟨(17), (1), (inPan.modCu 17 fun c => { c with retiring := [1], badSpares := [0] }), by unfold State.stopRuns; decide +kernel⟩,
    ⟨(17), (3), (4), (5), (inPan), by unfold State.stopRuns; decide +kernel⟩,
    ⟨(17), (3), (4), (5), (inPan), by unfold State.stopRuns; decide +kernel⟩,
    ⟨(17), (3), (4), (inPan), by unfold State.stopRuns; decide +kernel⟩⟩

/-- States and operands that meet the hypotheses of CollectivesStart, clause by clause. -/
theorem meets_CollectivesStart :
    (∃ (t : Nat) (d : Desc) (p : PanRec) (g : Group) (i : Instr) (s : State), s.cmdTakes t ∧ descOf t d i ∧ s.collCode t d = 0 ∧ (s.stop t).co.live = [] ∧ s.tilePan t = some p ∧ s.img.act.groups.find? (fun g => g.id == d.group) = some g) ∧
    (∃ (t : Nat) (j : Nat) (d : Desc) (p : PanRec) (g : Group) (n : PlanNode) (s : State), s.cmdTakes t ∧ d.kind = 3 ∧ d.cop = 4 ∧ s.collCode t d = 0 ∧ (s.stop t).co.live = [] ∧ (s.stop t).si.msgs = [] ∧ s.tilePan t = some p ∧ s.groupOf (d.group * 64) = some g ∧ (s.planAt t g).leafOf ((s.memberIdx g (p.rankOf s.node t)).getD 0) 0 = some (n, j)) ∧
    (∃ (t : Nat) (d : Desc) (i : Instr) (s : State), s.cmdTakes t ∧ descOf t d i ∧ s.collCode t d = 0 ∧ s.collMustWait t d = true) ∧
    (∃ (t : Nat) (d : Desc) (i : Instr) (s : State), s.portTakes t (.cmd t) ∧ descOf t d i ∧ s.cmdReady t = false ∧ (s.stop t).cmdq.length < 8) ∧
    (∃ (t : Nat) (d : Desc) (i : Instr) (s : State), s.cmdTakes t ∧ descOf t d i ∧ s.collCode t d ≠ 0) ∧
    (∃ (t : Nat) (d : Desc) (s : State), s.cmdTakes t ∧ d.kind = 3 ∧ 6 ≤ d.cop ∧ (s.stop t).ro.clientFenced = false) ∧
    (∃ (t : Nat) (d : Desc) (rest : List Desc) (s : State), s.stopRuns t ∧ (s.stop t).co.waiting = d :: rest ∧ s.collMustWait t d = false ∧ s.draining t = false ∧ s.collCode t d = 0 ∧ (s.stop t).co.live = []) ∧
    (∃ (t : Nat) (d : Desc) (rest : List Desc) (s : State), s.stopRuns t ∧ (s.stop t).co.waiting = d :: rest ∧ s.collMustWait t d = false ∧ s.draining t = false ∧ s.collCode t d ≠ 0) ∧
    (∃ (t : Nat) (s : State), s.stopRuns t ∧ ((∀ d ∈ (s.stop t).co.waiting, s.collMustWait t d = true ∨ s.draining t = true))) :=
  ⟨⟨(17), (bar17), (pan2), (g17), (.collBarrier 17 bar17), (cuState), by unfold State.cmdTakes State.portTakes State.stopRuns descOf; decide +kernel⟩,
    ⟨(17), (0), (bar17), (pan2), (g17), (pn17), (cuState), by unfold State.cmdTakes State.portTakes State.stopRuns; decide +kernel⟩,
    ⟨(17), (bar17), (.collBarrier 17 bar17), (cuState.modCo 17 fun c => { c with live := [live17] }), by unfold State.cmdTakes State.portTakes State.stopRuns descOf; decide +kernel⟩,
    ⟨(17), (bar17), (.collBarrier 17 bar17), (cuState.modCo 17 fun c => { c with waiting := [bar17] }), by unfold State.portTakes State.stopRuns descOf; decide +kernel⟩,
    ⟨(17), ({ bar17 with w0 := bar17.w0 - 3 * 2 ^ 57 }), (.collReduceScatter 17 ({ bar17 with w0 := bar17.w0 - 3 * 2 ^ 57 })), (cuState), by unfold State.cmdTakes State.portTakes State.stopRuns descOf; decide +kernel⟩,
    ⟨(17), ({ bar17 with w0 := bar17.w0 + 2 * 2 ^ 57 }), (cuState), by unfold State.cmdTakes State.portTakes State.stopRuns; decide +kernel⟩,
    ⟨(17), (bar17), ([]), (cuState.modCo 17 fun c => { c with waiting := [bar17] }), by unfold State.stopRuns; decide +kernel⟩,
    ⟨(17), ({ bar17 with w0 := bar17.w0 + 1 }), ([]), (cuState.modCo 17 fun c => { c with waiting := [({ bar17 with w0 := bar17.w0 + 1 })] }), by unfold State.stopRuns; decide +kernel⟩,
    ⟨(17), (cuState.modCo 17 fun c => { c with waiting := [bar17], live := [live17] }), by unfold State.stopRuns; decide +kernel⟩⟩

/-- States and operands that meet the hypotheses of MembersFollowTheRoot, clause by clause. -/
theorem meets_MembersFollowTheRoot :
    (∃ (t : Nat) (a : Nat) (p : Pkt) (g : Group) (m : CollM) (s : State), s.downTakes t p g ∧ s.wholeNew t p ∧ (s.stop t).ro.clientFenced = false ∧ p.hdr.dmode = 0 ∧ s.egressTrees t p.hdr = [] ∧ s.memberOf t p.hdr = some m ∧ s.resultAt m g p.hdr.seg.toNat = some a) ∧
    (∃ (t : Nat) (p : Pkt) (g : Group) (m : CollM) (s : State), s.downTakes t p g ∧ s.wholeNew t p ∧ (s.stop t).ro.clientFenced = false ∧ p.hdr.dmode = 0 ∧ s.egressTrees t p.hdr = [] ∧ p.hdr.seg.toNat = segLaunch ∧ (s.stop t).co.live = [m] ∧ m.coll = p.hdr.coll.toNat ∧ m.sig = p.hdr.sig) ∧
    (∃ (t : Nat) (p : Pkt) (g : Group) (s : State), s.downTakes t p g ∧ (s.stop t).ro.clientFenced = true) ∧
    (∃ (t : Nat) (p : Pkt) (g : Group) (m : CollM) (s : State), s.ctlTakes t p g 3 3 ∧ (s.stop t).ro.clientFenced = false ∧ (s.stop t).co.live = [m] ∧ m.coll = p.hdr.coll.toNat ∧ m.sig = p.hdr.sig ∧ ((ctlOfBytes p.data).arg.extractLsb' 17 4).toNat ≤ 1) ∧
    (∃ (t : Nat) (p : Pkt) (g : Group) (s : State), s.ctlTakes t p g 3 3 ∧ ((∀ m ∈ (s.stop t).co.live, m.coll ≠ p.hdr.coll.toNat ∨ m.sig ≠ p.hdr.sig))) ∧
    (∃ (t : Nat) (p : Pkt) (g : Group) (m : CollM) (s : State), s.ctlTakes t p g 4 3 ∧ (s.stop t).ro.clientFenced = false ∧ (s.stop t).co.live = [m] ∧ m.coll = p.hdr.coll.toNat) ∧
    (∃ (t : Nat) (k : Nat) (i : Instr) (p : Pkt) (g : Group) (m : CollM) (s : State), ((k = 3 ∧ i = .collCommitFinal t p ∨ k = 4 ∧ i = .collAbort t p)) ∧ s.ctlTakes t p g k 3 ∧ (s.stop t).ro.clientFenced = true ∧ (s.stop t).co.live = [m] ∧ m.coll = p.hdr.coll.toNat ∧ m.sig = p.hdr.sig) :=
  ⟨⟨(17), (64), ({ hdr := { h17 with type := 7, vc := 3, coll := 128, sig := 5 }, data := [1, 2, 3, 4] }), (g17), (live17), (cuState.modCo 17 fun c => { c with live := [live17] }), by unfold State.downTakes State.stopRuns State.wholeNew; decide +kernel⟩,
    ⟨(17), ({ hdr := { h17 with type := 7, vc := 3, coll := 128, sig := 5, seg := 0xFFFFF }, data := [1, 2, 3, 4] }), (g17), (live17), (cuState.modCo 17 fun c => { c with live := [live17] }), by unfold State.downTakes State.stopRuns State.wholeNew; decide +kernel⟩,
    ⟨(17), ({ hdr := { h17 with type := 7, vc := 3, coll := 128, sig := 5 }, data := [1, 2, 3, 4] }), (g17), (cuState.modStop 17 fun st => { st with ro := { st.ro with clientFenced := true } }), by unfold State.downTakes State.stopRuns; decide +kernel⟩,
    ⟨(17), (ctl17 3 3 (ctlRec 3 (2 ^ 17 + 2 ^ 16) 6 9)), (g17), (live17), (cuState.modCo 17 fun c => { c with live := [live17] }), by unfold State.ctlTakes State.stopRuns; decide +kernel⟩,
    ⟨(17), (ctl17 3 3 (ctlRec 3 (2 ^ 17 + 2 ^ 16) 6 9)), (g17), (cuState), by unfold State.ctlTakes State.stopRuns; decide +kernel⟩,
    ⟨(17), (ctl17 4 3 (ctlRec 4 (2 * 2 ^ 17) 6 0)), (g17), (live17), (cuState.modCo 17 fun c => { c with live := [live17] }), by unfold State.ctlTakes State.stopRuns; decide +kernel⟩,
    ⟨(17), (4), (.collAbort 17 (ctl17 4 3 (ctlRec 4 (2 * 2 ^ 17) 6 0))), (ctl17 4 3 (ctlRec 4 (2 * 2 ^ 17) 6 0)), (g17), (live17), ((cuState.modCo 17 fun c => { c with live := [live17] }).modStop 17 fun st => { st with ro := { st.ro with clientFenced := true } }), by unfold State.ctlTakes State.stopRuns; decide +kernel⟩⟩

/-- States and operands that meet the hypotheses of RecordsMoveACollective, clause by clause. -/
theorem meets_RecordsMoveACollective :
    (∃ (t : Nat) (p : Pkt) (g : Group) (r : CollRoot) (s : State), s.ctlTakes t p g 2 2 ∧ p.hdr.dmode = 0 ∧ (s.stop t).co.roots = [r] ∧ r.coll = p.hdr.coll.toNat ∧ r.state ≠ 4 ∧ (ctlOfBytes p.data).arg.getLsbD 20 = false) ∧
    (∃ (t : Nat) (p : Pkt) (g : Group) (s : State), s.ctlTakes t p g 2 2 ∧ p.hdr.dmode = 0 ∧ (s.stop t).co.roots = [] ∧ (ctlOfBytes p.data).arg.getLsbD 20 = false) ∧
    (∃ (t : Nat) (p : Pkt) (g : Group) (s : State), s.ctlTakes t p g 3 2 ∧ p.hdr.dmode = 0) ∧
    (∃ (t : Nat) (p : Pkt) (g : Group) (r : CollRoot) (s : State), s.ctlTakes t p g 5 2 ∧ p.hdr.dmode = 0 ∧ (s.stop t).si.msgs = [] ∧ (s.stop t).co.roots = [r] ∧ r.coll = p.hdr.coll.toNat ∧ r.sig = p.hdr.sig ∧ r.state < 4 ∧ r.replays < 2 ∧ r.launch = 2 ∧ r.cop ≤ 1 ∧ (ctlOfBytes p.data).arg.extractLsb' 17 4 = 3 ∧ r.acted.contains (3, ((ctlOfBytes p.data).arg.extractLsb' 0 12).toNat) = false) ∧
    (∃ (t : Nat) (cause : Nat) (pnode : Nat) (p : Pkt) (g : Group) (r : CollRoot) (n : PlanNode) (s : State), s.ctlTakes t p g 5 2 ∧ p.hdr.dmode = 0 ∧ (s.stop t).si.msgs = [] ∧ (s.stop t).co.roots = [r] ∧ r.coll = p.hdr.coll.toNat ∧ r.sig = p.hdr.sig ∧ r.state < 4 ∧ r.replays < 2 ∧ r.launch = 2 ∧ r.cop ≤ 1 ∧ cause = ((ctlOfBytes p.data).arg.extractLsb' 17 4).toNat ∧ (cause = 1 ∨ cause = 2 ∨ cause = 4) ∧ pnode = ((ctlOfBytes p.data).arg.extractLsb' 0 12).toNat ∧ r.acted.contains (cause, pnode) = false ∧ (s.planAt t g).nodes.find? (fun n => n.pnode == pnode && n.fallback != 0) = some n) ∧
    (∃ (t : Nat) (cause : Nat) (p : Pkt) (g : Group) (r : CollRoot) (s : State), s.ctlTakes t p g 5 2 ∧ p.hdr.dmode = 0 ∧ (s.stop t).co.roots = [r] ∧ r.coll = p.hdr.coll.toNat ∧ r.sig = p.hdr.sig ∧ r.state < 4 ∧ cause = ((ctlOfBytes p.data).arg.extractLsb' 17 4).toNat ∧ r.acted.contains (cause, ((ctlOfBytes p.data).arg.extractLsb' 0 12).toNat) = false ∧ ((cause = 5 ∨ 2 ≤ r.replays))) ∧
    (∃ (t : Nat) (p : Pkt) (g : Group) (s : State), s.ctlTakes t p g 5 2 ∧ p.hdr.dmode = 0 ∧ (s.stop t).co.roots = [] ∧ (s.planAt t g).deputy = some (s.node, t) ∧ (s.stop t).co.deps = []) ∧
    (∃ (t : Nat) (p : Pkt) (g : Group) (s : State), s.ctlTakes t p g 5 3 ∧ s.orderNewer t p.hdr ((ctlOfBytes p.data).saf.extractLsb' 4 2).toNat ((ctlOfBytes p.data).saf.getLsbD 1) = true ∧ (s.stop t).co.live = []) ∧
    (∃ (t : Nat) (p : Pkt) (g : Group) (m : CollM) (s : State), s.ctlTakes t p g 5 3 ∧ s.orderNewer t p.hdr ((ctlOfBytes p.data).saf.extractLsb' 4 2).toNat ((ctlOfBytes p.data).saf.getLsbD 1) = true ∧ (s.stop t).co.live = [m] ∧ m.coll = p.hdr.coll.toNat ∧ m.sig = p.hdr.sig) ∧
    (∃ (t : Nat) (p : Pkt) (g : Group) (r : CollRoot) (s : State), s.ctlTakes t p g 5 3 ∧ (ctlOfBytes p.data).saf.getLsbD 1 = true ∧ (s.stop t).co.roots = [r] ∧ r.coll = p.hdr.coll.toNat ∧ r.sig = p.hdr.sig ∧ r.dep = false) :=
  ⟨⟨(17), (ctl17 2 2 (ctlRec 2 0 6 0)), (g17), (root17), (cuState.modCo 17 fun c => { c with roots := [root17] }), by unfold State.ctlTakes State.stopRuns; decide +kernel⟩,
    ⟨(17), (ctl17 2 2 (ctlRec 2 0 6 0)), (g17), (cuState), by unfold State.ctlTakes State.stopRuns; decide +kernel⟩,
    ⟨(17), (ctl17 3 2 (ctlRec 3 0 6 0)), (g17), (cuState), by unfold State.ctlTakes State.stopRuns; decide +kernel⟩,
    ⟨(17), (ctl17 5 2 (causeRec 3 1 0)), (g17), ({ root17 with state := 1, launch := 2, l := 3 }), (cuState.modCo 17 fun c => { c with roots := [({ root17 with state := 1, launch := 2, l := 3 })] }), by unfold State.ctlTakes State.stopRuns; decide +kernel⟩,
    ⟨(17), (1), (1), (ctl17 5 2 (causeRec 1 1 0)), ({ g17 with plans := [{ plan17 with nodes := [({ pn17 with fallback := 1 }), pnTop] }, plan17] }), ({ root17 with state := 1, launch := 2, l := 3 }), ({ pn17 with fallback := 1 }), (({ cuState with img := { cuState.img with act := { cuState.img.act with groups := [({ g17 with plans := [{ plan17 with nodes := [({ pn17 with fallback := 1 }), pnTop] }, plan17] })] } } }).modCo 17 fun c => { c with roots := [({ root17 with state := 1, launch := 2, l := 3 })] }), by unfold State.ctlTakes State.stopRuns; decide +kernel⟩,
    ⟨(17), (5), (ctl17 5 2 (causeRec 5 1 0)), (g17), (root17), (cuState.modCo 17 fun c => { c with roots := [(root17)] }), by unfold State.ctlTakes State.stopRuns; decide +kernel⟩,
    ⟨(17), (ctl17 5 2 (causeRec 3 1 0)), (g17), (cuState), by unfold State.ctlTakes State.stopRuns; decide +kernel⟩,
    ⟨(17), (ctl17 5 3 (ctlRec 5 (3 * 2 ^ 17 + 1) 4 (orderSaf 1 1 false false false))), (g17), (cuState), by unfold State.ctlTakes State.stopRuns; decide +kernel⟩,
    ⟨(17), (ctl17 5 3 (ctlRec 5 (3 * 2 ^ 17 + 1) 4 (orderSaf 1 1 false false false))), (g17), (live17), (cuState.modCo 17 fun c => { c with live := [live17] }), by unfold State.ctlTakes State.stopRuns; decide +kernel⟩,
    ⟨(17), (ctl17 5 3 (ctlRec 5 (3 * 2 ^ 17 + 1) 4 (orderSaf 1 1 false false true))), (g17), (root17), (cuState.modCo 17 fun c => { c with roots := [root17] }), by unfold State.ctlTakes State.stopRuns; decide +kernel⟩⟩

/-- States and operands that meet the hypotheses of CollectiveTimersAct, clause by clause. -/
theorem meets_CollectiveTimersAct :
    (∃ (t : Nat) (coll : Nat) (r : CollRoot) (d : Nat × Nat) (s : State), s.stopRuns t ∧ (s.stop t).co.roots = [r] ∧ r.coll = coll ∧ r.state = 1 ∧ r.progress = none ∧ r.progressAt ≤ s.ft ∧ r.l < r.dueL ∧ r.deputy = some d) ∧
    (∃ (t : Nat) (coll : Nat) (r : CollRoot) (g : Group) (s : State), s.stopRuns t ∧ (s.stop t).co.roots = [r] ∧ r.coll = coll ∧ r.state < 3 ∧ r.gtl ≤ s.ft ∧ s.groupOf coll = some g) ∧
    (∃ (t : Nat) (coll : Nat) (m : CollM) (s : State), s.stopRuns t ∧ (s.stop t).co.live = [m] ∧ m.coll = coll ∧ ((m.waiting = true ∨ ∀ x ∈ (s.stop t).si.msgs, x.ofColl coll = false)) ∧ m.deadline ≤ s.ft) ∧
    (∃ (t : Nat) (coll : Nat) (d : Nat) (r : CollRoot) (s : State), s.stopRuns t ∧ (s.stop t).co.roots = [r] ∧ r.coll = coll ∧ r.due = some d ∧ d ≤ s.ft) ∧
    (∃ (t : Nat) (coll : Nat) (due : Nat) (cause : Nat) (pnode : Nat) (d : CollDep) (g : Group) (n : PlanNode) (s : State), s.stopRuns t ∧ (s.stop t).si.msgs = [] ∧ (s.stop t).co.roots = [] ∧ (s.stop t).co.deps = [d] ∧ d.coll = coll ∧ s.groupOf coll = some g ∧ d.cause = some (due, cause, pnode) ∧ due ≤ s.ft ∧ (nth default g.plans (Tab.get 0 (s.stop t).cu.plans g.id)).nodes.find? (fun n => n.pnode == pnode && n.fallback != 0) = some n) ∧
    (∃ (t : Nat) (m : CMsg) (r : CollRoot) (g : Group) (s : State), s.stopRuns t ∧ s.regWrite t 0x510 m ∧ (s.stop t).co.roots = [r] ∧ r.coll = (regData m).toNat % 65536 ∧ r.state < 3 ∧ s.groupOf r.coll = some g) ∧
    (∃ (t : Nat) (m : CMsg) (s : State), s.stopRuns t ∧ s.regWrite t 0x510 m ∧ (s.stop t).co.roots = []) ∧
    (∃ (t : Nat) (coll : Nat) (i : Instr) (s : State), s.stopRuns t ∧ ((i = .gtlTimeout t coll ∧ (∀ r ∈ (s.stop t).co.roots, s.ft < r.gtl) ∨ i = .memberTimeout t coll ∧ (∀ m ∈ (s.stop t).co.live, s.ft < m.deadline) ∨ i = .commitProgressTimer t coll ∧ (∀ r ∈ (s.stop t).co.roots, s.ft < r.progressAt) ∨ i = .rootRecordEnd t coll ∧ (∀ r ∈ (s.stop t).co.roots, r.due = none)))) :=
  ⟨⟨(17), (128), ({ root17 with state := 1, segs := [(0, 3)], deputy := some (0, 17) }), ((0, 17)), (cuState.modCo 17 fun c => { c with roots := [({ root17 with state := 1, segs := [(0, 3)], deputy := some (0, 17) })] }), by unfold State.stopRuns; decide +kernel⟩,
    ⟨(17), (128), (root17), (g17), (cuState.modCo 17 fun c => { c with roots := [(root17)] }), by unfold State.stopRuns; decide +kernel⟩,
    ⟨(17), (128), (live17), (cuState.modCo 17 fun c => { c with live := [live17] }), by unfold State.stopRuns; decide +kernel⟩,
    ⟨(17), (128), (0), ({ root17 with due := some 0 }), (cuState.modCo 17 fun c => { c with roots := [({ root17 with due := some 0 })] }), by unfold State.stopRuns; decide +kernel⟩,
    ⟨(17), (128), (0), (1), (1), ({ coll := 128, sig := 5, pan := 1, l := 4, cause := some (0, 1, 1) }), ({ g17 with plans := [{ plan17 with nodes := [({ pn17 with fallback := 1 }), pnTop] }, plan17] }), ({ pn17 with fallback := 1 }), (({ cuState with img := { cuState.img with act := { cuState.img.act with groups := [({ g17 with plans := [{ plan17 with nodes := [({ pn17 with fallback := 1 }), pnTop] }, plan17] })] } } }).modCo 17 fun c => { c with deps := [({ coll := 128, sig := 5, pan := 1, l := 4, cause := some (0, 1, 1) })] }), by unfold State.stopRuns; decide +kernel⟩,
    ⟨(17), (regWr 0x510 128), (root17), (g17), (cuState.modCo 17 fun c => { c with roots := [root17] }), by unfold State.stopRuns State.regWrite; decide +kernel⟩,
    ⟨(17), (regWr 0x510 128), (cuState), by unfold State.stopRuns State.regWrite; decide +kernel⟩,
    ⟨(17), (128), (.gtlTimeout 17 128), (cuState), by unfold State.stopRuns; decide +kernel⟩⟩

/-- States and operands that meet the hypotheses of KeeperLaneCarriesMessages, clause by clause. -/
theorem meets_KeeperLaneCarriesMessages :
    (∃ (n : Nat) (v : BitVec 10) (s : State), s.linkRuns n ∧ (s.link n).state ≠ 0 ∧ (s.link n).kpr.decode v = .d 0x50 ∧ (s.link n).kpr.locked = false ∧ (s.link n).kpr.sets = 2 ∧ (s.link n).kpr.pos = true) ∧
    (∃ (n : Nat) (v : BitVec 10) (s : State), s.linkRuns n ∧ (s.link n).state ≠ 0 ∧ (s.link n).kpr.decode v ≠ .k28_5 ∧ (s.link n).kpr.locked = true ∧ 63 ≤ (s.link n).kpr.since) ∧
    (∃ (n : Nat) (v : BitVec 10) (s : State), s.linkRuns n ∧ (s.link n).kpr.decode v = .k27_7 ∧ s.keeperHears n ∧ (s.link n).kpr.rx = none) ∧
    (∃ (n : Nat) (v : BitVec 10) (b : Byte) (bs : List Byte) (s : State), s.linkRuns n ∧ (s.link n).kpr.decode v = .d b ∧ s.keeperHears n ∧ (s.link n).kpr.rx = some bs ∧ bs.length < 28) ∧
    (∃ (n : Nat) (v : BitVec 10) (ty : Byte) (q : Byte) (data : List Byte) (s : State), s.linkRuns n ∧ (s.link n).kpr.decode v = .k29_7 ∧ s.keeperHears n ∧ (s.link n).kpr.rx = some (ty :: q :: data ++ bytesOf 2 (crc16 (ty :: q :: data)).toNat) ∧ kLen ty = some data.length) ∧
    (∃ (n : Nat) (v : BitVec 10) (bs : List Byte) (s : State), s.linkRuns n ∧ (s.link n).kpr.decode v = .k29_7 ∧ s.keeperHears n ∧ (s.link n).kpr.rx = some bs ∧ 4 ≤ bs.length ∧ (crc16 (bs.take (bs.length - 2))).toNat ≠ leAt bs (bs.length - 2) 2) ∧
    (∃ (n : Nat) (c : KChar) (cs : List KChar) (s : State), s.linkRuns n ∧ s.tide.phase = 0 ∧ (s.link n).keeperOn = true ∧ (s.link n).kpr.sending = c :: cs) ∧
    (∃ (n : Nat) (s : State), s.linkRuns n ∧ s.tide.phase = 0 ∧ (s.link n).keeperOn = true ∧ (s.link n).kpr.sending = [] ∧ (s.link n).kpr.tx = []) ∧
    (∃ (n : Nat) (k : KMsg) (s : State), s.linkRuns n ∧ s.tide.phase = 0 ∧ (s.link n).keeperOn = true ∧ (s.link n).kpr.sending = [] ∧ kPick (s.link n).kpr.tx = some k ∧ (s.link n).kpr.idled = true ∧ (s.link n).idleOnly = false ∧ k.ktype ≠ 0x09 ∧ k.ktype ≠ 0x0A) ∧
    (∃ (n : Nat) (s : State), s.linkRuns n ∧ s.tide.phase ≠ 0) ∧
    (∃ (n : Nat) (d : Nat) (i : Nat) (k : KMsg) (s : State), s.linkRuns n ∧ (s.link n).kpr.waits = [(k, d, i)] ∧ d ≠ 0 ∧ d ≤ s.fc ∧ i < 3) ∧
    (∃ (n : Nat) (d : Nat) (k : KMsg) (s : State), s.linkRuns n ∧ (s.link n).kpr.waits = [(k, d, 3)] ∧ d ≠ 0 ∧ d ≤ s.fc ∧ k.ktype ≠ 0x0D ∧ k.ktype ≠ 0x09) ∧
    (∃ (n : Nat) (a : Nat) (s : State), s.linkRuns n ∧ (s.link n).state = 5 ∧ (s.link n).kpr.lostAt = some a ∧ a + 200000 ≤ s.fc) ∧
    (∃ (n : Nat) (k : KMsg) (s : State), s.linkRuns n ∧ (s.link n).state = 5 ∧ k.ktype = 0x0F) :=
  ⟨⟨(3), (encChar false (.d 0x50)), (on3 fun l => { l with state := 1, kpr := { l.kpr with sets := 2, pos := true } }), by unfold State.linkRuns; decide +kernel⟩,
    ⟨(3), (encChar false (.d 0)), (on3 fun l => { l with state := 1, kpr := { l.kpr with locked := true, since := 63 } }), by unfold State.linkRuns; decide +kernel⟩,
    ⟨(3), (encChar false .k27_7), (on3 fun l => { l with state := 1, kpr := { l.kpr with locked := true } }), by unfold State.linkRuns State.keeperHears; decide +kernel⟩,
    ⟨(3), (encChar false (.d 7)), (7), ([1]), (on3 fun l => { l with state := 1, kpr := { l.kpr with locked := true, rx := some ([1]) } }), by unfold State.linkRuns State.keeperHears; decide +kernel⟩,
    ⟨(3), (encChar false .k29_7), (2), (5), ([0, 1, 0, 0]), (on3 fun l => { l with state := 1, kpr := { l.kpr with locked := true, rx := some ((2) :: (5) :: ([0, 1, 0, 0]) ++ bytesOf 2 (crc16 ((2) :: (5) :: ([0, 1, 0, 0]))).toNat) } }), by unfold State.linkRuns State.keeperHears; decide +kernel⟩,
    ⟨(3), (encChar false .k29_7), ([2, 5, 0, 1, 0, 0, 0, 0]), (on3 fun l => { l with state := 1, kpr := { l.kpr with locked := true, rx := some ([2, 5, 0, 1, 0, 0, 0, 0]) } }), by unfold State.linkRuns State.keeperHears; decide +kernel⟩,
    ⟨(3), (.k28_5), ([.d 3]), (on3 fun l => { l with state := 1, kdet := some 0, kpr := { l.kpr with sending := [.k28_5, .d 3] } }), by unfold State.linkRuns; decide +kernel⟩,
    ⟨(3), (on3 fun l => { l with state := 1, kdet := some 0 }), by unfold State.linkRuns; decide +kernel⟩,
    ⟨(3), (kPlain 0x04 [1, 2, 3, 4]), (on3 fun l => { l with state := 1, kdet := some 0, kpr := { l.kpr with idled := true, tx := [(kPlain 0x04 [1, 2, 3, 4])] } }), by unfold State.linkRuns; decide +kernel⟩,
    ⟨(3), ({ base with tide := { base.tide with phase := 1 } }), by unfold State.linkRuns; decide +kernel⟩,
    ⟨(3), (1), (2), (kPlain 0x04 [1, 2, 3, 4]), ({ (on3 fun l => { l with kpr := { l.kpr with waits := [((kPlain 0x04 [1, 2, 3, 4]), 1, 2)] } }) with fc := 1 }), by unfold State.linkRuns; decide +kernel⟩,
    ⟨(3), (1), (kPlain 0x04 [1, 2, 3, 4]), ({ (on3 fun l => { l with kpr := { l.kpr with waits := [((kPlain 0x04 [1, 2, 3, 4]), 1, 3)] } }) with fc := 1 }), by unfold State.linkRuns; decide +kernel⟩,
    ⟨(3), (0), ({ (on3 fun l => { l with state := 5, kpr := { l.kpr with lostAt := some 0 } }) with fc := 200000 }), by unfold State.linkRuns; decide +kernel⟩,
    ⟨(3), (kPlain 0x0F [1, 0, 0, 0]), (on3 fun l => { l with state := 5, attempts := 3, kpr := { l.kpr with locked := true } }), by unfold State.linkRuns; decide +kernel⟩⟩

/-- States and operands that meet the hypotheses of LinksComeUp, clause by clause. -/
theorem meets_LinksComeUp :
    (∃ (n : Nat) (present : BitVec 3) (s : State), s.linkRuns n ∧ (s.link n).state = 1 ∧ (s.link n).kdet = none) ∧
    (∃ (n : Nat) (s : State), s.linkRuns n ∧ (s.link n).state ≠ 0 ∧ (s.link n).helloDue ≤ s.fc) ∧
    (∃ (n : Nat) (k : KMsg) (s : State), s.linkRuns n ∧ (s.link n).state = 1 ∧ (s.link n).kpr.locked = true ∧ k.ktype = 0x01 ∧ nth 0 k.data 7 ≠ 7 ∧ nth 0 k.data 7 ≠ 8) ∧
    (∃ (n : Nat) (lane : Nat) (k : KMsg) (s : State), s.linkRuns n ∧ (s.link n).state = 2 ∧ s.keeperNew n k ∧ k.ktype = 0x02 ∧ lane = (nth 0 k.data 0).toNat ∧ lane < 3 ∧ ((s.link n).lane lane).ovr = false ∧ nth 0 k.data 1 = 0x80) ∧
    (∃ (n : Nat) (lane : Nat) (k : KMsg) (x : Lane) (s : State), s.linkRuns n ∧ (s.link n).state = 2 ∧ s.keeperNew n k ∧ k.ktype = 0x02 ∧ lane = (nth 0 k.data 0).toNat ∧ lane < 3 ∧ (s.link n).lane lane = x ∧ x.ovr = false ∧ nth 0 k.data 1 = 0x20 ∧ x.post.toNat < 20 ∧ x.pre.toNat + x.post.toNat < 32 ∧ x.pre.toNat + x.post.toNat + x.main.toNat = 64) ∧
    (∃ (n : Nat) (k : KMsg) (s : State), s.linkRuns n ∧ (s.link n).state = 2 ∧ k.ktype = 0x03 ∧ ((∀ i, i < 3 → ((s.link n).lane i).ready = true ∧ ((s.link n).lane i).farReady = true)) ∧ (s.link n).spareEn = true) ∧
    (∃ (n : Nat) (lane : Nat) (errors : Nat) (e : Nat) (giveUp : Bool) (s : State), s.linkRuns n ∧ (s.link n).state = 2 ∧ lane < 3 ∧ ((s.link n).lane lane).winEnd = some e ∧ e ≤ s.fc ∧ ((s.link n).lane lane).ready = false ∧ errors ≤ 2048) ∧
    (∃ (n : Nat) (lane : Nat) (errors : Nat) (e : Nat) (giveUp : Bool) (s : State), s.linkRuns n ∧ (s.link n).state = 2 ∧ lane < 3 ∧ ((s.link n).lane lane).winEnd = some e ∧ e ≤ s.fc ∧ ((s.link n).lane lane).ready = false ∧ 2048 < errors) ∧
    (∃ (n : Nat) (s : State), s.linkRuns n ∧ (s.link n).state = 3 ∧ (s.link n).lockDue ≤ s.fc ∧ (s.link n).farLock = false) ∧
    (∃ (n : Nat) (k : KMsg) (s : State), s.linkRuns n ∧ (s.link n).state = 3 ∧ k.ktype = 0x04 ∧ (s.link n).ownLock = true ∧ (s.link n).lockTold = true ∧ (nth 0 k.data 0).toNat &&& (s.link n).txMask = (s.link n).txMask ∧ (nth 0 k.data 1).getLsbD 0 = true) ∧
    (∃ (n : Nat) (k : KMsg) (s : State), s.linkRuns n ∧ (s.link n).state = 4 ∧ s.keeperNew n k ∧ k.ktype = 0x05 ∧ s.capsResult n k.data = 0 ∧ (s.link n).capsRcvd = false) ∧
    (∃ (n : Nat) (res : Nat) (k : KMsg) (s : State), s.linkRuns n ∧ (s.link n).state = 4 ∧ s.keeperNew n k ∧ k.ktype = 0x05 ∧ s.capsResult n k.data = res ∧ res = 3) ∧
    (∃ (n : Nat) (k : KMsg) (s : State), s.linkRuns n ∧ (s.link n).state = 4 ∧ k.ktype = 0x06 ∧ ((s.link n).kpr.asked 0x05 k.kseq).isSome = true ∧ nth 0 k.data 0 = 0 ∧ (s.link n).capsSent = true ∧ (s.link n).ll.lossDue = false) ∧
    (∃ (n : Nat) (k : KMsg) (s : State), s.linkRuns n ∧ (s.link n).state = 4 ∧ k.ktype = 0x06 ∧ ((s.link n).kpr.asked 0x05 k.kseq).isSome = true ∧ (nth 0 k.data 0).toNat ≠ 0 ∧ (nth 0 k.data 0).toNat ≠ 3) :=
  ⟨⟨(3), (5), (on3 fun l => { l with state := 1 }), by unfold State.linkRuns; decide +kernel⟩,
    ⟨(3), (on3 fun l => { l with state := 1 }), by unfold State.linkRuns; decide +kernel⟩,
    ⟨(3), (kPlain 1 (List.replicate 16 0)), (on3 fun l => { l with state := 1, kpr := { l.kpr with locked := true } }), by unfold State.linkRuns; decide +kernel⟩,
    ⟨(3), (2), ({ ktype := 2, kseq := 4, data := [2, 0x80, 1, 0] }), (on3 fun l => { l with state := 2 }), by unfold State.linkRuns State.keeperNew; decide +kernel⟩,
    ⟨(3), (2), ({ ktype := 2, kseq := 4, data := [2, 0x20, 1, 0] }), ({ Lane.init with post := 19, pre := 12, main := 33 }), (on3 fun l => ({ l with state := 2 }).modLane 2 fun _ => ({ Lane.init with post := 19, pre := 12, main := 33 })), by unfold State.linkRuns State.keeperNew; decide +kernel⟩,
    ⟨(3), ({ ktype := 3, kseq := 4, data := [2, 0, 0, 0] }), (on3 fun l => (List.range 3).foldl (fun l i => l.modLane i fun x => { x with ready := true, farReady := true }) { l with state := 2 }), by unfold State.linkRuns; decide +kernel⟩,
    ⟨(3), (2), (2048), (0), (true), (on3 fun l => ({ l with state := 2 }).modLane 2 fun y => { y with winEnd := some 0 }), by unfold State.linkRuns; decide +kernel⟩,
    ⟨(3), (2), (2049), (0), (true), (on3 fun l => ({ l with state := 2 }).modLane 2 fun y => { y with winEnd := some 0 }), by unfold State.linkRuns; decide +kernel⟩,
    ⟨(3), (on3 fun l => { l with state := 3 }), by unfold State.linkRuns; decide +kernel⟩,
    ⟨(3), (kPlain 4 [1, 1, 0, 0]), (on3 fun l => ({ l with state := 3, lockTold := true, rx0 := 0, tx0 := 0 }).modLane 0 fun x => { x with rxst := 1, txst := 1, cwlock := true, ready := true }), by unfold State.linkRuns; decide +kernel⟩,
    ⟨(2), (caps2), (base.modLink 2 fun l => { l with state := 4 }), by unfold State.linkRuns State.keeperNew; decide +kernel⟩,
    ⟨(2), (3), (caps2), (base.modLink 2 fun l => { l with state := 4, expVld := true, expNode := 9 }), by unfold State.linkRuns State.keeperNew; decide +kernel⟩,
    ⟨(3), ({ ktype := 6, kseq := 7, data := [0, 0, 0, 0] }), ((on3 fun l => { l with state := 4, capsSent := true, kpr := { l.kpr with waits := [({ ktype := 5, kseq := 7, data := [] }, 0, 0)] } }).modRt (linkTile .hfE 3) fun r => r.modOut 5 fun o => { o with dead := true }), by unfold State.linkRuns; decide +kernel⟩,
    ⟨(3), ({ ktype := 6, kseq := 7, data := [2, 0, 0, 0] }), (on3 fun l => { l with state := 4, kpr := { l.kpr with waits := [({ ktype := 5, kseq := 7, data := [] }, 0, 0)] } }), by unfold State.linkRuns; decide +kernel⟩⟩

/-- States and operands that meet the hypotheses of LanesAreSpared, clause by clause. -/
theorem meets_LanesAreSpared :
    (∃ (n : Nat) (lane : Nat) (c : Codeword) (x : Lane) (s : State), s.linkRuns n ∧ lane < 3 ∧ (s.link n).state = 5 ∧ (s.link n).lane lane = x ∧ x.cwlock = true ∧ x.rxst ≠ 1 ∧ c.uncorrectable = false ∧ (x.cw + 1).toNat % 256 ≠ 0 ∧ x.badMark < 2) ∧
    (∃ (n : Nat) (lane : Nat) (c : Codeword) (x : Lane) (s : State), s.linkRuns n ∧ lane < 3 ∧ (s.link n).state = 5 ∧ (s.link n).lane lane = x ∧ x.cwlock = true ∧ x.rxst ≠ 1 ∧ c.uncorrectable = false ∧ c.errs ≠ [] ∧ (x.cw + 1).toNat % 256 ≠ 0 ∧ x.badMark < 2) ∧
    (∃ (n : Nat) (lane : Nat) (c : Codeword) (x : Lane) (blocks : List (List Byte)) (rest : List (List Byte)) (st : BitVec 58) (fs : List Frame) (s : State), s.linkRuns n ∧ lane < 3 ∧ (s.link n).state = 5 ∧ (s.link n).rx0 = lane ∧ (s.link n).rx1 = 3 ∧ (s.link n).lane lane = x ∧ x.cwlock = true ∧ x.rxst = 1 ∧ x.rxcw = [] ∧ c.uncorrectable = false ∧ (x.cw + 1).toNat % 256 ≠ 0 ∧ x.badMark < 2 ∧ takeBlocks c.blocks x.dscr = (blocks, st) ∧ takeFrames 64 ((s.link n).rxb ++ blocks) = (fs, rest)) ∧
    (∃ (n : Nat) (lane : Nat) (c : Codeword) (m : BitVec 32) (two : Bool) (ll : BitVec 2) (pl : BitVec 2) (x : Lane) (s : State), s.linkRuns n ∧ lane < 3 ∧ (s.link n).state = 5 ∧ (s.link n).lane lane = x ∧ x.cwlock = false ∧ x.rxst ≠ 1 ∧ c.uncorrectable = false ∧ 3 ≤ x.hunt ∧ x.huntCw < 512 ∧ x.huntMark = some m ∧ x.huntCw = x.huntAt + 256 ∧ c.marker = some (m + 256, two, ll, pl)) ∧
    (∃ (n : Nat) (lane : Nat) (c : Codeword) (full : Bool) (x : Lane) (s : State), s.linkRuns n ∧ lane < 3 ∧ (s.link n).state = 5 ∧ (s.link n).lane lane = x ∧ x.cwlock = true ∧ x.rxst = 1 ∧ c.uncorrectable = true ∧ x.badCw = 2 ∧ (s.link n).rx0 = lane ∧ (s.link n).rxSpare < 3 ∧ s.pwr.asleep = []) ∧
    (∃ (n : Nat) (lane : Nat) (s : State), s.linkRuns n ∧ lane < 3 ∧ ((s.link n).lane lane).cwlock = false) ∧
    (∃ (n : Nat) (lane : Nat) (s : State), s.linkRuns n ∧ lane < 3 ∧ (s.link n).fecOn = true ∧ ((s.link n).lane lane).cwlock = true ∧ ((s.link n).lane lane).rxst = 2 ∧ (s.link n).rx0 ≠ lane ∧ (s.link n).rx1 ≠ lane ∧ s.pwr.asleep = []) ∧
    (∃ (n : Nat) (lane : Nat) (e : Nat) (x : Lane) (s : State), s.linkRuns n ∧ lane < 3 ∧ (s.link n).fecOn = true ∧ (s.link n).lane lane = x ∧ x.winEnd = some e ∧ e ≤ s.fc ∧ x.winCorr ≤ (s.link n).corrLim.toNat ∧ x.winUnc < (s.link n).uncLim.toNat) ∧
    (∃ (n : Nat) (lane : Nat) (e : Nat) (x : Lane) (s : State), s.linkRuns n ∧ lane < 3 ∧ (s.link n).fecOn = true ∧ (s.link n).lane lane = x ∧ x.winEnd = some e ∧ e ≤ s.fc ∧ (s.link n).corrLim.toNat < x.winCorr ∧ x.rxst = 2 ∧ (s.link n).rx0 ≠ lane ∧ (s.link n).rx1 ≠ lane) ∧
    (∃ (n : Nat) (lane : Nat) (ll : Nat) (reason : Nat) (s : State), s.linkRuns n ∧ lane < 3 ∧ (s.link n).swapDue = some (ll, reason) ∧ ((s.link n).lane lane).rxst = 2) ∧
    (∃ (n : Nat) (sp : Nat) (k : KMsg) (s : State), s.linkRuns n ∧ isSwap k 1 = true ∧ (s.link n).fecOn = true ∧ s.keeperNew n k ∧ (s.link n).swapWait = [] ∧ (s.link n).txSw = none ∧ nth 0 k.data 0 = 0 ∧ (s.link n).txSpare = sp ∧ sp < 3 ∧ (s.link n).tx0 < 3) ∧
    (∃ (n : Nat) (k : KMsg) (s : State), s.linkRuns n ∧ isSwap k 2 = true ∧ (s.link n).fecOn = true ∧ s.keeperNew n k ∧ (s.link n).swapWait = [] ∧ (s.link n).txSw = none ∧ nth 0 k.data 0 = 1 ∧ (s.link n).tx0 < 3 ∧ (s.link n).tx1 < 3) ∧
    (∃ (n : Nat) (k : KMsg) (s : State), s.linkRuns n ∧ isSwap k 2 = true ∧ (s.link n).fecOn = true ∧ s.keeperNew n k ∧ (s.link n).swapWait = [] ∧ (s.link n).txSw = none ∧ nth 0 k.data 0 = 0 ∧ (s.link n).tx1 = 3) ∧
    (∃ (n : Nat) (k : KMsg) (q : KMsg) (s : State), s.linkRuns n ∧ k.ktype = 0x08 ∧ (s.link n).kpr.asked 0x07 k.kseq = some q ∧ nth 0 k.data 2 = 1) ∧
    (∃ (n : Nat) (k : KMsg) (q : KMsg) (s : State), s.linkRuns n ∧ k.ktype = 0x08 ∧ (s.link n).kpr.asked 0x07 k.kseq = some q ∧ nth 0 k.data 2 = 2 ∧ (s.link n).fecOn = true) ∧
    (∃ (n : Nat) (w : MapSwitch) (s : State), s.linkRuns n ∧ (s.link n).fecOn = true ∧ (s.link n).txSw = some w ∧ w.n.toNat ≤ s.txCount (s.link n) ∧ w.map0 < 3 ∧ w.freed < 3 ∧ w.freed ≠ w.map0 ∧ w.freed ≠ w.map1 ∧ (s.link n).swapWait = []) ∧
    (∃ (n : Nat) (a : Nat) (s : State), s.linkRuns n ∧ (s.link n).fecOn = true ∧ (s.link n).markedAs 0 = a ∧ a < 3 ∧ ((s.link n).lane a).two = false ∧ ((s.link n).lane a).rxst ≠ 3) ∧
    (∃ (n : Nat) (s : State), s.linkRuns n ∧ (s.link n).fecOn = true ∧ ((∀ k, k < 3 → ((s.link n).lane k).cwlock = false))) :=
  ⟨⟨(3), (1), (cw3 3), ({ lane3 with rxst := 2 }), (on3 fun l => ({ l with state := 5 }).modLane 1 fun _ => ({ lane3 with rxst := 2 })), by unfold State.linkRuns; decide +kernel⟩,
    ⟨(3), (1), (cw3 3), ({ lane3 with rxst := 2 }), (on3 fun l => ({ l with state := 5 }).modLane 1 fun _ => ({ lane3 with rxst := 2 })), by unfold State.linkRuns; decide +kernel⟩,
    ⟨(3), (1), (cwData3), (lane3), ((takeBlocks cwData3.blocks 0).1), ((takeFrames 64 (List.replicate 32 0 :: ((takeBlocks cwData3.blocks 0).1))).2), ((takeBlocks cwData3.blocks 0).2), ((takeFrames 64 (List.replicate 32 0 :: ((takeBlocks cwData3.blocks 0).1))).1), (on3 fun l => ({ l with state := 5, rx0 := 1, rx1 := 3, rxb := [List.replicate 32 0] }).modLane 1 fun _ => (lane3)), by unfold State.linkRuns; decide +kernel⟩,
    ⟨(3), (1), (cwMark3 512), (256), (true), (1), (0), ({ lane3 with cwlock := false, rxst := 2, hunt := 3, huntCw := 256, huntMark := some 256 }), (on3 fun l => ({ l with state := 5 }).modLane 1 fun _ => ({ lane3 with cwlock := false, rxst := 2, hunt := 3, huntCw := 256, huntMark := some 256 })), by unfold State.linkRuns; decide +kernel⟩,
    ⟨(3), (1), (cw3 16), (true), ({ lane3 with badCw := 2 }), (on3 fun l => (({ l with state := 5, rx0 := 1 }).modLane 1 fun _ => ({ lane3 with badCw := 2 })).modLane 2 fun y => { y with rxst := 2 }), by unfold State.linkRuns; decide +kernel⟩,
    ⟨(3), (1), (on3 fun l => l), by unfold State.linkRuns; decide +kernel⟩,
    ⟨(3), (1), (on3 fun l => ({ l with state := 5, rx0 := 0, rx1 := 2 }).modLane 1 fun _ => { lane3 with rxst := 2 }), by unfold State.linkRuns; decide +kernel⟩,
    ⟨(3), (1), (0), ({ lane3 with winEnd := some 0, winCorr := 20000, winUnc := 3 }), (on3 fun l => ({ l with state := 5 }).modLane 1 fun _ => ({ lane3 with winEnd := some 0, winCorr := 20000, winUnc := 3 })), by unfold State.linkRuns; decide +kernel⟩,
    ⟨(3), (1), (0), ({ lane3 with rxst := 2, winEnd := some 0, winCorr := 20001 }), (on3 fun l => ({ l with state := 5 }).modLane 1 fun _ => ({ lane3 with rxst := 2, winEnd := some 0, winCorr := 20001 })), by unfold State.linkRuns; decide +kernel⟩,
    ⟨(3), (1), (1), (2), (on3 fun l => ({ l with swapDue := some (1, 2) }).modLane 1 fun x => { x with rxst := 2 }), by unfold State.linkRuns; decide +kernel⟩,
    ⟨(3), (2), ({ ktype := 7, kseq := 4, data := [0, 1, 1, 0, 0, 0, 0, 0] }), (on3 fun l => ({ l with state := 5, tx0 := 0, tx1 := 1 }).modLane 2 fun y => { y with txst := 2 }), by unfold State.linkRuns State.keeperNew; decide +kernel⟩,
    ⟨(3), ({ ktype := 7, kseq := 4, data := [1, 2, 1, 0, 0, 0, 0, 0] }), (on3 fun l => { l with state := 5, tx0 := 0, tx1 := 1 }), by unfold State.linkRuns State.keeperNew; decide +kernel⟩,
    ⟨(3), ({ ktype := 7, kseq := 4, data := [0, 2, 1, 0, 0, 0, 0, 0] }), (on3 fun l => { l with state := 5, tx0 := 0 }), by unfold State.linkRuns State.keeperNew; decide +kernel⟩,
    ⟨(3), ({ ktype := 8, kseq := 4, data := [1, 1, 1, 3, 0, 0, 0, 0] }), ({ ktype := 7, kseq := 4, data := [1, 1, 2, 0, 9, 0, 0, 0] }), (on3 fun l => { l with state := 5, kpr := { l.kpr with waits := [(({ ktype := 7, kseq := 4, data := [1, 1, 2, 0, 9, 0, 0, 0] }), 0, 0)] } }), by unfold State.linkRuns; decide +kernel⟩,
    ⟨(3), ({ ktype := 8, kseq := 4, data := [1, 1, 2, 3, 0, 0, 0, 0] }), ({ ktype := 7, kseq := 4, data := [1, 1, 2, 0, 9, 0, 0, 0] }), (on3 fun l => { l with state := 5, kpr := { l.kpr with waits := [(({ ktype := 7, kseq := 4, data := [1, 1, 2, 0, 9, 0, 0, 0] }), 0, 0)] } }), by unfold State.linkRuns; decide +kernel⟩,
    ⟨(3), ({ n := 0, map0 := 2, map1 := 3, freed := 0 }), (on3 fun l => { l with state := 5, tx0 := 0, txSw := some ({ n := 0, map0 := 2, map1 := 3, freed := 0 }) }), by unfold State.linkRuns; decide +kernel⟩,
    ⟨(3), (1), (on3 fun l => ({ l with state := 5 }).modLane 1 fun _ => { lane3 with llane := 0 }), by unfold State.linkRuns; decide +kernel⟩,
    ⟨(3), (on3 fun l => { l with state := 5 }), by unfold State.linkRuns; decide +kernel⟩⟩

/-- States and operands that meet the hypotheses of LinksFollowControl, clause by clause. -/
theorem meets_LinksFollowControl :
    (∃ (n : Nat) (m : CMsg) (s : State), s.linkFabRuns n ∧ linkWrites n 0x000 m ∧ (regData m).getLsbD 31 = true ∧ (s.link n).en = false ∧ (regData m).extractLsb' 26 2 = 0 ∧ (s.link n).loop = 0 ∧ (regData m).getLsbD 29 = false ∧ (s.link n).state = 0) ∧
    (∃ (n : Nat) (m : CMsg) (s : State), s.linkFabRuns n ∧ linkWrites n 0x000 m ∧ (regData m).getLsbD 31 = false ∧ (s.link n).en = true ∧ (regData m).extractLsb' 26 2 = 0 ∧ (s.link n).loop = 0 ∧ 2 ≤ (s.link n).state ∧ (s.link n).state ≤ 5) ∧
    (∃ (n : Nat) (m : CMsg) (s : State), s.linkFabRuns n ∧ linkWrites n 0x000 m ∧ (regData m).getLsbD 31 = false ∧ (s.link n).en = true ∧ (regData m).extractLsb' 26 2 = 0 ∧ (s.link n).loop = 0 ∧ (s.link n).state = 1) ∧
    (∃ (n : Nat) (m : CMsg) (s : State), s.linkFabRuns n ∧ linkWrites n 0x000 m ∧ (regData m).getLsbD 31 = true ∧ (s.link n).en = true ∧ (regData m).extractLsb' 26 2 = 0 ∧ (s.link n).loop = 0 ∧ (regData m).getLsbD 29 = true) ∧
    (∃ (n : Nat) (m : CMsg) (s : State), s.linkFabRuns n ∧ linkWrites n 0x000 m ∧ (regData m).extractLsb' 26 2 = 1 ∧ (s.link n).loop ≠ 1) ∧
    (∃ (n : Nat) (m : CMsg) (s : State), s.linkFabRuns n ∧ linkWrites n 0x000 m ∧ (regData m).extractLsb' 26 2 = 3 ∧ (s.link n).loop ≠ 3 ∧ (s.link n).loopOk = false) ∧
    (∃ (n : Nat) (lane : Nat) (m : CMsg) (s : State), s.linkFabRuns n ∧ lane < 3 ∧ linkWrites n (0x008 + 4 * lane) m ∧ (((regData m).getLsbD 26 = false ∨ ((regData m).extractLsb' 12 4).toNat ≤ 12 ∧ ((regData m).extractLsb' 7 5).toNat ≤ 20))) ∧
    (∃ (n : Nat) (lane : Nat) (m : CMsg) (s : State), s.linkFabRuns n ∧ lane < 3 ∧ linkWrites n (0x008 + 4 * lane) m ∧ (regData m).getLsbD 26 = true ∧ ((12 < ((regData m).extractLsb' 12 4).toNat ∨ 20 < ((regData m).extractLsb' 7 5).toNat))) ∧
    (∃ (n : Nat) (m : CMsg) (s : State), s.linkFabRuns n ∧ linkWrites n 0x030 m ∧ (s.link n).state = 8 ∧ (regData m).extractLsb' 30 2 ≠ 3) ∧
    (∃ (n : Nat) (m : CMsg) (s : State), s.linkFabRuns n ∧ linkWrites n 0x030 m ∧ (s.link n).state ≠ 8) ∧
    (∃ (n : Nat) (d : Nat) (s : State), s.linkRuns n ∧ (s.link n).stageDue = some d ∧ d ≤ s.fc ∧ (s.link n).state ≠ 2) ∧
    (∃ (n : Nat) (d : Nat) (s : State), s.linkRuns n ∧ (s.link n).stageDue = some d ∧ d ≤ s.fc ∧ (s.link n).state = 2 ∧ ((s.link n).lane 0).ready = true ∧ ((s.link n).lane 0).farReady = true) ∧
    (∃ (n : Nat) (d : Nat) (s : State), s.linkRuns n ∧ (s.link n).expectDue = some d ∧ d ≤ s.fc ∧ (s.link n).expect = true ∧ (s.link n).state = 1) ∧
    (∃ (n : Nat) (d : Nat) (s : State), s.linkRuns n ∧ (s.link n).holdoff = some d ∧ d ≤ s.fc ∧ (s.link n).state = 6 ∧ (s.link n).en = true ∧ 3 ≤ (s.link n).attempts) ∧
    (∃ (n : Nat) (d : Nat) (s : State), s.linkRuns n ∧ (s.link n).holdoff = some d ∧ d ≤ s.fc ∧ (s.link n).state = 6 ∧ (((s.link n).en = true → (s.link n).attempts < 3))) ∧
    (∃ (n : Nat) (k : KMsg) (s : State), s.linkRuns n ∧ isTest k 1 = true ∧ s.keeperNew n k ∧ (s.link n).en = true) ∧
    (∃ (n : Nat) (k : KMsg) (s : State), s.linkRuns n ∧ isTest k 1 = true ∧ s.keeperNew n k ∧ (s.link n).en = false) ∧
    (∃ (n : Nat) (k : KMsg) (s : State), s.linkRuns n ∧ isTest k 0 = true ∧ s.keeperNew n k ∧ (s.link n).state = 8 ∧ (s.link n).loop = 0) ∧
    (∃ (n : Nat) (k : KMsg) (s : State), s.linkRuns n ∧ isTest k 2 = true ∧ s.keeperNew n k ∧ (s.link n).state = 8 ∧ (nth 0 k.data 2).toNat ≤ 2) ∧
    (∃ (n : Nat) (k : KMsg) (q : KMsg) (s : State), s.linkRuns n ∧ k.ktype = 0x0E ∧ (s.link n).kpr.asked 0x0D k.kseq = some q ∧ nth 0 q.data 0 = 1 ∧ (s.link n).state = 8 ∧ (s.link n).loop = 3) ∧
    (∃ (n : Nat) (lane : Nat) (b : Bool) (want : Bool) (x : Lane) (s : State), s.linkRuns n ∧ (s.link n).state = 8 ∧ lane < 3 ∧ (s.link n).chkEn.getLsbD lane = true ∧ (s.link n).pat = 0 ∧ (s.link n).lane lane = x ∧ x.plock = true ∧ 7 ≤ x.hist.length ∧ (s.link n).nearLoop = false ∧ (s.link n).looping = false ∧ (x.errs.filter id).length < 256 ∧ want = (nth false x.hist 6 != nth false x.hist 5)) ∧
    (∃ (n : Nat) (lane : Nat) (bs : List Bool) (s : State), s.linkRuns n ∧ (s.link n).state = 8 ∧ lane < 3 ∧ (s.link n).nearLoop = false ∧ (s.link n).looping = true ∧ (s.link n).chkEn.getLsbD lane = false) ∧
    (∃ (n : Nat) (lane : Nat) (bs : List Bool) (s : State), s.linkRuns n ∧ (s.link n).nearLoop = true) :=
  ⟨⟨(3), (linkWr 0 (2 ^ 31 + 2 ^ 30)), (base), by unfold State.linkFabRuns linkWrites; decide +kernel⟩,
    ⟨(3), (linkWr 0 0), (on3 fun l => { l with en := true, state := 3 }), by unfold State.linkFabRuns linkWrites; decide +kernel⟩,
    ⟨(3), (linkWr 0 0), (on3 fun l => { l with en := true, state := 1 }), by unfold State.linkFabRuns linkWrites; decide +kernel⟩,
    ⟨(3), (linkWr 0 (2 ^ 31 + 2 ^ 29)), (on3 fun l => { l with en := true, state := 7, attempts := 3 }), by unfold State.linkFabRuns linkWrites; decide +kernel⟩,
    ⟨(3), (linkWr 0 (2 ^ 31 + 2 ^ 26)), (on3 fun l => { l with en := true, state := 5 }), by unfold State.linkFabRuns linkWrites; decide +kernel⟩,
    ⟨(3), (linkWr 0 (2 ^ 31 + 3 * 2 ^ 26)), (on3 fun l => { l with en := true, state := 5 }), by unfold State.linkFabRuns linkWrites; decide +kernel⟩,
    ⟨(3), (1), (linkWr 0xC (2 ^ 26 + 12 * 2 ^ 12 + 20 * 2 ^ 7)), (base), by unfold State.linkFabRuns linkWrites; decide +kernel⟩,
    ⟨(3), (1), (linkWr 0xC (2 ^ 26 + 13 * 2 ^ 12)), (base), by unfold State.linkFabRuns linkWrites; decide +kernel⟩,
    ⟨(3), (linkWr 0x30 (2 ^ 30 + 7 * 2 ^ 8 + 5 * 2 ^ 4)), (on3 fun l => { l with state := 8 }), by unfold State.linkFabRuns linkWrites; decide +kernel⟩,
    ⟨(3), (linkWr 0x30 0), (base), by unfold State.linkFabRuns linkWrites; decide +kernel⟩,
    ⟨(3), (0), (on3 fun l => { l with state := 4, stageDue := some 0 }), by unfold State.linkRuns; decide +kernel⟩,
    ⟨(3), (0), (on3 fun l => ({ l with state := 2, stageDue := some 0 }).modLane 0 fun x => { x with ready := true, farReady := true }), by unfold State.linkRuns; decide +kernel⟩,
    ⟨(3), (0), (on3 fun l => { l with state := 1, expect := true, expectDue := some 0 }), by unfold State.linkRuns; decide +kernel⟩,
    ⟨(3), (0), (on3 fun l => { l with state := 6, en := true, attempts := 3, holdoff := some 0 }), by unfold State.linkRuns; decide +kernel⟩,
    ⟨(3), (0), (on3 fun l => { l with state := 6, en := true, attempts := 2, holdoff := some 0 }), by unfold State.linkRuns; decide +kernel⟩,
    ⟨(3), ({ ktype := 0xD, kseq := 4, data := [1, 0, 0, 0] }), (on3 fun l => { l with state := 5, en := true }), by unfold State.linkRuns State.keeperNew; decide +kernel⟩,
    ⟨(3), ({ ktype := 0xD, kseq := 4, data := [1, 0, 0, 0] }), (on3 fun l => { l with state := 5 }), by unfold State.linkRuns State.keeperNew; decide +kernel⟩,
    ⟨(3), ({ ktype := 0xD, kseq := 4, data := [0, 0, 0, 0] }), (on3 fun l => { l with state := 8, kpr := { l.kpr with locked := true } }), by unfold State.linkRuns State.keeperNew; decide +kernel⟩,
    ⟨(3), ({ ktype := 0xD, kseq := 4, data := [2, 5, 1, 0] }), (on3 fun l => { l with state := 8 }), by unfold State.linkRuns State.keeperNew; decide +kernel⟩,
    ⟨(3), ({ ktype := 0xE, kseq := 4, data := [0, 0, 0, 0] }), ({ ktype := 0xD, kseq := 4, data := [1, 0, 0, 0] }), (on3 fun l => { l with state := 8, loop := 3, kpr := { l.kpr with waits := [(({ ktype := 0xD, kseq := 4, data := [1, 0, 0, 0] }), 0, 0)] } }), by unfold State.linkRuns; decide +kernel⟩,
    ⟨(3), (1), (true), (false), ({ Lane.init with plock := true, hist := List.replicate 7 false }), (on3 fun l => ({ l with state := 8, chkEn := 2, pat := 0 }).modLane 1 fun _ => ({ Lane.init with plock := true, hist := List.replicate 7 false })), by unfold State.linkRuns; decide +kernel⟩,
    ⟨(3), (1), ([true, false]), (on3 fun l => { l with state := 8, looping := true }), by unfold State.linkRuns; decide +kernel⟩,
    ⟨(3), (1), ([true, false]), (on3 fun l => { l with state := 8, loop := 1 }), by unfold State.linkRuns; decide +kernel⟩⟩

/-- States and operands that meet the hypotheses of FramesArrive, clause by clause. -/
theorem meets_FramesArrive :
    (∃ (n : Nat) (f : Frame) (s : State), s.frameTakes n f 1 ∧ s.frameQuiet n f ∧ f.hdr.fseq = (s.link n).ll.expected ∧ f.hdr.det = 0 ∧ f.hdr.first = 1 ∧ (s.link n).ll.rxOpen.contains f.hdr.vc.toNat = false) ∧
    (∃ (n : Nat) (f : Frame) (s : State), s.frameTakes n f 1 ∧ s.frameQuiet n f ∧ f.hdr.fseq ≠ (s.link n).ll.expected) ∧
    (∃ (n : Nat) (f : Frame) (s : State), s.linkFabRuns n ∧ (s.link n).state = 5 ∧ s.shut (.linkRx n) = false ∧ (s.link n).ll.lossDue = false ∧ frameOk f = false ∧ f.hdr.ftype ≠ 3) ∧
    (∃ (n : Nat) (vc : Nat) (f : Frame) (s : State), s.frameTakes n f 2 ∧ s.frameQuiet n f ∧ f.hdr.fseq = (s.link n).ll.expected ∧ f.hdr.det = 0 ∧ vc = 4 + f.hdr.vc.toNat % 2) ∧
    (∃ (n : Nat) (k : Nat) (f : Frame) (s : State), s.frameTakes n f 4 ∧ f.hdr.nak = 0 ∧ f.hdr.crvc = 7 ∧ 0 < k ∧ k ≤ (s.link n).ll.replay.length ∧ (s.link n).ll.replay.length < 1024 ∧ f.hdr.ackseq = (s.link n).ll.nextSeq - BitVec.ofNat 10 (s.link n).ll.replay.length + BitVec.ofNat 10 k ∧ f.hdr.fseq = (s.link n).ll.expected ∧ (∀ r ∈ (s.link n).ll.replay.take k, r.frame.hdr.last = 0)) ∧
    (∃ (n : Nat) (f : Frame) (s : State), s.frameTakes n f 4 ∧ f.hdr.nak = 0 ∧ f.hdr.crvc.toNat < 6 ∧ f.hdr.ackseq = (s.link n).ll.nextSeq - BitVec.ofNat 10 (s.link n).ll.replay.length ∧ f.hdr.fseq = (s.link n).ll.expected) ∧
    (∃ (n : Nat) (f : Frame) (s : State), s.frameTakes n f 4 ∧ f.hdr.nak = 1 ∧ f.hdr.crvc = 7 ∧ f.hdr.ackseq = (s.link n).ll.nextSeq - BitVec.ofNat 10 (s.link n).ll.replay.length ∧ f.hdr.fseq = (s.link n).ll.expected ∧ (s.link n).ll.replay ≠ [] ∧ (s.link n).ll.replays + 1 < (s.link n).ll.rlim.toNat) ∧
    (∃ (n : Nat) (f : Frame) (s : State), s.frameTakes n f 4 ∧ s.frameQuiet n f ∧ 1 ≤ (f.hdr.fseq - (s.link n).ll.expected).toNat ∧ (f.hdr.fseq - (s.link n).ll.expected).toNat ≤ 64) ∧
    (∃ (n : Nat) (w : Nat) (f : Frame) (s : State), s.frameTakes n f 3 ∧ s.frameQuiet n f ∧ s.circOff n = false ∧ (s.stop (s.ringAt n).1).rt.ceasedPorts = [] ∧ (s.stop (s.ringAt n).1).rt.cdisc = [] ∧ (s.link n).ll.circRx.length < 64 ∧ extendStamp s.now f.hdr.stide * 4 + f.hdr.sph.toNat + (s.linkRec n).circ = (s.nowFc.toNat : Int) + w) ∧
    (∃ (n : Nat) (w : Nat) (f : Frame) (s : State), s.frameTakes n f 3 ∧ s.frameQuiet n f ∧ s.circOff n = false ∧ (s.stop (s.ringAt n).1).rt.ceasedPorts = [] ∧ (s.stop (s.ringAt n).1).rt.cdisc = [] ∧ extendStamp s.now f.hdr.stide * 4 + f.hdr.sph.toNat + (s.linkRec n).circ + (w : Int) + 1 = (s.nowFc.toNat : Int)) ∧
    (∃ (n : Nat) (f : Frame) (ty : BitVec 4) (i : Instr) (s : State), s.linkRuns n ∧ (s.link n).state = 5 ∧ s.shut (.linkRx n) = false ∧ ((frameOk f = true → f.hdr.ftype = ty)) ∧ ((i = .frameTdataReceived n f true ∧ ty = 1 ∨ i = .frameCdataReceived n f true ∧ ty = 2 ∨ i = .frameCircReceived n f true ∧ ty = 3 ∨ i = .frameCtrlReceived n f true ∧ ty = 4))) :=
  ⟨⟨(3), (fr3 1 0 7 0), (act3 fun l => l), by unfold State.frameTakes State.linkFabRuns State.frameQuiet; decide +kernel⟩,
    ⟨(3), (fr3 1 5 7 0), (act3 fun l => l), by unfold State.frameTakes State.linkFabRuns State.frameQuiet; decide +kernel⟩,
    ⟨(3), ({ (fr3 1 5 7 0) with data := [] }), (act3 fun l => l), by unfold State.linkFabRuns; decide +kernel⟩,
    ⟨(3), (4), (fr3 2 0 7 0), (act3 fun l => l), by unfold State.frameTakes State.linkFabRuns State.frameQuiet; decide +kernel⟩,
    ⟨(3), (1), (fr3 4 0 7 9), (act3 fun l => { l with nextSeq := 10, replay := [rep3, rep3] }), by unfold State.frameTakes State.linkFabRuns; decide +kernel⟩,
    ⟨(3), (fr3 4 0 2 0), (act3 fun l => l), by unfold State.frameTakes State.linkFabRuns; decide +kernel⟩,
    ⟨(3), (frameSeal { (fr3 4 0 7 9) with hdr := { (fr3 4 0 7 9).hdr with nak := 1 } }), (act3 fun l => { l with nextSeq := 10, replay := [rep3] }), by unfold State.frameTakes State.linkFabRuns; decide +kernel⟩,
    ⟨(3), (fr3 4 64 7 0), (act3 fun l => l), by unfold State.frameTakes State.linkFabRuns State.frameQuiet; decide +kernel⟩,
    ⟨(3), (0), (fr3 3 0 7 0), ((act3 fun l => l).modLink 3 fun l => { l with en := true }), by unfold State.frameTakes State.linkFabRuns State.frameQuiet; decide +kernel⟩,
    ⟨(3), (0), (fr3 3 0 7 0), ({ ((act3 fun l => l).modLink 3 fun l => { l with en := true }) with tide := { (act3 fun l => l).tide with phase := 1 } }), by unfold State.frameTakes State.linkFabRuns State.frameQuiet; decide +kernel⟩,
    ⟨(3), (fr3 2 5 7 0), (2), (.frameCdataReceived 3 (fr3 2 5 7 0) true), (act3 fun l => l), by unfold State.linkRuns; decide +kernel⟩⟩

/-- States and operands that meet the hypotheses of FramesLeave, clause by clause. -/
theorem meets_FramesLeave :
    (∃ (n : Nat) (c : CircFlit) (cs : List CircFlit) (s : State), s.linkSends n ∧ s.circOff n = false ∧ (s.link n).ll.circTx = c :: cs) ∧
    (∃ (n : Nat) (s : State), s.linkSends n ∧ (s.link n).ll.circTx = [] ∧ (s.link n).ll.nakDue = true) ∧
    (∃ (n : Nat) (k : Nat) (r : RepFrame) (s : State), s.linkSends n ∧ (s.link n).ll.circTx = [] ∧ (s.link n).ll.nakDue = false ∧ (s.link n).ll.toReplay = k + 1 ∧ (s.link n).ll.replay[(s.link n).ll.replay.length - (k + 1)]? = some r) ∧
    (∃ (n : Nat) (k : Nat) (nb : Nat) (x : TxItem) (s : State), s.linkSends n ∧ (s.link n).ll.circTx = [] ∧ (s.link n).ll.nakDue = false ∧ (s.link n).ll.toReplay = 0 ∧ ([5, 4] ++ (List.range 4).map fun i => ((s.link n).ll.rr + 1 + i) % 4).findSome? (s.link n).ll.next = some (x, k, nb) ∧ x.vc < 6) ∧
    (∃ (n : Nat) (s : State), s.linkSends n ∧ (s.link n).ll.circTx = [] ∧ (s.link n).ll.nakDue = false ∧ (s.link n).ll.toReplay = 0 ∧ (s.link n).ll.tx = [] ∧ (s.link n).ll.ctrlDue s.ft = false) ∧
    (∃ (n : Nat) (s : State), s.linkFabRuns n ∧ 8 ≤ (s.link n).txf.length) ∧
    (∃ (n : Nat) (s : State), s.linkSends n ∧ (s.link n).ll.ctrlDue s.ft = true) ∧
    (∃ (n : Nat) (r : RepFrame) (rs : List RepFrame) (s : State), s.linkFabRuns n ∧ s.llUp n = true ∧ (s.link n).ll.replay = r :: rs ∧ r.at_ + (s.link n).ll.rto.toNat ≤ s.ft ∧ (s.link n).ll.replays + 1 < (s.link n).ll.rlim.toNat) ∧
    (∃ (n : Nat) (r : RepFrame) (rs : List RepFrame) (s : State), s.linkFabRuns n ∧ s.llUp n = true ∧ (s.link n).ll.replay = r :: rs ∧ r.at_ + (s.link n).ll.rto.toNat ≤ s.ft ∧ (s.link n).ll.rlim.toNat ≤ (s.link n).ll.replays + 1) ∧
    (∃ (n : Nat) (d : Nat) (s : State), s.linkFabRuns n ∧ (s.link n).ll.nakUntil = some d ∧ d ≤ s.ft) :=
  ⟨⟨(3), ({ cid := 5, vc := 1, data := [1], due := 0 }), ([]), ((act3 fun l => { l with circTx := [({ cid := 5, vc := 1, data := [1], due := 0 })] }).modLink 3 fun l => { l with en := true }), by unfold State.linkSends State.linkFabRuns; decide +kernel⟩,
    ⟨(3), (act3 fun l => { l with nakDue := true }), by unfold State.linkSends State.linkFabRuns; decide +kernel⟩,
    ⟨(3), (0), (rep3), (act3 fun l => { l with toReplay := 1, replay := [rep3, rep3] }), by unfold State.linkSends State.linkFabRuns; decide +kernel⟩,
    ⟨(3), (64), (2), ({ vc := 1, bytes := thdrBytes { h17 with plen := 0 }, framed := 0, whole := true }), (act3 fun l => { l with tx := [({ vc := 1, bytes := thdrBytes { h17 with plen := 0 }, framed := 0, whole := true })], credit := [(1, 2)] }), by unfold State.linkSends State.linkFabRuns; decide +kernel⟩,
    ⟨(3), (act3 fun l => l), by unfold State.linkSends State.linkFabRuns; decide +kernel⟩,
    ⟨(3), ((act3 fun l => { l with nakDue := true }).modLink 3 fun l => { l with txf := List.replicate 8 default }), by unfold State.linkFabRuns; decide +kernel⟩,
    ⟨(3), ({ (act3 fun l => { l with oweSince := some 0 }) with ft := 64 }), by unfold State.linkSends State.linkFabRuns; decide +kernel⟩,
    ⟨(3), (rep3), ([]), ({ (act3 fun l => { l with replay := [rep3] }) with ft := 2000 }), by unfold State.linkFabRuns; decide +kernel⟩,
    ⟨(3), (rep3), ([]), ({ (act3 fun l => { l with replay := [rep3], replays := 7 }) with ft := 2000 }), by unfold State.linkFabRuns; decide +kernel⟩,
    ⟨(3), (0), (act3 fun l => { l with nakUntil := some 0 }), by unfold State.linkFabRuns; decide +kernel⟩⟩

/-- States and operands that meet the hypotheses of LossesAreRepaired, clause by clause. -/
theorem meets_LossesAreRepaired :
    (∃ (n : Nat) (s : State), s.linkFabRuns n ∧ (s.link n).ll.lossDue = true) ∧
    (∃ (n : Nat) (s : State), s.linkFabRuns n ∧ (s.link n).ll.lossDue = false) ∧
    (∃ (n : Nat) (t : Nat) (s : State), s.linkFabRuns n ∧ (s.link n).ll.lost = true ∧ t ∈ s.tiles) ∧
    (∃ (n : Nat) (a : Nat) (t : Nat) (node : Nat) (e : Word) (s : State), s.linkFabRuns n ∧ (s.link n).ll.activeAt = some a ∧ a + 2000000 ≤ s.ft ∧ t ∈ s.tiles ∧ s.imgEgress t = [(node, e)] ∧ e.getLsbD 31 = true ∧ (e.extractLsb' 0 8).toNat = n) ∧
    (∃ (n : Nat) (x : TxItem) (s : State), s.linkFabRuns n ∧ (s.link n).ll.rewritten = true ∧ (s.link n).ll.kept = [x] ∧ x.vc < 4 ∧ (pktOfBytes x.bytes).hdr.dmode = 0) ∧
    (∃ (n : Nat) (x : TxItem) (s : State), s.linkFabRuns n ∧ (s.link n).ll.rewritten = true ∧ (s.link n).ll.kept = [x] ∧ 4 ≤ x.vc) ∧
    (∃ (n : Nat) (x : TxItem) (s : State), s.linkFabRuns n ∧ (s.link n).ll.rewritten = true ∧ (s.link n).ll.kept = [x] ∧ x.vc < 4 ∧ (pktOfBytes x.bytes).hdr.dmode ≠ 0 ∧ s.deadOut (linkTile s.build n) (s.ringAt n).2 = false) ∧
    (∃ (node : Nat) (t : Nat) (k : Nat) (l : Lock) (s : State), s.running = true ∧ s.nodeGone node = true ∧ s.goneTold node = false ∧ t ∈ s.tiles ∧ (s.stop t).lk.locks = [(k, l)] ∧ l.state = 1 ∧ l.node = node) ∧
    (∃ (node : Nat) (s : State), s.running = true ∧ (s.nodeGone node = false ∨ s.goneTold node = true)) ∧
    (∃ (t : Nat) (k : Nat) (p : Pkt) (g : Group) (s : State), s.stopRuns t ∧ ((p.hdr.type = tRedDown ∨ p.hdr.type = tCtl)) ∧ p.hdr.vc = 3 ∧ s.egressTrees t p.hdr = [k] ∧ s.hdrOk p.hdr = true ∧ p.hdr.e2e = 0 ∧ s.isLate p.hdr = false ∧ s.groupOf p.hdr.coll.toNat = some g ∧ g.pan = p.hdr.pan.toNat ∧ countOk p.hdr = true ∧ p.hdr.pcnt = 1 ∧ (s.stop t).co.relays = []) ∧
    (∃ (t : Nat) (p : Pkt) (g : Group) (s : State), s.stopRuns t ∧ ((p.hdr.type = tRedDown ∨ p.hdr.type = tCtl)) ∧ p.hdr.vc = 3 ∧ s.egressTrees t p.hdr ≠ [] ∧ s.hdrOk p.hdr = true ∧ p.hdr.e2e = 0 ∧ s.isLate p.hdr = false ∧ s.groupOf p.hdr.coll.toNat = some g ∧ g.pan = p.hdr.pan.toNat ∧ countOk p.hdr = true ∧ s.relayOf t (keyOf p.hdr) = none ∧ s.relayRoom t p.hdr.pcnt.toNat = false ∧ (s.stop t).si.keyState (keyOf p.hdr) s.ft = none ∧ p.hdr.dmode = 0) ∧
    (∃ (t : Nat) (mseq : Nat) (code : Nat) (q : BitVec 16) (r : Relay) (s : State), s.stopRuns t ∧ (s.stop t).co.relays = [r] ∧ r.mseq = some q ∧ q.toNat = mseq ∧ r.code = some code ∧ r.told = false ∧ r.hdr.dmode = 0) :=
  ⟨⟨(3), (act3 fun l => { l with lossDue := true, replay := [{ rep3 with frame := { rep3.frame with hdr := { rep3.frame.hdr with last := 1 } } }] }), by unfold State.linkFabRuns; decide +kernel⟩,
    ⟨(3), (base), by unfold State.linkFabRuns; decide +kernel⟩,
    ⟨(3), (17), ((act3 fun l => { l with lost := true }).modRo 17 fun r => { r with egress := [(9, 0x80000003), (8, 0x80000004)] }), by unfold State.linkFabRuns; decide +kernel⟩,
    ⟨(3), (0), (17), (9), (0x80000003), ({ (act3 fun l => { l with activeAt := some 0 }) with ft := 2000000, img := { base.img with act := { base.img.act with egressTmpl := ([], [[(9, 0x80000003)]]) } } }), by unfold State.linkFabRuns; decide +kernel⟩,
    ⟨(3), ({ vc := 1, bytes := thdrBytes { h17 with plen := 0 }, framed := 0, whole := true }), (act3 fun l => { l with rewritten := true, kept := [({ vc := 1, bytes := thdrBytes { h17 with plen := 0 }, framed := 0, whole := true })] }), by unfold State.linkFabRuns; decide +kernel⟩,
    ⟨(3), ({ vc := 4, bytes := chdrBytes (cm 1 0 []).hdr, framed := 0, whole := true }), (act3 fun l => { l with rewritten := true, kept := [({ vc := 4, bytes := chdrBytes (cm 1 0 []).hdr, framed := 0, whole := true })] }), by unfold State.linkFabRuns; decide +kernel⟩,
    ⟨(3), ({ vc := 1, bytes := thdrBytes { h17 with plen := 0, dmode := 2 }, framed := 0, whole := true }), (act3 fun l => { l with rewritten := true, kept := [({ vc := 1, bytes := thdrBytes { h17 with plen := 0, dmode := 2 }, framed := 0, whole := true })] }), by unfold State.linkFabRuns; decide +kernel⟩,
    ⟨(9), (17), (3), ({ (default : Lock) with state := 1, node := 9, gen := 4 }), ({ ((inPan.setLock 17 3 ({ (default : Lock) with state := 1, node := 9, gen := 4 })).modLink 3 fun y => { y with farVld := true, farNode := 9, ll := { y.ll with lost := true, lostAt := some 0 } }) with ft := 4000000000 }), by decide +kernel⟩,
    ⟨(9), (base), by decide +kernel⟩,
    ⟨(17), (4), ({ hdr := { h17 with type := 7, vc := 3, coll := 128, sig := 5, plen := 4 }, data := [1, 2, 3, 4] }), (g17), (relayState), by unfold State.stopRuns; decide +kernel⟩,
    ⟨(17), ({ hdr := { h17 with type := 7, vc := 3, coll := 128, sig := 5, plen := 4 }, data := [1, 2, 3, 4] }), (g17), (relayState.modCo 17 fun c => { c with relays := [{ (default : Relay) with need := 32 }] }), by unfold State.stopRuns; decide +kernel⟩,
    ⟨(17), (5), (0), (5), ({ (default : Relay) with mseq := some 5, code := some 0, uid := 3, hdr := h17 }), ((cuState.modCo 17 fun c => { c with relays := [({ (default : Relay) with mseq := some 5, code := some 0, uid := 3, hdr := h17 })] }).modSi 17 fun si => { si with msgs := [msg1] }), by unfold State.stopRuns; decide +kernel⟩⟩

/-- States and operands that meet the hypotheses of PansAreReshaped, clause by clause. -/
theorem meets_PansAreReshaped :
    (∃ (k : Nat) (q : Req) (s : State), s.serves 0x30018 q ∧ s.hrv.state < 2 ∧ q.wdata.getLsbD 31 = true ∧ k = (q.wdata.extractLsb' 0 2).toNat ∧ s.armRight q.win.toNat (s.target (k + 1)).panset = true ∧ s.goCode k (s.panWin q.win.toNat).arm.toNat (q.wdata.extractLsb' 16 14).toNat = rOk) ∧
    (∃ (k : Nat) (c : Nat) (q : Req) (s : State), s.serves 0x30018 q ∧ s.hrv.state < 2 ∧ q.wdata.getLsbD 31 = true ∧ k = (q.wdata.extractLsb' 0 2).toNat ∧ s.armRight q.win.toNat (s.target (k + 1)).panset = true ∧ s.goCode k (s.panWin q.win.toNat).arm.toNat (q.wdata.extractLsb' 16 14).toNat = c ∧ c ≠ rOk) ∧
    (∃ (q : Req) (s : State), s.serves 0x30018 q ∧ q.wdata.getLsbD 31 = true ∧ q.win ≠ 0 ∧ s.hasArm q.win.toNat = false) ∧
    (∃ (k : Nat) (ts : Nat) (d : Nat) (s : State), (s.target (k + 1)).state = 2 ∧ 1 ≤ d ∧ d ≤ 10000 ∧ ts < s.entryCount.toNat + 16) ∧
    (∃ (k : Nat) (ts : Nat) (d : Nat) (c : Sections) (s : State), (s.target (k + 1)).state = 2 ∧ 1 ≤ d ∧ d ≤ 10000 ∧ s.entryCount.toNat + 16 ≤ ts ∧ (s.target (k + 1)).secs = some c ∧ s.collBusy c = true) ∧
    (∃ (k : Nat) (ts : Nat) (d : Nat) (s : State), (s.target (k + 1)).state ≠ 2) ∧
    (∃ (k : Nat) (q : Req) (w : Switch) (s : State), s.serves 0x30018 q ∧ s.hrv.state < 2 ∧ q.wdata.getLsbD 31 = false ∧ q.wdata.getLsbD 30 = true ∧ k = (q.wdata.extractLsb' 0 2).toNat ∧ s.armRight q.win.toNat (s.target (k + 1)).panset = true ∧ s.img.switches = [w] ∧ w.id = .stage k ∧ s.now + 16 ≤ w.ts) ∧
    (∃ (k : Nat) (q : Req) (w : Switch) (s : State), s.serves 0x30018 q ∧ s.hrv.state < 2 ∧ q.wdata.getLsbD 31 = false ∧ q.wdata.getLsbD 30 = true ∧ k = (q.wdata.extractLsb' 0 2).toNat ∧ s.armRight q.win.toNat (s.target (k + 1)).panset = true ∧ s.img.switches = [w] ∧ w.id = .stage k ∧ w.ts < s.now + 16) ∧
    (∃ (p : Nat) (r : PanRec) (q : Req) (s : State), s.serves 0x30020 q ∧ s.hrv.state < 2 ∧ q.wdata.getLsbD 31 = true ∧ p = (q.wdata.extractLsb' 0 8).toNat ∧ s.armRight q.win.toNat [p] = true ∧ s.pan? p = some r ∧ s.panHere r = true ∧ 1 ≤ (s.panWin q.win.toNat).drain ∧ (s.panWin q.win.toNat).drain ≤ 10000 ∧ s.now + 16 ≤ (s.panWin q.win.toNat).arm.toNat ∧ s.img.switches = []) ∧
    (∃ (id : SwId) (w : Switch) (s : State), s.running = true ∧ s.img.switches = [w] ∧ w.id = id ∧ w.ts = s.now ∧ s.tide.phase = 0) ∧
    (∃ (k : Nat) (w : Switch) (c : Sections) (s : State), s.running = true ∧ s.img.switches = [w] ∧ w.id = .stage k ∧ w.draining = true ∧ w.ts + w.d = s.now ∧ s.tide.phase = 0 ∧ (s.target (k + 1)).secs = some c) ∧
    (∃ (p : Nat) (t : Nat) (w : Switch) (r : PanRec) (s : State), s.running = true ∧ s.img.switches = [w] ∧ w.id = .reset p ∧ w.panset = [p] ∧ w.draining = true ∧ w.ts + w.d = s.now ∧ s.tide.phase = 0 ∧ t ∈ s.tiles ∧ s.tilePan t = some r ∧ r.id = p) ∧
    (∃ (id : SwId) (s : State), s.running = true ∧ ((∀ w ∈ s.img.switches, w.draining = false ∨ w.ts + w.d ≠ s.now ∨ s.tide.phase ≠ 0))) ∧
    (∃ (id : SwId) (s : State), s.running = true ∧ ((∀ w ∈ s.img.switches, w.ts ≠ s.now ∨ s.tide.phase ≠ 0))) :=
  ⟨⟨(1), (rq 0x30018 0 (BitVec.ofNat 32 (2 ^ 31 + 8000 * 2 ^ 16 + 1))), (staged 2), by unfold State.serves; decide +kernel⟩,
    ⟨(1), (rError), (rq 0x30018 0 (BitVec.ofNat 32 (2 ^ 31 + 1))), (staged 2), by unfold State.serves; decide +kernel⟩,
    ⟨(rq 0x30018 2 (BitVec.ofNat 32 (2 ^ 31 + 8000 * 2 ^ 16 + 1))), (staged 2), by unfold State.serves; decide +kernel⟩,
    ⟨(1), (15), (5), (staged 2), by decide +kernel⟩,
    ⟨(1), (16), (5), ({ secs1 with panset := [2], groups := [{ g17 with gtl := 7 }] }), ({ cuState with img := { cuState.img with targets := [(2, { (default : Target) with state := 2, secs := some ({ secs1 with panset := [2], groups := [{ g17 with gtl := 7 }] }) })] } }.modCo 17 fun co => { co with live := [live17] }), by decide +kernel⟩,
    ⟨(1), (15), (5), (base), by decide +kernel⟩,
    ⟨(1), (rq 0x30018 0 (BitVec.ofNat 32 (2 ^ 30 + 1))), (sw17 (.stage 1) 16), (withSw (sw17 (.stage 1) 16)), by unfold State.serves; decide +kernel⟩,
    ⟨(1), (rq 0x30018 0 (BitVec.ofNat 32 (2 ^ 30 + 1))), (sw17 (.stage 1) 15), (withSw (sw17 (.stage 1) 15)), by unfold State.serves; decide +kernel⟩,
    ⟨(1), (pan1), (rq 0x30020 0 (BitVec.ofNat 32 (2 ^ 31 + 1))), (inPan.modPanWin 0 fun w => { w with arm := 16 }), by unfold State.serves; decide +kernel⟩,
    ⟨(.stage 1), (sw17 (.stage 1) 0), (withSw (sw17 (.stage 1) 0)), by decide +kernel⟩,
    ⟨(1), ({ (sw17 (.stage 1) 0) with draining := true }), (secs1), ({ (staged 2) with img := { (staged 2).img with switches := [({ (sw17 (.stage 1) 0) with draining := true })] } }), by decide +kernel⟩,
    ⟨(1), (17), ({ (sw17 (.reset 1) 0) with draining := true }), (pan1), (withSw ({ (sw17 (.reset 1) 0) with draining := true })), by decide +kernel⟩,
    ⟨(.stage 1), (base), by decide +kernel⟩,
    ⟨(.stage 1), (withSw (sw17 (.stage 1) 5)), by decide +kernel⟩⟩

/-- States and operands that meet the hypotheses of ImagesLoadAndSwitch, clause by clause. -/
theorem meets_ImagesLoadAndSwitch :
    (∃ (k : Nat) (q : Req) (s : State), s.imgWrites 1 q ∧ k = (q.wdata.extractLsb' 4 3).toNat ∧ k < 5 ∧ s.loadingTarget = none ∧ s.targetArmed k = false ∧ s.img.lenReg.toNat % 16 = 0 ∧ 80 ≤ s.img.lenReg.toNat ∧ s.img.lenReg.toNat ≤ 33554432) ∧
    (∃ (k : Nat) (q : Req) (s : State), s.imgWrites 1 q ∧ k = (q.wdata.extractLsb' 4 3).toNat ∧ k < 5 ∧ ((s.loadingTarget.isSome = true ∨ s.targetArmed k = true))) ∧
    (∃ (q : Req) (s : State), s.serves 0x20000 q ∧ q.win ≠ 0 ∧ imgCmd q.wdata = 1) ∧
    (∃ (k : Nat) (q : Req) (s : State), s.serves 0x2000C q ∧ q.win = 0 ∧ s.hrv.state < 2 ∧ s.loadingTarget = some k ∧ 4 * (s.target k).words.length < (s.target k).len ∧ s.swapComing = false) ∧
    (∃ (q : Req) (s : State), s.serves 0x2000C q ∧ q.win = 0 ∧ s.hrv.state < 2 ∧ s.loadingTarget = none) ∧
    (∃ (k : Nat) (e : ImgFail) (s : State), s.running = true ∧ s.loadingTarget = some k ∧ 4 * (s.target k).words.length = (s.target k).len ∧ s.checkImage k (s.target k).len (s.target k).words = .inl e) ∧
    (∃ (k : Nat) (c : Sections) (s : State), s.running = true ∧ s.loadingTarget = some k ∧ 4 * (s.target k).words.length = (s.target k).len ∧ s.checkImage k (s.target k).len (s.target k).words = .inr c) ∧
    (∃ (k : Nat) (s : State), s.running = true ∧ s.loadingTarget = some k ∧ 4 * (s.target k).words.length ≠ (s.target k).len) ∧
    (∃ (k : Nat) (len : Nat) (ws : List Word) (s : State), imgCrc (imgBytes ws) ≠ hdrCrc (imgBytes ws)) ∧
    (∃ (k : Nat) (q : Req) (s : State), s.imgWrites 5 q ∧ k = (q.wdata.extractLsb' 4 3).toNat ∧ k < 5 ∧ s.targetArmed k = false) ∧
    (∃ (q : Req) (s : State), s.imgWrites 2 q ∧ (s.target 0).state = 2 ∧ 1 ≤ s.img.drain ∧ s.img.drain ≤ 10000 ∧ s.now + 16 ≤ s.img.at_.toNat ∧ s.img.switches = [] ∧ s.slotPend = []) ∧
    (∃ (q : Req) (s : State), s.imgWrites 2 q ∧ (s.target 0).state ≠ 2) ∧
    (∃ (q : Req) (w : Switch) (s : State), s.imgWrites 3 q ∧ s.img.switches = [w] ∧ w.id = .full ∧ s.now + 16 ≤ w.ts) ∧
    (∃ (w : Switch) (c : Sections) (s : State), s.running = true ∧ s.img.switches = [w] ∧ w.id = .full ∧ w.draining = true ∧ w.ts + w.d = s.now ∧ s.tide.phase = 0 ∧ (s.target 0).secs = some c) ∧
    (∃ (s : State), s.running = true ∧ ((∀ w ∈ s.img.switches, w.draining = false ∨ w.ts + w.d ≠ s.now ∨ s.tide.phase ≠ 0))) ∧
    (∃ (q : Req) (s : State), s.imgWrites 4 q ∧ s.now + 16 ≤ s.img.at_.toNat ∧ s.img.switches = [] ∧ s.slotPend = []) ∧
    (∃ (q : Req) (s : State), s.imgWrites 4 q ∧ s.img.at_.toNat < s.now + 16) ∧
    (∃ (a : Nat) (s : State), s.running = true ∧ s.img.factoryAt = some a ∧ a = s.now ∧ s.tide.phase = 0) ∧
    (∃ (s : State), s.running = true ∧ ((∀ a, s.img.factoryAt = some a → a ≠ s.now ∨ s.tide.phase ≠ 0))) :=
  ⟨⟨(2), (rq 0x20000 0 0x21), ({ base with img := { base.img with lenReg := 112 } }), by unfold State.imgWrites State.serves; decide +kernel⟩,
    ⟨(1), (rq 0x20000 0 0x11), (loading1), by unfold State.imgWrites State.serves; decide +kernel⟩,
    ⟨(rq 0x20000 1 0x21), (base), by unfold State.serves; decide +kernel⟩,
    ⟨(1), (rq 0x2000C 0 7), ({ base with img := { base.img with targets := [(1, { (loading1.target 1) with words := [] })] } }), by unfold State.serves; decide +kernel⟩,
    ⟨(rq 0x2000C 0 7), (base), by unfold State.serves; decide +kernel⟩,
    ⟨(1), ({ err := 1, type := 0, record := 0 }), ({ base with img := { base.img with targets := [(1, { (loading1.target 1) with words := List.replicate 28 7 })] } }), by decide +kernel⟩,
    ⟨(1), ((sectionsOf .hfE (imgBytes delta1)).getD default), (loading1), by decide +kernel⟩,
    ⟨(1), ({ base with img := { base.img with targets := [(1, { (loading1.target 1) with words := [] })] } }), by decide +kernel⟩,
    ⟨(1), (112), (List.replicate 28 7), (base), by decide +kernel⟩,
    ⟨(1), (rq 0x20000 0 0x15), (loading1), by unfold State.imgWrites State.serves; decide +kernel⟩,
    ⟨(rq 0x20000 0 0x02), ({ fullReady with img := { fullReady.img with at_ := 16 } }), by unfold State.imgWrites State.serves; decide +kernel⟩,
    ⟨(rq 0x20000 0 0x02), (base), by unfold State.imgWrites State.serves; decide +kernel⟩,
    ⟨(rq 0x20000 0 0x03), (sw17 .full 16), (withSw (sw17 .full 16)), by unfold State.imgWrites State.serves; decide +kernel⟩,
    ⟨({ (sw17 .full 0) with draining := true }), (secs0), ({ fullReady with img := { fullReady.img with switches := [({ (sw17 .full 0) with draining := true })] } }), by decide +kernel⟩,
    ⟨(base), by decide +kernel⟩,
    ⟨(rq 0x20000 0 0x04), ({ base with img := { base.img with at_ := 16 } }), by unfold State.imgWrites State.serves; decide +kernel⟩,
    ⟨(rq 0x20000 0 0x04), (base), by unfold State.imgWrites State.serves; decide +kernel⟩,
    ⟨(0), ({ base with img := { base.img with factoryAt := some 0 } }), by decide +kernel⟩,
    ⟨(base), by decide +kernel⟩⟩

/-- States and operands that meet the hypotheses of FaultsAreLogged, clause by clause. -/
theorem meets_FaultsAreLogged :
    (∃ (unit : Nat) (quiet : Nat) (held : Nat) (s : State), s.ready = true ∧ s.unitOk unit = true ∧ 4 ≤ held ∧ (4 ≤ quiet ∨ (s.rail unit).high = false)) ∧
    (∃ (unit : Nat) (quiet : Nat) (held : Nat) (s : State), s.ready = true ∧ s.unitOk unit = true ∧ 4 ≤ held ∧ quiet < 4 ∧ (s.rail unit).high = true) ∧
    (∃ (unit : Nat) (quiet : Nat) (held : Nat) (r : Rail) (i : Instr) (s : State), s.ready = true ∧ s.unitOk unit = true ∧ held < 4 ∧ ((i = .faultReport unit quiet held ∨ i = .brokenWireDetect unit quiet held)) ∧ r = (if 4 ≤ quiet then { s.rail unit with broken := false, high := false } else s.rail unit)) ∧
    (∃ (unit : Nat) (quiet : Nat) (held : Nat) (e : Nat) (s : State), s.ready = true ∧ s.unitOk unit = true ∧ unit < 65536 ∧ 16 ≤ held ∧ (4 ≤ quiet ∨ (s.rail unit).broken = false) ∧ s.flt.handler unit = none ∧ s.flt.place = some e) ∧
    (∃ (e : Nat) (m : CMsg) (f : FaultMsg) (s : State), s.ready = true ∧ isKind m 0xC = true ∧ faultOf m = f ∧ f.cls = 1 ∧ s.unitOk f.unit.toNat = true ∧ s.flt.handler f.unit.toNat = none ∧ s.flt.place = some e ∧ degrades f.code.toNat = false) ∧
    (∃ (e : Nat) (m : CMsg) (f : FaultMsg) (s : State), s.ready = true ∧ isKind m 0xC = true ∧ faultOf m = f ∧ f.cls = 0 ∧ s.unitOk f.unit.toNat = true ∧ s.flt.handler f.unit.toNat = none ∧ s.flt.place = some e ∧ (s.flt.entry e).handling = false) ∧
    (∃ (e : Nat) (m : CMsg) (f : FaultMsg) (r : FltRec) (s : State), s.ready = true ∧ isKind m 0xC = true ∧ faultOf m = f ∧ s.unitOk f.unit.toNat = true ∧ s.flt.handler f.unit.toNat = some e ∧ s.flt.entry e = r ∧ f.cls.toNat ≤ r.cls ∧ f.cls.toNat ≤ 2) ∧
    (∃ (e : Nat) (m : CMsg) (f : FaultMsg) (r : FltRec) (s : State), s.ready = true ∧ isKind m 0xC = true ∧ faultOf m = f ∧ s.unitOk f.unit.toNat = true ∧ s.flt.handler f.unit.toNat = some e ∧ s.flt.entry e = r ∧ f.cls = 1 ∧ r.cls = 0) ∧
    (∃ (m : CMsg) (f : FaultMsg) (s : State), s.ready = true ∧ isKind m 0xC = true ∧ faultOf m = f ∧ f.cls = 0 ∧ s.unitOk f.unit.toNat = true ∧ s.flt.handler f.unit.toNat = none ∧ s.flt.place = none) ∧
    (∃ (unit : Nat) (d : Nat) (e : Nat) (ds : List Nat) (s : State), s.ready = true ∧ (s.rail unit).waits = d :: ds ∧ d ≤ s.fc ∧ unit < 65536 ∧ s.flt.handler unit = none ∧ s.flt.place = some e) ∧
    (∃ (e : Nat) (d : Nat) (s : State), s.running = true ∧ (s.flt.entry e).due = some d ∧ d ≤ s.ft ∧ (s.flt.entry e).state = 1) ∧
    (∃ (e : Nat) (s : State), s.running = true ∧ ((∀ d, (s.flt.entry e).due = some d → s.ft < d))) ∧
    (∃ (n : Nat) (e : Nat) (k : KMsg) (s : State), s.linkRuns n ∧ k.ktype = 0x0C ∧ s.flt.handler (unitId uBlock 7) = none ∧ s.flt.place = some e) ∧
    (∃ (e : Nat) (r : FltRec) (q : Req) (s : State), s.serves 0x4000C q ∧ q.win = 0 ∧ q.wdata.extractLsb' 30 2 = 0 ∧ e = (q.wdata.extractLsb' 0 6).toNat ∧ s.flt.log = [(e, r)] ∧ s.flt.lostUF = false ∧ r.cls = 1 ∧ r.handling = true) ∧
    (∃ (e : Nat) (q : Req) (s : State), s.serves 0x4000C q ∧ q.win = 0 ∧ q.wdata.extractLsb' 30 2 = 0 ∧ e = (q.wdata.extractLsb' 0 6).toNat ∧ (((s.flt.entry e).handling = false ∨ (s.flt.entry e).cls = 2))) ∧
    (∃ (e : Nat) (q : Req) (s : State), s.serves 0x4000C q ∧ q.win = 0 ∧ q.wdata.extractLsb' 30 2 = 2 ∧ e = (q.wdata.extractLsb' 0 6).toNat ∧ (s.flt.entry e).state = 1 ∧ (s.flt.entry e).cls ≠ 2 ∧ (s.flt.entry e).action = 0 ∧ s.hrv.state < 2) ∧
    (∃ (e : Nat) (q : Req) (s : State), s.serves 0x4000C q ∧ q.win = 0 ∧ q.wdata.extractLsb' 30 2 = 2 ∧ e = (q.wdata.extractLsb' 0 6).toNat ∧ (s.flt.entry e).state ≠ 1) ∧
    (∃ (q : Req) (s : State), s.serves 0x4000C q ∧ q.win = 0 ∧ q.wdata.getLsbD 30 = true) ∧
    (∃ (s : State), s.running = true ∧ s.quiet = true) ∧
    (∃ (s : State), s.running = true ∧ s.quiet = false) ∧
    (∃ (e : Nat) (q : Req) (s : State), s.serves 0x40020 q ∧ q.win = 0 ∧ q.wdata.getLsbD 31 = true ∧ s.flt.ftest = true ∧ s.refMode = false ∧ (faultRow (q.wdata.extractLsb' 0 16).toNat).isSome = true ∧ s.flt.handler s.flt.injUnit.toNat = none ∧ s.flt.place = some e) ∧
    (∃ (q : Req) (s : State), s.serves 0x40020 q ∧ q.win = 0 ∧ q.wdata.getLsbD 31 = true ∧ s.flt.ftest = false) :=
  ⟨⟨(0x3022), (4), (4), (base), by decide +kernel⟩,
    ⟨(0x3022), (3), (4), ({ base with flt := { base.flt with rails := [(0x3022, { broken := true, high := true, waits := [9] })] } }), by decide +kernel⟩,
    ⟨(0x3022), (4), (3), ({ broken := false, high := false, waits := [9] }), (.faultReport 0x3022 4 3), ({ base with flt := { base.flt with rails := [(0x3022, { broken := true, high := true, waits := [9] })] } }), by decide +kernel⟩,
    ⟨(0x3022), (4), (16), (0), ({ base with flt := { base.flt with rails := [(0x3022, { broken := true, high := false, waits := [] })] } }), by decide +kernel⟩,
    ⟨(0), (fm 1 0x0401), (faultOf (fm 1 0x0401)), ({ base with flt := { base.flt with rails := [(0x4022, { broken := false, high := true, waits := [9] })] } }), by decide +kernel⟩,
    ⟨(0), (fm 0 0x0401), (faultOf (fm 0 0x0401)), (base), by decide +kernel⟩,
    ⟨(3), (fm 1 0x0401), (faultOf (fm 1 0x0401)), (rec3), (logged rec3), by decide +kernel⟩,
    ⟨(3), (fm 1 0x0401), (faultOf (fm 1 0x0401)), ({ rec3 with cls := 0 }), (logged { rec3 with cls := 0 }), by decide +kernel⟩,
    ⟨(fm 0 0x0401), (faultOf (fm 0 0x0401)), ({ base with flt := { base.flt with log := (List.range 64).map fun i => (i, { rec3 with unit := i }) } }), by decide +kernel⟩,
    ⟨(0x3022), (0), (0), ([]), ({ base with flt := { base.flt with rails := [(0x3022, { broken := false, high := true, waits := [0] })] } }), by decide +kernel⟩,
    ⟨(3), (0), (logged { rec3 with action := 1, unit := unitId uSi (base.phys 17), due := some 0 }), by decide +kernel⟩,
    ⟨(3), (logged rec3), by decide +kernel⟩,
    ⟨(3), (0), (kPlain 0xC [9, 0, 1, 0, 4, 7, 0, 0]), (base), by unfold State.linkRuns; decide +kernel⟩,
    ⟨(3), (rec3), (rq 0x4000C 0 3), (logged rec3), by unfold State.serves; decide +kernel⟩,
    ⟨(3), (rq 0x4000C 0 3), (base), by unfold State.serves; decide +kernel⟩,
    ⟨(3), (rq 0x4000C 0 (BitVec.ofNat 32 (2 ^ 31 + 3))), (logged rec3), by unfold State.serves; decide +kernel⟩,
    ⟨(3), (rq 0x4000C 0 (BitVec.ofNat 32 (2 ^ 31 + 3))), (base), by unfold State.serves; decide +kernel⟩,
    ⟨(rq 0x4000C 0 (BitVec.ofNat 32 (2 ^ 30))), ({ base with flt := { base.flt with log := [(0, rec3), (1, { rec3 with state := 2 }), (2, { rec3 with cls := 0 })] } }), by unfold State.serves; decide +kernel⟩,
    ⟨({ (logged { rec3 with state := 2 }) with ft := 100000000 }), by decide +kernel⟩,
    ⟨(base), by decide +kernel⟩,
    ⟨(0), (rq 0x40020 0 (BitVec.ofNat 32 (2 ^ 31 + 0x0401))), ({ base with flt := { base.flt with ftest := true, injUnit := 0x4022 } }), by unfold State.serves; decide +kernel⟩,
    ⟨(rq 0x40020 0 (BitVec.ofNat 32 (2 ^ 31 + 0x0401))), (base), by unfold State.serves; decide +kernel⟩⟩

/-- States and operands that meet the hypotheses of TilesAreFenced, clause by clause. -/
theorem meets_TilesAreFenced :
    (∃ (t : Nat) (m : CMsg) (s : State), s.stopRuns t ∧ isKind m 0xA = true ∧ regOfs m = 0x900 ∧ (regData m).getLsbD 31 = true ∧ regWin m = 0) ∧
    (∃ (t : Nat) (m : CMsg) (s : State), s.stopRuns t ∧ isKind m 0xA = true ∧ regOfs m = 0x900 ∧ (regData m).getLsbD 31 = true ∧ regWin m ≠ 0) ∧
    (∃ (t : Nat) (m : CMsg) (s : State), s.stopRuns t ∧ s.regWrite t 0x900 m ∧ (regData m).extractLsb' 30 2 = 1) ∧
    (∃ (t : Nat) (m : CMsg) (s : State), s.stopRuns t ∧ s.regWrite t 0x900 m ∧ (regData m).extractLsb' 29 3 = 1 ∧ s.siPending t = false) ∧
    (∃ (t : Nat) (m : CMsg) (s : State), s.stopRuns t ∧ s.regWrite t 0x900 m ∧ (regData m).extractLsb' 29 3 = 1 ∧ s.siPending t = true) ∧
    (∃ (t : Nat) (ty : Nat) (s : State), s.stopRuns t ∧ ty ≤ 6) ∧
    (∃ (t : Nat) (port : Nat) (plane : Nat) (group : Nat) (wire : Nat) (s : State), s.stopRuns t ∧ portOk s.build t port = true ∧ port < 4 ∧ ((plane = 0 ∨ plane = 1 ∧ s.build = .hfE)) ∧ s.flt.wires = []) ∧
    (∃ (t : Nat) (port : Nat) (group : Nat) (wire : Nat) (w : WireGroup) (s : State), s.stopRuns t ∧ portOk s.build t port = true ∧ port < 4 ∧ s.flt.wires = [w] ∧ w.isOf t port 0 group = true ∧ w.wire ≠ wire) ∧
    (∃ (t : Nat) (port : Nat) (group : Nat) (a : Nat) (w : WireGroup) (s : State), s.stopRuns t ∧ portOk s.build t port = true ∧ s.flt.wires = [w] ∧ w.isOf t port 0 group = true ∧ w.swapAt = some a ∧ a = s.now ∧ s.tide.phase = 0) ∧
    (∃ (t : Nat) (port : Nat) (plane : Nat) (group : Nat) (s : State), s.stopRuns t ∧ portOk s.build t port = true ∧ ((∀ w ∈ s.flt.wires, w.swapAt ≠ some s.now ∨ s.tide.phase ≠ 0))) :=
  ⟨⟨(17), (regWr 0x900 (2 ^ 31)), (inPan), by unfold State.stopRuns; decide +kernel⟩,
    ⟨(17), (cm 0xA 0 (bytesOf 16 (2 ^ 125 + 0x900 / 4 * 2 ^ 103 + 2 ^ 31))), (inPan), by unfold State.stopRuns; decide +kernel⟩,
    ⟨(17), (regWr 0x900 (2 ^ 30)), (inPan), by unfold State.stopRuns State.regWrite; decide +kernel⟩,
    ⟨(17), (regWr 0x900 (2 ^ 29)), (inPan.modRo 17 fun r => { r with clientFenced := true }), by unfold State.stopRuns State.regWrite; decide +kernel⟩,
    ⟨(17), (regWr 0x900 (2 ^ 29)), ({ inPan with flt := { inPan.flt with log := [(3, { rec3 with unit := unitId uSi (base.phys 17) })] } }), by unfold State.stopRuns State.regWrite; decide +kernel⟩,
    ⟨(17), (6), (inPan), by unfold State.stopRuns; decide +kernel⟩,
    ⟨(17), (1), (0), (2), (3), (inPan), by unfold State.stopRuns; decide +kernel⟩,
    ⟨(17), (1), (2), (3), ({ t := 17, port := 1, plane := 0, group := 2, wire := 4, swapAt := none }), ({ inPan with flt := { inPan.flt with wires := [({ t := 17, port := 1, plane := 0, group := 2, wire := 4, swapAt := none })] } }), by unfold State.stopRuns; decide +kernel⟩,
    ⟨(17), (1), (2), (0), ({ t := 17, port := 1, plane := 0, group := 2, wire := 4, swapAt := some 0 }), ({ inPan with flt := { inPan.flt with wires := [({ t := 17, port := 1, plane := 0, group := 2, wire := 4, swapAt := some 0 })] } }), by unfold State.stopRuns; decide +kernel⟩,
    ⟨(17), (1), (0), (2), (inPan), by unfold State.stopRuns; decide +kernel⟩⟩

/-- States and operands that meet the hypotheses of HarvestsCutAndThaw, clause by clause. -/
theorem meets_HarvestsCutAndThaw :
    (∃ (q : Req) (s : State), s.serves 0x60000 q ∧ q.win = 0 ∧ q.wdata.getLsbD 31 = true ∧ q.wdata.getLsbD 29 = false ∧ s.hrv.state = 0 ∧ s.hrv.tpend = false ∧ s.now + 16 ≤ s.hrv.at_.toNat) ∧
    (∃ (q : Req) (s : State), s.serves 0x60000 q ∧ q.win = 0 ∧ q.wdata.getLsbD 31 = true ∧ q.wdata.getLsbD 29 = true ∧ s.hrv.state = 0 ∧ s.hrv.tpend = false ∧ s.now + s.podLead ≤ s.hrv.at_.toNat) ∧
    (∃ (q : Req) (s : State), s.serves 0x60000 q ∧ q.win = 0 ∧ q.wdata.getLsbD 31 = true ∧ s.hrv.state = 1 ∧ s.hrv.tpend = false ∧ s.now + s.lead (q.wdata.getLsbD 29) ≤ s.hrv.at_.toNat ∧ s.hrv.th.toNat ≤ s.hrv.at_.toNat ∧ s.now < s.hrv.at_.toNat) ∧
    (∃ (q : Req) (s : State), s.serves 0x60000 q ∧ q.win = 0 ∧ q.wdata.getLsbD 31 = true ∧ s.hrv.at_.toNat < s.now + s.lead (q.wdata.getLsbD 29)) ∧
    (∃ (q : Req) (s : State), s.serves 0x60000 q ∧ q.win = 0 ∧ q.wdata.getLsbD 31 = true ∧ s.hrv.state = 2 ∧ s.now + s.lead (q.wdata.getLsbD 29) ≤ s.hrv.at_.toNat) ∧
    (∃ (q : Req) (s : State), s.serves 0x60000 q ∧ q.win ≠ 0 ∧ q.wdata.getLsbD 31 = true) ∧
    (∃ (q : Req) (s : State), s.serves 0x60000 q ∧ q.win = 0 ∧ q.wdata.getLsbD 31 = false ∧ q.wdata.getLsbD 30 = true ∧ s.hrv.state = 2 ∧ s.hrv.pod = false ∧ s.hrv.tpend = false ∧ (s.hrv.at_ - s.hrv.th).toNat % 64 = 0 ∧ (s.hrv.at_ - s.hrv.th).toNat < 2 ^ 30 ∧ s.now + 16 ≤ s.hrv.at_.toNat) ∧
    (∃ (q : Req) (s : State), s.serves 0x60000 q ∧ q.win = 0 ∧ q.wdata.getLsbD 31 = false ∧ q.wdata.getLsbD 30 = true ∧ s.hrv.state = 2 ∧ (s.hrv.at_ - s.hrv.th).toNat % 64 ≠ 0) ∧
    (∃ (q : Req) (s : State), s.serves 0x60000 q ∧ q.win = 0 ∧ q.wdata.getLsbD 31 = false ∧ q.wdata.getLsbD 30 = true ∧ s.hrv.state = 3) ∧
    (∃ (s : State), s.ready = true ∧ s.hrv.state = 0 ∧ s.hrv.pinReq = true ∧ s.hrv.driving = false ∧ s.now + s.podLead < 2 ^ 64) ∧
    (∃ (k : Nat) (s : State), s.ready = true ∧ 0 < k ∧ k < 8) ∧
    (∃ (n : Nat) (k : KMsg) (s : State), s.linkRuns n ∧ k.ktype = 0x0B ∧ hrvKind k = 1 ∧ ({ origin := hrvOrigin k, req := hrvReqId k, kind := 1 } : Seen) ∉ s.hrv.seen ∧ (s.hrv.state = 0 ∨ s.hrv.state = 1 ∧ hrvTick k < s.hrv.th.toNat) ∧ s.now < hrvTick k) ∧
    (∃ (n : Nat) (k : KMsg) (s : State), s.linkRuns n ∧ k.ktype = 0x0B ∧ hrvKind k = 1 ∧ ({ origin := hrvOrigin k, req := hrvReqId k, kind := 1 } : Seen) ∉ s.hrv.seen ∧ s.hrv.state < 2 ∧ hrvTick k ≤ s.now ∧ s.now + 1 < 2 ^ 64) ∧
    (∃ (n : Nat) (k : KMsg) (s : State), s.linkRuns n ∧ k.ktype = 0x0B ∧ hrvKind k = 1 ∧ ({ origin := hrvOrigin k, req := hrvReqId k, kind := 1 } : Seen) ∉ s.hrv.seen ∧ 2 ≤ s.hrv.state) ∧
    (∃ (n : Nat) (k : KMsg) (s : State), s.linkRuns n ∧ ({ origin := hrvOrigin k, req := hrvReqId k, kind := 1 } : Seen) ∈ s.hrv.seen) ∧
    (∃ (n : Nat) (k : KMsg) (s : State), s.linkRuns n ∧ k.ktype = 0x0B ∧ hrvKind k = 2 ∧ ({ origin := hrvOrigin k, req := hrvReqId k, kind := 2 } : Seen) ∉ s.hrv.seen ∧ s.hrv.state = 2 ∧ s.hrv.tpend = false) ∧
    (∃ (n : Nat) (k : KMsg) (s : State), s.linkRuns n ∧ (s.hrv.state ≠ 2 ∨ s.hrv.tpend = true)) ∧
    (∃ (k : KMsg) (a : Nat) (s : State), s.ready = true ∧ s.hrv.repeats = [(k, a)] ∧ a ≤ s.now) ∧
    (∃ (s : State), s.ready = true ∧ s.hrv.state = 1 ∧ s.hrv.th.toNat = s.now ∧ s.tide.phase = 0 ∧ s.flt.stopDue = false) ∧
    (∃ (s : State), s.ready = true ∧ (s.hrv.state ≠ 1 ∨ s.hrv.th.toNat ≠ s.now ∨ s.tide.phase ≠ 0)) ∧
    (∃ (n : Nat) (d : Nat) (s : State), s.linkRuns n ∧ (s.capture n).deadline = some d ∧ d ≤ s.fc) ∧
    (∃ (s : State), s.ready = true ∧ s.hrv.state = 2 ∧ s.hrv.tpend = true ∧ s.hrv.thawAt = s.now ∧ s.tide.phase = 0 ∧ s.hrv.deferred = [] ∧ s.hrv.captures = [] ∧ s.img.switches = [] ∧ s.img.factoryAt = none ∧ s.flt.fenceSet = none ∧ s.flt.wires = [] ∧ ((∀ n, n < nLinks s.build → (s.link n).ll.lossDue = false))) ∧
    (∃ (s : State), s.ready = true ∧ (s.hrv.state ≠ 2 ∨ s.hrv.tpend = false ∨ s.hrv.thawAt ≠ s.now ∨ s.tide.phase ≠ 0)) ∧
    (∃ (s : State), s.ready = true) ∧
    (∃ (s : State), s.ready = true ∧ s.hrv.driving = false) ∧
    (∃ (s : State), s.ready = true ∧ s.hrv.driving = true) :=
  ⟨⟨(rq 0x60000 0 (BitVec.ofNat 32 (2 ^ 31))), (hrvd fun h => { h with at_ := 64 }), by unfold State.serves; decide +kernel⟩,
    ⟨(rq 0x60000 0 (BitVec.ofNat 32 (2 ^ 31 + 2 ^ 29))), ((hrvd fun h => { h with at_ := 2000 }).modKpr 3 fun k => { k with locked := true }), by unfold State.serves; decide +kernel⟩,
    ⟨(rq 0x60000 0 (BitVec.ofNat 32 (2 ^ 31))), (hrvd fun h => { h with at_ := 64, th := 40, state := 1 }), by unfold State.serves; decide +kernel⟩,
    ⟨(rq 0x60000 0 (BitVec.ofNat 32 (2 ^ 31))), (hrvd fun h => { h with at_ := 15 }), by unfold State.serves; decide +kernel⟩,
    ⟨(rq 0x60000 0 (BitVec.ofNat 32 (2 ^ 31))), (hrvd fun h => { h with at_ := 64, state := 2 }), by unfold State.serves; decide +kernel⟩,
    ⟨(rq 0x60000 1 (BitVec.ofNat 32 (2 ^ 31))), (base), by unfold State.serves; decide +kernel⟩,
    ⟨(rq 0x60000 0 (BitVec.ofNat 32 (2 ^ 30))), (hrvd fun h => { h with at_ := 128, th := 64, state := 2 }), by unfold State.serves; decide +kernel⟩,
    ⟨(rq 0x60000 0 (BitVec.ofNat 32 (2 ^ 30))), (hrvd fun h => { h with at_ := 129, th := 64, state := 2 }), by unfold State.serves; decide +kernel⟩,
    ⟨(rq 0x60000 0 (BitVec.ofNat 32 (2 ^ 30))), (hrvd fun h => { h with at_ := 128, th := 64, state := 3 }), by unfold State.serves; decide +kernel⟩,
    ⟨(hrvd fun h => { h with pinReq := true }), by decide +kernel⟩,
    ⟨(7), (hrvd fun h => { h with pinReq := true }), by decide +kernel⟩,
    ⟨(3), (hm 1), (hrvd fun h => { h with state := 1, th := 6000 }), by unfold State.linkRuns; decide +kernel⟩,
    ⟨(3), (hm 1), ({ base with tide := { base.tide with count := 9000 } }), by unfold State.linkRuns; decide +kernel⟩,
    ⟨(3), (hm 1), (hrvd fun h => { h with state := 3 }), by unfold State.linkRuns; decide +kernel⟩,
    ⟨(3), (hm 1), (hrvd fun h => { h with seen := [{ origin := 9, req := 4, kind := 1 }] }), by unfold State.linkRuns; decide +kernel⟩,
    ⟨(3), (hm 2), ((hrvd fun h => { h with state := 2 }).modKpr 5 fun x => { x with locked := true }), by unfold State.linkRuns; decide +kernel⟩,
    ⟨(3), (hm 2), (hrvd fun h => { h with state := 3 }), by unfold State.linkRuns; decide +kernel⟩,
    ⟨(hm 1), (0), ((hrvd fun h => { h with repeats := [((hm 1), 0)] }).modKpr 5 fun x => { x with locked := true }), by decide +kernel⟩,
    ⟨(hrvd fun h => { h with state := 1 }), by decide +kernel⟩,
    ⟨(hrvd fun h => { h with state := 1, th := 5 }), by decide +kernel⟩,
    ⟨(3), (0), (hrvd fun h => { h with state := 2, captures := [(3, { (default : Capture) with deadline := some 0 })] }), by unfold State.linkRuns; decide +kernel⟩,
    ⟨(hrvd fun h => { h with state := 2, tpend := true, driving := true }), by decide +kernel⟩,
    ⟨(base), by decide +kernel⟩,
    ⟨(base), by decide +kernel⟩,
    ⟨(hrvd fun h => { h with pinLow := true }), by decide +kernel⟩,
    ⟨(hrvd fun h => { h with driving := true }), by decide +kernel⟩⟩

/-- States and operands that meet the hypotheses of ScansAndRecords, clause by clause. -/
theorem meets_ScansAndRecords :
    (∃ (q : Req) (s : State), s.serves 0x60024 q ∧ s.hasDbg q.win.toNat = true) ∧
    (∃ (q : Req) (s : State), s.serves 0x60024 q ∧ s.hasDbg q.win.toNat = false) ∧
    (∃ (q : Req) (s : State), s.serves 0x60028 q ∧ s.hasDbg q.win.toNat = true ∧ 2 ≤ s.hrv.state ∧ s.refMode = false) ∧
    (∃ (q : Req) (s : State), s.serves 0x60028 q ∧ s.hasDbg q.win.toNat = true ∧ 2 ≤ s.hrv.state ∧ s.hrv.scanPos = 0 ∧ s.hasUnit s.hrv.scanUnit.toNat = true) ∧
    (∃ (q : Req) (s : State), s.serves 0x60028 q ∧ s.hasDbg q.win.toNat = true ∧ s.hrv.state < 2) ∧
    (∃ (q : Req) (s : State), s.serves 0x6002C q ∧ s.hasDbg q.win.toNat = true ∧ q.wdata.getLsbD 31 = true ∧ q.wdata.getLsbD 30 = false ∧ 2 ≤ s.hrv.state ∧ s.hrv.scanTodo = [] ∧ s.img.act.trace.sink = 2 ∧ s.refMode = false) ∧
    (∃ (q : Req) (s : State), s.serves 0x6002C q ∧ s.hasDbg q.win.toNat = true ∧ q.wdata.getLsbD 31 = true ∧ q.wdata.getLsbD 30 = true ∧ 2 ≤ s.hrv.state ∧ s.hrv.scanTodo = [] ∧ s.img.act.trace.sink = 2 ∧ s.refMode = false) ∧
    (∃ (x : Nat) (a : Nat) (b : Nat) (ws : List Word) (l : List (Nat × Nat × Nat × List Word)) (s : State), s.ready = true ∧ (s.rake.state = 1 ∨ s.rake.state = 2) ∧ s.hrv.scanTodo = (x, a, b, ws) :: l ∧ s.rake.bufs = [] ∧ s.rake.lostBy = [] ∧ s.rake.srcs.getLsbD 6 = true ∧ s.rake.muting = false ∧ s.rake.buf = [] ∧ s.rake.ownLost = none ∧ ws ≠ [] ∧ ws.length ≤ 2040) ∧
    (∃ (q : Req) (s : State), s.serves 0x6002C q ∧ s.hasDbg q.win.toNat = true ∧ q.wdata.getLsbD 31 = true ∧ 2 ≤ s.hrv.state ∧ s.hrv.scanTodo = [] ∧ s.img.act.trace.sink ≠ 2) ∧
    (∃ (q : Req) (s : State), s.serves 0x70000 q ∧ s.hasDbg q.win.toNat = true ∧ q.wdata.getLsbD 29 = true ∧ q.wdata.getLsbD 28 = false ∧ (s.rake.state = 1 ∨ s.rake.state = 2) ∧ s.rake.trig.getLsbD 0 = true ∧ s.rake.armed = true) ∧
    (∃ (q : Req) (s : State), s.serves 0x70000 q ∧ s.hasDbg q.win.toNat = true ∧ q.wdata.getLsbD 29 = true ∧ q.wdata.getLsbD 28 = false ∧ (s.rake.state = 1 ∨ s.rake.state = 2) ∧ s.rake.trig.getLsbD 0 = true ∧ s.rake.armed = false) ∧
    (∃ (q : Req) (s : State), s.serves 0x70000 q ∧ q.win = 0 ∧ q.wdata.getLsbD 29 = false ∧ q.wdata.getLsbD 28 = true ∧ s.rake.state ≠ 0) ∧
    (∃ (q : Req) (s : State), s.serves 0x70000 q ∧ q.win ≠ 0 ∧ q.wdata.getLsbD 29 = false ∧ q.wdata.getLsbD 28 = true) ∧
    (∃ (q : Req) (s : State), s.serves 0x70020 q ∧ s.hasDbg q.win.toNat = true ∧ s.refMode = false ∧ (s.rake.state = 1 ∨ s.rake.state = 2) ∧ s.rake.srcs.getLsbD 0 = true ∧ s.rake.muting = false ∧ Tab.get? s.rake.lostBy uHrv = none ∧ (Tab.get [] s.rake.bufs uHrv).length < 16) ∧
    (∃ (unit : Nat) (r : TrRec) (rs : List TrRec) (s : State), s.ready = true ∧ (s.rake.state = 1 ∨ s.rake.state = 2) ∧ s.hrv.scanTodo = [] ∧ s.rake.bufs = [(unit, r :: rs)] ∧ r.length = 32 ∧ s.rake.buf.length < 256 ∧ s.rake.ownLost = none) ∧
    (∃ (s : State), s.ready = true ∧ s.rake.state ≠ 1 ∧ s.rake.state ≠ 2) ∧
    (∃ (s : State), s.stopRuns ctlTile ∧ s.img.act.trace.sink = 1 ∧ s.img.act.watch = [] ∧ s.rake.state = 1 ∧ 8 ≤ s.rake.buf.length ∧ s.rake.wp.toNat + 8 < s.regionRecs) ∧
    (∃ (s : State), s.stopRuns ctlTile ∧ s.img.act.trace.sink = 1 ∧ s.img.act.watch = [] ∧ s.rake.state = 1 ∧ 8 ≤ s.rake.buf.length ∧ s.rake.wp.toNat + 8 = s.regionRecs ∧ s.img.act.trace.mode = 0) ∧
    (∃ (s : State), s.stopRuns ctlTile ∧ s.img.act.trace.sink = 1 ∧ s.img.act.watch = [] ∧ s.rake.state = 1 ∧ 8 ≤ s.rake.buf.length ∧ s.rake.wp.toNat + 8 = s.regionRecs ∧ s.img.act.trace.mode ≠ 0) ∧
    (∃ (c : List Byte) (s : State), s.ready = true ∧ s.img.act.trace.sink = 2 ∧ s.rake.up = [] ∧ s.start.trcPass = true) ∧
    (∃ (s : State), s.ready = true ∧ s.img.act.trace.sink = 2 ∧ s.rake.up = [] ∧ s.start.trcPass = true ∧ s.rake.state = 1 ∧ 19 ≤ s.rake.buf.length ∧ s.rake.share64 = true) ∧
    (∃ (s : State), s.ready = true ∧ s.img.act.trace.sink = 2 ∧ s.rake.up = [] ∧ s.start.trcPass = true ∧ s.rake.share64 = false) :=
  ⟨⟨(rq 0x60024 0 0x3022), (hrvd fun h => { h with scanPos := 3 }), by unfold State.serves; decide +kernel⟩,
    ⟨(rq 0x60024 1 0x3022), (base), by unfold State.serves; decide +kernel⟩,
    ⟨(rq 0x60028 0 0), (hrvd fun h => { h with state := 2, scanUnit := 0x4022, scanPos := 1 }), by unfold State.serves; decide +kernel⟩,
    ⟨(rq 0x60028 0 0), (hrvd fun h => { h with state := 2, scanUnit := 0x4022 }), by unfold State.serves; decide +kernel⟩,
    ⟨(rq 0x60028 0 0), (base), by unfold State.serves; decide +kernel⟩,
    ⟨(rq 0x6002C 0 (BitVec.ofNat 32 (2 ^ 31))), (sinkTo 2 (hrvd fun h => { h with state := 2, scanUnit := 0x4022 })), by unfold State.serves; decide +kernel⟩,
    ⟨(rq 0x6002C 0 (BitVec.ofNat 32 (2 ^ 31 + 2 ^ 30))), (sinkTo 2 (hrvd fun h => { h with state := 2, scanUnit := 0x4022 })), by unfold State.serves; decide +kernel⟩,
    ⟨(0x4022), (2 ^ 24 + 9), (0), ([1, 2, 3, 4, 5, 6, 7, 8, 9]), ([(1, 2, 3, [])]), ((rake1 id).modHrv fun h => { h with scanTodo := [(0x4022, 2 ^ 24 + 9, 0, [1, 2, 3, 4, 5, 6, 7, 8, 9]), (1, 2, 3, [])] }), by decide +kernel⟩,
    ⟨(rq 0x6002C 0 (BitVec.ofNat 32 (2 ^ 31))), (sinkTo 1 (hrvd fun h => { h with state := 2, scanUnit := 0x4022 })), by unfold State.serves; decide +kernel⟩,
    ⟨(rq 0x70000 0 (BitVec.ofNat 32 (2 ^ 29))), (sinkTo 1 (rake1 id)), by unfold State.serves; decide +kernel⟩,
    ⟨(rq 0x70000 0 (BitVec.ofNat 32 (2 ^ 29))), (sinkTo 1 (rake1 fun r => { r with armed := false })), by unfold State.serves; decide +kernel⟩,
    ⟨(rq 0x70000 0 (BitVec.ofNat 32 (2 ^ 28))), (rake1 fun r => { r with state := 3, wp := 5 }), by unfold State.serves; decide +kernel⟩,
    ⟨(rq 0x70000 1 (BitVec.ofNat 32 (2 ^ 28))), (base), by unfold State.serves; decide +kernel⟩,
    ⟨(rq 0x70020 0 77), (rake1 id), by unfold State.serves; decide +kernel⟩,
    ⟨(0x3022), (trec 1), ([trec 2]), (rake1 fun k => { k with bufs := [(0x3022, [trec 1, trec 2])] }), by decide +kernel⟩,
    ⟨(base), by decide +kernel⟩,
    ⟨(sinkTo 1 (rake1 fun k => { k with buf := (List.range 9).map trec })), by unfold State.stopRuns; decide +kernel⟩,
    ⟨(sinkTo 1 (rake1 fun k => { k with buf := (List.range 9).map trec, wp := 2040 })), by unfold State.stopRuns; decide +kernel⟩,
    ⟨((sinkTo 1 (rake1 fun k => { k with buf := (List.range 9).map trec, wp := 2040 })).modRake id |> fun s => { s with img := { s.img with act := { s.img.act with trace := { s.img.act.trace with mode := 1 } } } }), by unfold State.stopRuns; decide +kernel⟩,
    ⟨(List.replicate 640 7), (traced id), by decide +kernel⟩,
    ⟨(traced fun k => { k with buf := (List.range 20).map trec, share := 5 }), by decide +kernel⟩,
    ⟨(traced fun k => { k with share := 0 }), by decide +kernel⟩⟩

/-- States and operands that meet the hypotheses of CheckUnitsCompute, clause by clause. -/
theorem meets_CheckUnitsCompute :
    (∃ (k : Nat) (q : Req) (s : State), k < 8 ∧ s.serves (chkOfs k 0) q ∧ s.hasDbg q.win.toNat = true ∧ q.wdata.extractLsb' 27 5 = 16 ∧ 1 ≤ chkWidth q.wdata ∧ chkWidth q.wdata ≤ 64 ∧ (s.check k).owner = none ∧ (s.check k).state ≠ 2) ∧
    (∃ (k : Nat) (o : Nat) (q : Req) (s : State), k < 8 ∧ s.serves (chkOfs k 0) q ∧ s.hasDbg q.win.toNat = true ∧ chkClaimBit q.wdata = true ∧ chkStartBit q.wdata = false ∧ (s.check k).owner = some o ∧ o ≠ q.win.toNat ∧ q.win ≠ 0) ∧
    (∃ (k : Nat) (q : Req) (s : State), k < 8 ∧ s.serves (chkOfs k 0) q ∧ s.hasDbg q.win.toNat = false ∧ chkClaimBit q.wdata = true) ∧
    (∃ (k : Nat) (q : Req) (s : State), k < 8 ∧ s.serves (chkOfs k 0) q ∧ s.hasDbg q.win.toNat = true ∧ chkClaimBit q.wdata = true ∧ chkStartBit q.wdata = false ∧ (s.check k).owner = none ∧ (chkWidth q.wdata = 0 ∨ 64 < chkWidth q.wdata)) ∧
    (∃ (k : Nat) (q : Req) (s : State), k < 8 ∧ s.serves (chkOfs k 0) q ∧ s.hasDbg q.win.toNat = true ∧ q.wdata.extractLsb' 27 5 = 8 ∧ 1 ≤ chkWidth q.wdata ∧ chkWidth q.wdata ≤ 64 ∧ (s.check k).owner = some q.win.toNat ∧ (s.check k).state ≠ 2) ∧
    (∃ (k : Nat) (o : Nat) (q : Req) (s : State), k < 8 ∧ s.serves (chkOfs k 0) q ∧ q.win = 0 ∧ q.wdata.extractLsb' 27 5 = 8 ∧ 1 ≤ chkWidth q.wdata ∧ chkWidth q.wdata ≤ 64 ∧ (s.check k).owner = some o ∧ o ≠ 0 ∧ (s.check k).state = 2) ∧
    (∃ (k : Nat) (q : Req) (s : State), k < 8 ∧ s.serves (chkOfs k 0) q ∧ s.hasDbg q.win.toNat = true ∧ q.wdata.extractLsb' 27 5 = 4 ∧ 1 ≤ chkWidth q.wdata ∧ chkWidth q.wdata ≤ 64 ∧ (s.check k).owner = some q.win.toNat ∧ (s.check k).state ≠ 2) ∧
    (∃ (k : Nat) (q : Req) (s : State), k < 8 ∧ s.serves (chkOfs k 0) q ∧ s.hasDbg q.win.toNat = true ∧ q.wdata.extractLsb' 27 5 = 4 ∧ 1 ≤ chkWidth q.wdata ∧ chkWidth q.wdata ≤ 64 ∧ (s.check k).owner = some q.win.toNat ∧ (s.check k).state = 2) ∧
    (∃ (k : Nat) (q : Req) (s : State), k < 8 ∧ s.serves (chkOfs k 0) q ∧ s.hasDbg q.win.toNat = true ∧ q.wdata.extractLsb' 27 5 = 2 ∧ 1 ≤ chkWidth q.wdata ∧ chkWidth q.wdata ≤ 64 ∧ (s.check k).owner = some q.win.toNat ∧ s.scanRight q.win.toNat (s.check k) = true ∧ s.startCode (s.check k) = rOk) ∧
    (∃ (k : Nat) (c : Nat) (q : Req) (s : State), k < 8 ∧ s.serves (chkOfs k 0) q ∧ s.hasDbg q.win.toNat = true ∧ q.wdata.extractLsb' 27 5 = 2 ∧ 1 ≤ chkWidth q.wdata ∧ chkWidth q.wdata ≤ 64 ∧ (s.check k).owner = some q.win.toNat ∧ s.scanRight q.win.toNat (s.check k) = true ∧ (s.check k).ctlChanges q.wdata = false ∧ s.startCode (s.check k) = c ∧ c ≠ rOk) ∧
    (∃ (k : Nat) (q : Req) (s : State), k < 8 ∧ s.serves (chkOfs k 0) q ∧ s.hasDbg q.win.toNat = true ∧ q.wdata.extractLsb' 27 5 = 2 ∧ s.scanRight q.win.toNat (s.check k) = false) ∧
    (∃ (k : Nat) (q : Req) (s : State), k < 8 ∧ s.serves (chkOfs k 0) q ∧ s.hasDbg q.win.toNat = true ∧ q.wdata.extractLsb' 27 5 = 1 ∧ 1 ≤ chkWidth q.wdata ∧ chkWidth q.wdata ≤ 64 ∧ (s.check k).owner = some q.win.toNat ∧ (s.check k).state = 2 ∧ (s.check k).ctlChanges q.wdata = false) ∧
    (∃ (k : Nat) (q : Req) (s : State), k < 8 ∧ s.serves (chkOfs k 0x28) q ∧ s.hasDbg q.win.toNat = true ∧ (s.check k).owner = some q.win.toNat ∧ (s.check k).state ≠ 2) ∧
    (∃ (k : Nat) (q : Req) (s : State), k < 8 ∧ s.serves (chkOfs k 0x2C) q ∧ s.hasDbg q.win.toNat = true ∧ (s.check k).owner = some q.win.toNat ∧ (s.check k).state ≠ 2) ∧
    (∃ (k : Nat) (q : Req) (s : State), k < 8 ∧ s.serves (chkOfs k 0x30) q ∧ s.hasDbg q.win.toNat = true ∧ (s.check k).owner = some q.win.toNat ∧ (s.check k).state ≠ 2) ∧
    (∃ (k : Nat) (q : Req) (s : State), k < 8 ∧ s.ready = true ∧ s.shut .control = false ∧ s.ctrl.line = [] ∧ qOfs q = chkOfs k 0x28 ∧ s.refMode = false ∧ s.fc < (s.check k).busy) ∧
    (∃ (k : Nat) (q : Req) (s : State), k < 8 ∧ s.serves (chkOfs k 0x30) q ∧ s.hasDbg q.win.toNat = true ∧ ((s.check k).owner ≠ some q.win.toNat ∨ (s.check k).state = 2)) ∧
    (∃ (k : Nat) (q : Req) (s : State), k < 8 ∧ s.serves (chkOfs k 0x28) q ∧ s.hasDbg q.win.toNat = true ∧ ((s.check k).owner ≠ some q.win.toNat ∨ (s.check k).state = 2)) ∧
    (∃ (k : Nat) (q : Req) (s : State), k < 8 ∧ s.serves (chkOfs k 0x2C) q ∧ s.hasDbg q.win.toNat = true ∧ ((s.check k).owner ≠ some q.win.toNat ∨ (s.check k).state = 2)) ∧
    (∃ (k : Nat) (hi : Bool) (q : Req) (s : State), k < 8 ∧ s.serves (chkOfs k (if hi then 0x24 else 0x20)) q ∧ s.hasDbg q.win.toNat = true ∧ ((s.check k).owner ≠ some q.win.toNat ∨ (s.check k).state = 2)) ∧
    (∃ (k : Nat) (o : Nat) (q : Req) (s : State), k < 8 ∧ o % 4 = 0 ∧ 0x08 ≤ o ∧ o < 0x20 ∧ s.serves (chkOfs k o) q ∧ s.hasDbg q.win.toNat = true ∧ ((s.check k).owner ≠ some q.win.toNat ∨ (s.check k).state = 2)) ∧
    (∃ (k : Nat) (q : Req) (s : State), k < 8 ∧ s.serves (chkOfs k 0) q ∧ s.hasDbg q.win.toNat = true ∧ q.wdata.extractLsb' 27 5 = 0 ∧ 1 ≤ chkWidth q.wdata ∧ chkWidth q.wdata ≤ 64 ∧ (s.check k).owner = some q.win.toNat ∧ (s.check k).state = 2 ∧ (s.check k).ctlChanges q.wdata = true) ∧
    (∃ (k : Nat) (q : Req) (s : State), k < 8 ∧ s.serves (chkOfs k 0x20) q ∧ s.hasDbg q.win.toNat = true) ∧
    (∃ (k : Nat) (q : Req) (s : State), k < 8 ∧ s.serves (chkOfs k 0x24) q ∧ s.hasDbg q.win.toNat = true ∧ (s.check k).owner = some q.win.toNat ∧ (s.check k).state ≠ 2) ∧
    (∃ (k : Nat) (q : Req) (s : State), k < 8 ∧ s.serves (chkOfs k 0x20) q ∧ s.hasDbg q.win.toNat = true ∧ (s.check k).owner = some q.win.toNat ∧ (s.check k).state ≠ 2) ∧
    (∃ (k : Nat) (s : State), s.stopRuns ctlTile ∧ s.img.act.watch = [] ∧ s.scanNext = some k) ∧
    (∃ (s : State), s.stopRuns ctlTile ∧ s.scanNext = none) ∧
    (∃ (k : Nat) (r : ScanRead) (d : List Byte) (s : State), k < 8 ∧ s.running = true ∧ (s.check k).state = 2 ∧ (s.check k).reads = [r] ∧ r.got = none) ∧
    (∃ (k : Nat) (r : ScanRead) (d : List Byte) (s : State), k < 8 ∧ s.running = true ∧ (s.check k).state = 2 ∧ (s.check k).reads = [r] ∧ r.got = none) ∧
    (∃ (k : Nat) (tag : BitVec 8) (ok : Bool) (d : List Byte) (s : State), k < 8 ∧ s.running = true ∧ (s.check k).state ≠ 2) :=
  ⟨⟨(2), (rq 0x80100 0 (BitVec.ofNat 32 (2 ^ 31 + 16))), (base), by unfold State.serves; decide +kernel⟩,
    ⟨(2), (0), (rq 0x80100 1 (BitVec.ofNat 32 (2 ^ 31 + 16))), ({ (chk2 id) with pans := { base.pans with rights := [(1, 4)] } }), by unfold State.serves; decide +kernel⟩,
    ⟨(2), (rq 0x80100 1 (BitVec.ofNat 32 (2 ^ 31 + 16))), (base), by unfold State.serves; decide +kernel⟩,
    ⟨(2), (rq 0x80100 0 (BitVec.ofNat 32 (2 ^ 31 + 65))), (base), by unfold State.serves; decide +kernel⟩,
    ⟨(2), (rq 0x80100 0 (BitVec.ofNat 32 (2 ^ 30 + 32))), (chk2 id), by unfold State.serves; decide +kernel⟩,
    ⟨(2), (3), (rq 0x80100 0 (BitVec.ofNat 32 (2 ^ 30 + 32))), (scan2.modCheck 2 fun c => { c with owner := some 3 }), by unfold State.serves; decide +kernel⟩,
    ⟨(2), (rq 0x80100 0 (BitVec.ofNat 32 (2 ^ 29 + 16))), (chk2 fun c => { c with state := 3 }), by unfold State.serves; decide +kernel⟩,
    ⟨(2), (rq 0x80100 0 (BitVec.ofNat 32 (2 ^ 29 + 32))), (scan2), by unfold State.serves; decide +kernel⟩,
    ⟨(2), (rq 0x80100 0 (BitVec.ofNat 32 (2 ^ 28 + 32))), (chk2 fun c => { c with len := 300, scanAt := BitVec.ofNat 48 0x100 }), by unfold State.serves; decide +kernel⟩,
    ⟨(2), (rError), (rq 0x80100 0 (BitVec.ofNat 32 (2 ^ 28 + 32))), (chk2 id), by unfold State.serves; decide +kernel⟩,
    ⟨(2), (rq 0x80100 1 (BitVec.ofNat 32 (2 ^ 28 + 32))), ({ (chk2 fun c => { c with len := 8 }) with pans := { base.pans with rights := [(1, 4)] } }), by unfold State.serves; decide +kernel⟩,
    ⟨(2), (rq 0x80100 0 (BitVec.ofNat 32 (2 ^ 27 + 32))), (scan2), by unfold State.serves; decide +kernel⟩,
    ⟨(2), (rq 0x80128 0 0x31), (chk2 id), by unfold State.serves; decide +kernel⟩,
    ⟨(2), (rq 0x8012C 0 0x3231), (chk2 id), by unfold State.serves; decide +kernel⟩,
    ⟨(2), (rq 0x80130 0 0x34333231), (chk2 id), by unfold State.serves; decide +kernel⟩,
    ⟨(2), (rq 0x80128 0 0x31), (chk2 fun c => { c with busy := 9 }), by decide +kernel⟩,
    ⟨(2), (rq 0x80130 0 0x34333231), (scan2), by unfold State.serves; decide +kernel⟩,
    ⟨(2), (rq 0x80128 0 0x31), (scan2), by unfold State.serves; decide +kernel⟩,
    ⟨(2), (rq 0x8012C 0 0x31), (scan2), by unfold State.serves; decide +kernel⟩,
    ⟨(2), (true), (rq 0x80124 0 0x31), (scan2), by unfold State.serves; decide +kernel⟩,
    ⟨(2), (0x1C), (rq 0x8011C 0 0x31), (scan2), by unfold State.serves; decide +kernel⟩,
    ⟨(2), (rq 0x80100 0 33), (scan2), by unfold State.serves; decide +kernel⟩,
    ⟨(2), (rq 0x80120 0 0), (chk2 fun c => { c with v := 0x9B63D02C }), by unfold State.serves; decide +kernel⟩,
    ⟨(2), (rq 0x80124 0 7), (chk2 fun c => { c with w := 40, state := 3 }), by unfold State.serves; decide +kernel⟩,
    ⟨(2), (rq 0x80120 0 7), (chk2 fun c => { c with w := 40, state := 3 }), by unfold State.serves; decide +kernel⟩,
    ⟨(2), (scan2), by unfold State.stopRuns; decide +kernel⟩,
    ⟨(base), by unfold State.stopRuns; decide +kernel⟩,
    ⟨(2), ({ tag := 0, addr := 0, got := none }), ([1, 2]), (scan2), by decide +kernel⟩,
    ⟨(2), ({ tag := 0, addr := 0, got := none }), ([]), (scan2), by decide +kernel⟩,
    ⟨(2), (0), (true), ([]), (chk2 id), by decide +kernel⟩⟩

/-- States and operands that meet the hypotheses of CurrentIsGranted, clause by clause. -/
theorem meets_CurrentIsGranted :
    (∃ (b : BitVec 16) (full : Bool) (s : State), s.ready = true ∧ s.shut .budget = false ∧ 1 ≤ b.toNat ∧ b.toNat ≤ 16384) ∧
    (∃ (b : BitVec 16) (full : Bool) (s : State), s.ready = true ∧ s.shut .budget = false ∧ (b.toNat = 0 ∨ 16384 < b.toNat)) ∧
    (∃ (b : BitVec 16) (full : Bool) (s : State), s.ready = true ∧ s.shut .budget = true) ∧
    (∃ (n : Nat) (pool : Nat) (l : List Share), (∀ a ∈ l, a.x ≤ a.e)) ∧
    (∃ (s : State), s.ready = true ∧ s.now % 500 = 0 ∧ s.tide.phase = 0 ∧ (s.pwr.started = false ∨ s.pwr.valid = false)) ∧
    (∃ (s : State), s.ready = true ∧ s.now % 500 = 0 ∧ s.tide.phase = 0 ∧ s.pwr.started = true ∧ s.pwr.valid = true ∧ (∀ id ∈ s.requesters, (Tab.get? s.pwr.reqs id).isSome = true)) ∧
    (∃ (s : State), s.ready = true ∧ s.now % 500 = 0 ∧ s.tide.phase = 0) ∧
    (∃ (s : State), s.ready = true ∧ (s.now % 500 ≠ 0 ∨ s.tide.phase ≠ 0)) ∧
    (∃ (t : Nat) (w : Word) (full : Bool) (s : State), s.running = true ∧ tileOk s.build t = true ∧ s.clientKind t ≠ 0 ∧ s.shut (.pwr t) = false) ∧
    (∃ (t : Nat) (w : Word) (full : Bool) (s : State), s.ready = true ∧ s.running = false ∧ tileOk s.build t = true ∧ s.clientKind t ≠ 0 ∧ s.shut (.pwr t) = false ∧ (Tab.get default s.pwr.ports t).fifo.length < 2) ∧
    (∃ (t : Nat) (a : Word) (b : Word) (w : Word) (full : Bool) (s : State), s.ready = true ∧ s.running = false ∧ tileOk s.build t = true ∧ s.clientKind t ≠ 0 ∧ s.shut (.pwr t) = false ∧ (Tab.get default s.pwr.ports t).fifo = [a, b]) ∧
    (∃ (t : Nat) (w : Word) (full : Bool) (s : State), s.ready = true ∧ tileOk s.build t = true ∧ (s.clientKind t = 0 ∨ s.shut (.pwr t) = true)) ∧
    (∃ (t : Nat) (s : State), s.stopRuns t ∧ (Tab.get default s.pwr.ports t).word ≠ (Tab.get default s.pwr.ports t).sent ∧ (Tab.get default s.pwr.ports t).nextAt ≤ s.now) ∧
    (∃ (t : Nat) (s : State), s.stopRuns t ∧ (s.now < (Tab.get default s.pwr.ports t).nextAt ∨ (Tab.get default s.pwr.ports t).word = (Tab.get default s.pwr.ports t).sent)) ∧
    (∃ (t : Nat) (m : CMsg) (full : Bool) (s : State), s.stopRuns t ∧ m.hdr.mkind = 0xD ∧ m.hdr.plen = 16 ∧ m.hdr.dtile.toNat = t ∧ bits (pwrVal m) 127 124 = 2 ∧ bits (pwrVal m) 111 96 = t ∧ s.clientKind t ≠ 0 ∧ s.shut (.pwr t) = false) ∧
    (∃ (t : Nat) (m : CMsg) (full : Bool) (s : State), s.stopRuns t ∧ m.hdr.mkind = 0xD ∧ m.hdr.plen = 16 ∧ m.hdr.dtile.toNat = t ∧ bits (pwrVal m) 127 124 = 2 ∧ bits (pwrVal m) 111 96 = t ∧ (s.clientKind t = 0 ∨ s.shut (.pwr t) = true)) ∧
    (∃ (m : CMsg) (full : Bool) (s : State), s.stopRuns ctlTile ∧ m.hdr.mkind = 0xD ∧ m.hdr.plen = 16 ∧ m.hdr.dtile.toNat = ctlTile ∧ bits (pwrVal m) 127 124 = 1 ∧ bits (pwrVal m) 111 96 < 4096) :=
  ⟨⟨(16384), (true), (base), by decide +kernel⟩,
    ⟨(16385), (false), (base), by decide +kernel⟩,
    ⟨(5), (true), ({ base with xings := [(.budget, { shut := true, cleared := false })] }), by decide +kernel⟩,
    ⟨(4), (600), ([{ id := 0, f := 0, e := 300, w := 16, x := 0 }]), by decide +kernel⟩,
    ⟨(base), by decide +kernel⟩,
    ⟨(evald), by decide +kernel⟩,
    ⟨(evald), by decide +kernel⟩,
    ⟨({ base with tide := { base.tide with count := 7 } }), by decide +kernel⟩,
    ⟨(17), (0x00050007), (true), (inPan), by decide +kernel⟩,
    ⟨(17), (0x00050007), (false), (hrvd fun h => { h with state := 2 }), by decide +kernel⟩,
    ⟨(17), (1), (2), (0x00050007), (false), ({ (hrvd fun h => { h with state := 2 }) with pwr := { base.pwr with ports := [(17, { (default : PwrPort) with fifo := [1, 2] })] } }), by decide +kernel⟩,
    ⟨(17), (5), (false), ({ base with xings := [(.pwr 17, { shut := true, cleared := false })] }), by decide +kernel⟩,
    ⟨(17), (pwrd fun p => { p with ports := [(17, { (default : PwrPort) with word := 0x00050007 })] }), by unfold State.stopRuns; decide +kernel⟩,
    ⟨(17), (base), by unfold State.stopRuns; decide +kernel⟩,
    ⟨(17), (pm (2 * 2 ^ 124 + 17 * 2 ^ 96 + 30 * 2 ^ 64 + 5 * 2 ^ 61 + 2 ^ 60) 17), (true), ({ base with out := [.pwrGrant 17 9] }), by unfold State.stopRuns; decide +kernel⟩,
    ⟨(17), (pm (2 * 2 ^ 124 + 17 * 2 ^ 96 + 30 * 2 ^ 64 + 5 * 2 ^ 61 + 2 ^ 60) 17), (true), ({ base with xings := [(.pwr 17, { shut := true, cleared := false })] }), by unfold State.stopRuns; decide +kernel⟩,
    ⟨(pm (2 ^ 124 + 17 * 2 ^ 96 + 3 * 2 ^ 80 + 30 * 2 ^ 64) ctlTile), (false), (base), by unfold State.stopRuns; decide +kernel⟩⟩

/-- States and operands that meet the hypotheses of StartUpAndResets, clause by clause. -/
theorem meets_StartUpAndResets :
    (∃ (s : State), s.start.phase = 0) ∧
    (∃ (s : State), s.start.phase ≠ 0) ∧
    (∃ (ws : List Word) (s : State), s.start.phase = 1 ∧ fuseCrcOk ws = true) ∧
    (∃ (ws : List Word) (s : State), s.start.phase = 1 ∧ fuseCrcOk ws = false) ∧
    (∃ (s : State), s.start.phase = 2) ∧
    (∃ (s : State), s.start.phase ≠ 2) ∧
    (∃ (s : State), s.start.phase = 4) ∧
    (∃ (t : Nat) (bank : Nat) (s : State), s.start.phase = 4 ∧ tileOk s.build t = true ∧ 4 * bank < nSlots s.build ∧ s.spareFree t bank = true) ∧
    (∃ (t : Nat) (bank : Nat) (s : State), s.start.phase = 4 ∧ tileOk s.build t = true ∧ 4 * bank < nSlots s.build ∧ s.spareFree t bank = false) ∧
    (∃ (t : Nat) (g : Nat) (s : State), s.start.phase = 4 ∧ tileOk s.build t = true ∧ 32 * g < nSlots s.build) ∧
    (∃ (t : Nat) (k : Nat) (s : State), s.start.phase = 4 ∧ tileOk s.build t = true ∧ k < 16 ∧ 0 < (s.stop t).q.spares) ∧
    (∃ (t : Nat) (k : Nat) (s : State), s.start.phase = 4 ∧ tileOk s.build t = true ∧ k < 16 ∧ (s.stop t).q.spares = 0) ∧
    (∃ (t : Nat) (s : State), s.start.phase = 4 ∧ tileOk s.build t = true) ∧
    (∃ (n : Nat) (s : State), s.start.phase = 4 ∧ n < nLinks s.build) ∧
    (∃ (s : State), s.start.phase = 4) ∧
    (∃ (ws : List (Nat × Nat)) (s : State), s.start.phase = 1) ∧
    (∃ (ws : List (Nat × Nat)) (s : State), s.start.phase = 2) ∧
    (∃ (ws : List (Nat × Nat)) (s : State), s.start.phase = 3 ∧ ws ≠ []) ∧
    (∃ (ws : List (Nat × Nat)) (s : State), s.start.phase = 4) ∧
    (∃ (ws : List (Nat × Nat)) (s : State), (s.start.phase = 0 ∨ 5 ≤ s.start.phase)) ∧
    (∃ (q : Req) (s : State), s.serves 0x40024 q ∧ q.win = 0 ∧ q.wdata.extractLsb' 0 16 = 0x52E5 ∧ q.wdata.getLsbD 31 = true ∧ s.start.resetAt = none) ∧
    (∃ (q : Req) (s : State), s.serves 0x40024 q ∧ q.win = 0 ∧ q.wdata.extractLsb' 0 16 ≠ 0x52E5) ∧
    (∃ (q : Req) (s : State), s.serves 0x40024 q ∧ q.win ≠ 0) ∧
    (∃ (d : Nat) (s : State), s.start.resetAt = some d ∧ d ≤ s.fc) ∧
    (∃ (s : State), ((∀ d, s.start.resetAt = some d → s.fc < d))) ∧
    (∃ (t : Nat) (s : State), s.stopRuns t ∧ (s.stop t).si.rstBusy = false) ∧
    (∃ (t : Nat) (s : State), s.stopRuns t ∧ (s.stop t).si.rstBusy = true) ∧
    (∃ (t : Nat) (m : CMsg) (s : State), s.stopRuns t ∧ s.regWrite t 0x904 m ∧ (regData m).getLsbD 31 = true ∧ (s.stop t).si.rstBusy = false) ∧
    (∃ (t : Nat) (m : CMsg) (s : State), s.stopRuns t ∧ s.regWrite t 0x904 m ∧ (regData m).getLsbD 31 = true ∧ (s.stop t).si.rstBusy = true) ∧
    (∃ (t : Nat) (s : State), s.stopRuns t ∧ (s.stop t).si.rstBusy = true) ∧
    (∃ (t : Nat) (s : State), s.stopRuns t ∧ (s.stop t).si.rstBusy = false) :=
  ⟨⟨(phased 0), by decide +kernel⟩,
    ⟨(base), by decide +kernel⟩,
    ⟨(fuses2 true), (phased 1), by decide +kernel⟩,
    ⟨(fuses2 false), (phased 1), by decide +kernel⟩,
    ⟨(phased 2), by decide +kernel⟩,
    ⟨(base), by decide +kernel⟩,
    ⟨(phased 4), by decide +kernel⟩,
    ⟨(17), (2), (phased 4), by decide +kernel⟩,
    ⟨(17), (2), ((phased 4).modCu 17 fun c => { c with badSpares := [0, 1, 2, 3], spared := List.range 64 }), by decide +kernel⟩,
    ⟨(17), (0), (phased 4), by decide +kernel⟩,
    ⟨(17), (2), ((phased 4).modQ 17 fun q => { q with spares := 2 }), by decide +kernel⟩,
    ⟨(17), (2), ((phased 4).modQ 17 fun q => { q with spares := 0 }), by decide +kernel⟩,
    ⟨(17), (phased 4), by decide +kernel⟩,
    ⟨(3), (phased 4), by decide +kernel⟩,
    ⟨(phased 4), by decide +kernel⟩,
    ⟨([]), (phased 1), by decide +kernel⟩,
    ⟨([]), (phased 2), by decide +kernel⟩,
    ⟨([(3, 4), (5, 6)]), (phased 3), by decide +kernel⟩,
    ⟨([]), (phased 4), by decide +kernel⟩,
    ⟨([]), (base), by decide +kernel⟩,
    ⟨(rq 0x40024 0 (BitVec.ofNat 32 (2 ^ 31 + 0x52E5))), (base), by unfold State.serves; decide +kernel⟩,
    ⟨(rq 0x40024 0 (BitVec.ofNat 32 (2 ^ 31 + 0x52E4))), (base), by unfold State.serves; decide +kernel⟩,
    ⟨(rq 0x40024 7 (BitVec.ofNat 32 (2 ^ 31 + 0x52E5))), (base), by unfold State.serves; decide +kernel⟩,
    ⟨(64), ({ base with fc := 64, start := { base.start with resetAt := some 64 } }), by decide +kernel⟩,
    ⟨({ base with fc := 63, start := { base.start with resetAt := some 64 } }), by decide +kernel⟩,
    ⟨(17), (si17 fun x => { x with rxlim := 5 }), by unfold State.stopRuns; decide +kernel⟩,
    ⟨(17), (si17 fun x => { x with rstBusy := true }), by unfold State.stopRuns; decide +kernel⟩,
    ⟨(17), (regWr 0x904 (2 ^ 31)), (inPan), by unfold State.stopRuns State.regWrite; decide +kernel⟩,
    ⟨(17), (regWr 0x904 (2 ^ 31)), (si17 fun x => { x with rstBusy := true }), by unfold State.stopRuns State.regWrite; decide +kernel⟩,
    ⟨(17), (si17 fun x => { x with rstBusy := true }), by unfold State.stopRuns; decide +kernel⟩,
    ⟨(17), (inPan), by unfold State.stopRuns; decide +kernel⟩⟩

/-- States and operands that meet the hypotheses of PortServesRequests, clause by clause. -/
theorem meets_PortServesRequests :
    (∃ (o : Nat) (v : Word) (q : Req) (s : State), s.serves o q ∧ o < 0x100000 ∧ o ≠ 0x10000 ∧ o ≠ 0x10020 ∧ o ≠ 0x60028 ∧ ¬(0x80000 ≤ o ∧ o < 0x80400) ∧ s.refMode = false ∧ s.blockVal q.win.toNat o = some v ∧ s.blockRdOk q.win.toNat o = true) ∧
    (∃ (o : Nat) (v : Word) (q : Req) (s : State), s.serves o q ∧ o < 0x100000 ∧ o ≠ 0x10000 ∧ o ≠ 0x10020 ∧ o ≠ 0x60028 ∧ ¬(0x80000 ≤ o ∧ o < 0x80400) ∧ s.refMode = false ∧ s.blockVal q.win.toNat o = some v ∧ s.blockRdOk q.win.toNat o = false) ∧
    (∃ (o : Nat) (q : Req) (s : State), s.serves o q ∧ 0xB0000 ≤ o ∧ o < 0x100000) ∧
    (∃ (o : Nat) (q : Req) (s : State), s.serves o q ∧ 0xB0000 ≤ o ∧ o < 0x100000) ∧
    (∃ (q : Req) (s : State), s.serves 0x60004 q ∧ q.win = 0) ∧
    (∃ (q : Req) (s : State), s.serves 0x20010 q ∧ q.win = 0 ∧ s.hrv.state < 2) ∧
    (∃ (q : Req) (s : State), s.serves 0x20010 q ∧ q.win = 0 ∧ 2 ≤ s.hrv.state) ∧
    (∃ (q : Req) (s : State), s.serves 0x20010 q ∧ q.win ≠ 0) ∧
    (∃ (o : Nat) (t : Nat) (v : Nat × Word) (q : Req) (s : State), s.serves o q ∧ s.running = true ∧ 0x100000 ≤ o ∧ s.refMode = false ∧ s.pagePlace o = some (.stop t) ∧ s.pageVal (.stop t) (o % 0x1000) = some v ∧ s.pageOk (.stop t) false q.win.toNat (o % 0x1000) = true) ∧
    (∃ (o : Nat) (t : Nat) (v : Nat × Word) (q : Req) (s : State), s.serves o q ∧ s.running = true ∧ 0x100000 ≤ o ∧ s.refMode = false ∧ s.pagePlace o = some (.stop t) ∧ s.pageVal (.stop t) (o % 0x1000) = some v ∧ s.pageOk (.stop t) true q.win.toNat (o % 0x1000) = true) ∧
    (∃ (o : Nat) (t : Nat) (v : Nat × Word) (q : Req) (s : State), s.serves o q ∧ 2 ≤ s.hrv.state ∧ 0x100000 ≤ o ∧ s.refMode = false ∧ s.pagePlace o = some (.stop t) ∧ s.pageVal (.stop t) (o % 0x1000) = some v ∧ s.pageOk (.stop t) true q.win.toNat (o % 0x1000) = true) ∧
    (∃ (o : Nat) (t : Nat) (v : Nat × Word) (q : Req) (s : State), s.serves o q ∧ 2 ≤ s.hrv.state ∧ 0x100000 ≤ o ∧ s.refMode = false ∧ s.pagePlace o = some (.stop t) ∧ s.pageVal (.stop t) (o % 0x1000) = some v ∧ s.pageOk (.stop t) false q.win.toNat (o % 0x1000) = true) ∧
    (∃ (o : Nat) (q : Req) (s : State), s.serves o q ∧ 0x100000 ≤ o ∧ s.refMode = false ∧ s.pagePlace o = none) ∧
    (∃ (t : Nat) (v : Nat × Word) (m : CMsg) (s : State), s.stopRuns t ∧ isKind m 0x9 = true ∧ regPage m = 0x100 + s.phys t ∧ s.pageVal (.stop t) (regOfs m) = some v ∧ s.pageOk (.stop t) false (regWin m) (regOfs m) = true) ∧
    (∃ (t : Nat) (v : Nat × Word) (m : CMsg) (s : State), s.stopRuns t ∧ isKind m 0x9 = true ∧ regPage m = 0x100 + s.phys t ∧ s.pageVal (.stop t) (regOfs m) = some v ∧ s.pageOk (.stop t) false (regWin m) (regOfs m) = false) ∧
    (∃ (n : Nat) (v : Word) (m : CMsg) (s : State), s.linkFabRuns n ∧ isKind m 0x9 = true ∧ regPage m = 0x400 + n ∧ s.linkVal n (regOfs m) = some v ∧ regWin m = 0 ∧ s.ctrl.entry = none) ∧
    (∃ (t : Nat) (m : CMsg) (s : State), s.stopRuns t ∧ isKind m 0xA = true ∧ regPage m = 0x100 + s.phys t) ∧
    (∃ (t : Nat) (m : CMsg) (s : State), s.stopRuns t ∧ s.regWrite t 0x604 m ∧ regPage m = 0x100 + s.phys t) ∧
    (∃ (n : Nat) (m : CMsg) (s : State), s.linkFabRuns n ∧ linkWrites n 0x014 m ∧ 0 < (regData m).extractLsb' 16 16 ∧ 0 < (regData m).extractLsb' 8 8) ∧
    (∃ (m : CMsg) (r : RegWait) (s : State), s.stopRuns ctlTile ∧ s.ctrl.line = [.wait r] ∧ isKind m 0xB = true ∧ r.isOf m = true) ∧
    (∃ (m : CMsg) (s : State), s.stopRuns ctlTile ∧ s.ctrl.line = []) ∧
    (∃ (m : CMsg) (r : RegWait) (q : Req) (e : Entry) (v : Word) (s : State), s.stopRuns ctlTile ∧ s.ctrl.line = [.wait r, .todo false q e] ∧ isKind m 0xB = true ∧ r.isOf m = true ∧ s.shut .control = false ∧ qOfs q = 0x40010 ∧ s.refMode = false ∧ s.fltVal q.win.toNat 0x010 = some v) ∧
    (∃ (r : RegWait) (s : State), s.ready = true ∧ s.ctrl.line = [.wait r] ∧ r.deadline ≤ s.fc) ∧
    (∃ (r : RegWait) (s : State), s.ready = true ∧ s.ctrl.line = [.wait r] ∧ s.fc < r.deadline) ∧
    (∃ (v : Word) (q : Req) (s : State), s.serves 0x0000C q ∧ s.hrv.state < 2 ∧ s.refMode = false ∧ s.blkVal q.win.toNat 0x00C = some v) :=
  ⟨⟨(0x00000), ((base.blockVal 0 0x00000).getD 0), (rq 0x00000 0 0), (base), by unfold State.serves; decide +kernel⟩,
    ⟨(0x60000), ((base.blockVal 1 0x60000).getD 0), (rq 0x60000 1 0), (base), by unfold State.serves; decide +kernel⟩,
    ⟨(0xB0000), (rq 0xB0000 0 0), (base), by unfold State.serves; decide +kernel⟩,
    ⟨(0xB0000), (rq 0xB0000 0 0), (base), by unfold State.serves; decide +kernel⟩,
    ⟨(rq 0x60004 0 9), (base), by unfold State.serves; decide +kernel⟩,
    ⟨(rq 0x20010 0 9), (base), by unfold State.serves; decide +kernel⟩,
    ⟨(rq 0x20010 0 9), (hrvd fun h => { h with state := 2 }), by unfold State.serves; decide +kernel⟩,
    ⟨(rq 0x20010 3 9), (base), by unfold State.serves; decide +kernel⟩,
    ⟨(pageAt 17 0x604), (17), ((base.pageVal (.stop 17) 0x604).getD (0, 0)), (rq (pageAt 17 0x604) 0 0), (base), by unfold State.serves; decide +kernel⟩,
    ⟨(pageAt 17 0x604), (17), ((base.pageVal (.stop 17) 0x604).getD (0, 0)), (rq (pageAt 17 0x604) 0 9), (base), by unfold State.serves; decide +kernel⟩,
    ⟨(pageAt 17 0x604), (17), ((base.pageVal (.stop 17) 0x604).getD (0, 0)), (rq (pageAt 17 0x604) 0 9), (hrvd fun h => { h with state := 2 }), by unfold State.serves; decide +kernel⟩,
    ⟨(pageAt 17 0x604), (17), ((base.pageVal (.stop 17) 0x604).getD (0, 0)), (rq (pageAt 17 0x604) 0 9), (hrvd fun h => { h with state := 2 }), by unfold State.serves; decide +kernel⟩,
    ⟨(0x300000), (rq 0x300000 0 9), (base), by unfold State.serves; decide +kernel⟩,
    ⟨(17), ((base.pageVal (.stop 17) 0x604).getD (0, 0)), (regAt 9 17 0x604 0), (base), by unfold State.stopRuns; decide +kernel⟩,
    ⟨(17), ((base.pageVal (.stop 17) 0x604).getD (0, 0)), ({ (regAt 9 17 0x604 0) with data := bytesOf 16 (leAt (regAt 9 17 0x604 0).data 0 16 + 2 ^ 125) }), (base), by unfold State.stopRuns; decide +kernel⟩,
    ⟨(3), ((base.linkVal 3 0x014).getD 0), ({ (linkWr 0x014 0) with hdr := { (linkWr 0x014 0).hdr with mkind := 9 } }), (base), by unfold State.linkFabRuns; decide +kernel⟩,
    ⟨(17), (regAt 0xA 17 0x900 (2 ^ 31)), (inPan), by unfold State.stopRuns; decide +kernel⟩,
    ⟨(17), (regAt 0xA 17 0x604 9), (inPan), by unfold State.stopRuns State.regWrite; decide +kernel⟩,
    ⟨(3), (linkWr 0x014 0x20500), (base), by unfold State.linkFabRuns linkWrites; decide +kernel⟩,
    ⟨(ans1), (wait1), (lined [.wait wait1]), by unfold State.stopRuns; decide +kernel⟩,
    ⟨(ans1), (base), by unfold State.stopRuns; decide +kernel⟩,
    ⟨(ans1), (wait1), (rq 0x40010 0 0), (base.entryOf 0), ((base.fltVal 0 0x010).getD 0), (lined [.wait wait1, .todo false (rq 0x40010 0 0) (base.entryOf 0)]), by unfold State.stopRuns; decide +kernel⟩,
    ⟨(wait1), (lined [.wait wait1]), by decide +kernel⟩,
    ⟨({ wait1 with deadline := 5 }), (lined [.wait { wait1 with deadline := 5 }]), by decide +kernel⟩,
    ⟨((({ base with ctrl := { base.ctrl with imgEvt := 3, qcEvt := 1 } }).blkVal 0 0x00C).getD 0), (rq 0x0000C 0 0), ({ base with ctrl := { base.ctrl with imgEvt := 3, qcEvt := 1 } }), by unfold State.serves; decide +kernel⟩⟩

end Sys2Proof.Tests
end

section
/-! PROOF. Row remaps (R14, R16): what the M-plane's own traffic leaves of the rest of the block, what a row's new map makes of its stops,
and the two commands that end a row's hold. -/

namespace Sys2Proof

/-! ### Tables filled by a fold -/

/-- A table into which entries are written one by one keeps an entry whose key none of them has. -/
theorem Tab.get_foldl_set_of_notMem {α : Type} (d : α) (key : Nat → Nat) (val : Nat → α) (l : Tab α) (xs : List Nat) (k : Nat)
    (h : ∀ x ∈ xs, k ≠ key x) : Tab.get d (xs.foldl (fun l x => l.set (key x) (val x)) l) k = Tab.get d l k := by
  induction xs generalizing l with
  | nil => rfl
  | cons x xs ih =>
    rw [List.foldl_cons, ih _ fun z hz => h z (List.mem_cons_of_mem x hz)]
    exact Tab.get_set_ne d l (key x) k (val x) (h x List.mem_cons_self)

/-- Under an injective key each entry written below `n` can be read again. -/
theorem Tab.get_foldl_set_range {α : Type} (d : α) {key : Nat → Nat} (hkey : Function.Injective key) (val : Nat → α) (l : Tab α)
    {n x : Nat} (hx : x < n) :
    Tab.get d ((List.range n).foldl (fun l x => l.set (key x) (val x)) l) (key x) = val x := by
  induction n with
  | zero => exact absurd hx (Nat.not_lt_zero x)
  | succ n ih =>
    rw [List.range_succ, List.foldl_append, List.foldl_cons, List.foldl_nil]
    by_cases hxn : x = n
    · rw [hxn, Tab.get_set_self]
    · rw [Tab.get_set_ne d _ (key n) (key x) (val n) fun h => hxn (hkey h)]
      exact ih (by omega)

/-- What holds of the entries of a table and of all that is written into it holds of the entries read afterwards. -/
theorem Tab.get_foldl_set_induction {α : Type} {P : α → Prop} (d : α) (key : Nat → Nat) (val : Nat → α) (l : Tab α) (xs : List Nat)
    (hl : ∀ k, P (Tab.get d l k)) (hv : ∀ x, P (val x)) (k : Nat) :
    P (Tab.get d (xs.foldl (fun l x => l.set (key x) (val x)) l) k) := by
  induction xs generalizing l with
  | nil => exact hl k
  | cons x xs ih =>
    refine ih (l.set (key x) (val x)) fun j => ?_
    by_cases hj : j = key x
    · rw [hj, Tab.get_set_self]; exact hv x
    · rw [Tab.get_set_ne d l (key x) j (val x) hj]; exact hl j

end Sys2Proof

namespace Sys2Proof.Machine

/-! ### Changes that leave the rows alone and take back nothing that has left the block -/

/-- From `s` to `u` no row of the repair map changes, and what has left the block's units stays so. -/
structure State.Grows (s u : State) : Prop where
  rows : u.rows = s.rows
  out : s.out <+: u.out

namespace State.Grows

theorem refl (s : State) : s.Grows s := ⟨rfl, List.prefix_rfl⟩

theorem trans {s u v : State} (h : s.Grows u) (g : u.Grows v) : s.Grows v := ⟨g.rows.trans h.rows, h.out.trans g.out⟩

theorem foldl {β : Type} {f : State → β → State} (h : ∀ (s : State) (b : β), s.Grows (f s b)) (l : List β) (s : State) :
    s.Grows (l.foldl f s) := by
  induction l generalizing s with
  | nil => exact refl s
  | cons b l ih => exact (h s b).trans (ih (f s b))

end State.Grows

theorem State.modStop_grows (s : State) (t : Nat) (f : Stop → Stop) : s.Grows (s.modStop t f) := ⟨rfl, List.prefix_rfl⟩
theorem State.modSi_grows (s : State) (t : Nat) (f : Si → Si) : s.Grows (s.modSi t f) := ⟨rfl, List.prefix_rfl⟩
theorem State.modMp_grows (s : State) (t : Nat) (f : MPort → MPort) : s.Grows (s.modMp t f) := ⟨rfl, List.prefix_rfl⟩
theorem State.modRake_grows (s : State) (f : Rake → Rake) : s.Grows (s.modRake f) := ⟨rfl, List.prefix_rfl⟩
theorem State.modAttach_grows (s : State) (sl : Nat) (f : Attach → Attach) : s.Grows (s.modAttach sl f) := ⟨rfl, List.prefix_rfl⟩
theorem State.emit_grows (s : State) (e : OutEv) : s.Grows (s.emit e) := ⟨rfl, List.prefix_append s.out [e]⟩

theorem State.raise_grows (s : State) (unit code detT detN detV : Nat) : s.Grows (s.raise unit code detT detN detV) :=
  ⟨rfl, List.prefix_append s.out _⟩

theorem State.trace_grows (s : State) (unit typ : Nat) (cls : Option Nat) (a b c : Nat) (raws : List Byte) :
    s.Grows (s.trace unit typ cls a b c raws) := by
  obtain ⟨r, hr⟩ := s.trace_eq unit typ cls a b c raws
  rw [hr]
  exact ⟨rfl, List.prefix_rfl⟩

/-! ### The M-plane's senders: only stops, attachments and what leaves the block change -/

/-- From `s` to `u` only stops, slice attachments and what leaves the block change; of a stop neither its queues nor the messages that wait in
its M-router, and what has left the block stays so. -/
structure State.Sends (s u : State) : Prop where
  only : u = { s with stops := u.stops, slices := u.slices, out := u.out }
  q : ∀ t, (u.stop t).q = (s.stop t).q
  mheld : ∀ t, (u.stop t).mheld = (s.stop t).mheld
  out : s.out <+: u.out

namespace State.Sends

theorem refl (s : State) : s.Sends s := ⟨rfl, fun _ => rfl, fun _ => rfl, List.prefix_rfl⟩

theorem trans {s u v : State} (h : s.Sends u) (g : u.Sends v) : s.Sends v where
  only := by
    have hv := g.only
    rw [h.only] at hv
    exact hv
  q t := (g.q t).trans (h.q t)
  mheld t := (g.mheld t).trans (h.mheld t)
  out := h.out.trans g.out

theorem foldl {β : Type} {f : State → β → State} (h : ∀ (s : State) (b : β), s.Sends (f s b)) (l : List β) (s : State) :
    s.Sends (l.foldl f s) := by
  induction l generalizing s with
  | nil => exact refl s
  | cons b l ih => exact (h s b).trans (ih (f s b))

theorem rows {s u : State} (h : s.Sends u) : u.rows = s.rows := by rw [h.only]

theorem grows {s u : State} (h : s.Sends u) : s.Grows u := ⟨h.rows, h.out⟩

end State.Sends

/-- A change of one stop that spares its queues and its M-router's waiting messages. -/
theorem State.modStop_sends (s : State) (t : Nat) (f : Stop → Stop) (hq : (f (s.stop t)).q = (s.stop t).q)
    (hm : (f (s.stop t)).mheld = (s.stop t).mheld) : s.Sends (s.modStop t f) where
  only := rfl
  q j := by
    by_cases hj : j = t
    · rw [hj, State.modStop_stop_self, hq]
    · rw [State.modStop_stop_ne s t j f hj]
  mheld j := by
    by_cases hj : j = t
    · rw [hj, State.modStop_stop_self, hm]
    · rw [State.modStop_stop_ne s t j f hj]
  out := List.prefix_rfl

theorem State.modAttach_sends (s : State) (sl : Nat) (f : Attach → Attach) : s.Sends (s.modAttach sl f) :=
  ⟨rfl, fun _ => rfl, fun _ => rfl, List.prefix_rfl⟩

theorem State.emit_sends (s : State) (e : OutEv) : s.Sends (s.emit e) :=
  ⟨rfl, fun _ => rfl, fun _ => rfl, List.prefix_append s.out [e]⟩

theorem State.mEnter_sends (s : State) (t port sub : Nat) (m : MMsg) : s.Sends (s.mEnter t port sub m) :=
  (s.modStop_sends t _ rfl rfl).trans (State.emit_sends _ _)

theorem State.mpIssue_sends (s : State) (t : Nat) : s.Sends (s.mpIssue t) := by
  unfold State.mpIssue
  dsimp only
  split
  · split
    · exact .refl s
    · exact (s.modStop_sends t _ rfl rfl).trans (State.mEnter_sends _ _ _ _ _)
  · exact .refl s

theorem State.mpPump_sends (s : State) (t : Nat) : s.Sends (s.mpPump t) := .foldl (fun s _ => s.mpIssue_sends t) _ s

theorem State.sliceSend_sends (s : State) (sl : Nat) : s.Sends (s.sliceSend sl) := by
  unfold State.sliceSend
  dsimp only
  split
  · exact .refl s
  · split
    · exact .refl s
    · exact (s.modAttach_sends sl _).trans (State.mEnter_sends _ _ _ _ _)

theorem State.sliceDrain_sends (s : State) (sl : Nat) : s.Sends (s.sliceDrain sl) := .foldl (fun s _ => s.sliceSend_sends sl) _ s

theorem State.modRt_sends (s : State) (t : Nat) (f : Router → Router) : s.Sends (s.modRt t f) := s.modStop_sends t _ rfl rfl

theorem State.livePort_sends (s : State) (t p : Nat) : s.Sends (s.livePort t p) := s.modRt_sends t _

/-! ### The end of a message at its SI -/

theorem State.cmpDesc_grows (s : State) (t : Nat) (m : Msg) (code : Nat) : s.Grows (s.cmpDesc t m code) := by
  have hcmp : ∀ v : State, v.Grows (v.cmpXfer t m.dkind code m.resends m.hdr.ctag m.start) := fun v =>
    ((v.emit_grows _).trans (State.modStop_grows _ _ _)).trans (State.trace_grows _ _ _ _ _ _ _ _)
  unfold State.cmpDesc
  refine State.Grows.trans ?_ (hcmp _)
  split
  · split
    · exact .refl s
    · exact s.emit_grows _
  · exact .refl s

theorem State.modMsgs_grows (s : State) (t : Nat) (p : Msg → Bool) (f : Msg → Msg) : s.Grows (s.modMsgs t p f) := s.modSi_grows t _
theorem State.modMsg_grows (s : State) (t uid : Nat) (f : Msg → Msg) : s.Grows (s.modMsg t uid f) := s.modMsgs_grows t _ _
theorem State.dropMsg_grows (s : State) (t uid : Nat) : s.Grows (s.dropMsg t uid) := s.modSi_grows t _

theorem State.issueOne_grows (s : State) (t : Nat) : s.Grows (s.issueOne t) := by
  unfold State.issueOne
  dsimp only
  split
  · exact .refl s
  · split
    · exact (s.modSi_grows t _).trans (State.modMsg_grows _ _ _ _)
    · exact .refl s

theorem State.pumpOne_grows (s : State) (t : Nat) : s.Grows (s.pumpOne t) := by
  unfold State.pumpOne
  dsimp only
  split
  · split
    · exact ((s.modMsg_grows t _ _).trans (State.modSi_grows _ _ _)).trans (State.emit_grows _ _)
    · exact .refl s
  · exact .refl s

theorem State.feedCirc_grows (s : State) (t : Nat) : s.Grows (s.feedCirc t) := by
  refine State.Grows.foldl (fun v m => ?_) _ s
  dsimp only
  split
  · exact .refl v
  · split
    · exact v.modSi_grows t _
    · exact (v.modSi_grows t _).trans (State.modMsg_grows _ _ _ _)

theorem State.issue_grows (s : State) (t : Nat) : s.Grows (s.issue t) :=
  ((State.Grows.foldl (fun v _ => v.issueOne_grows t) _ s).trans (.foldl (fun v _ => v.pumpOne_grows t) _ _)).trans
    (State.feedCirc_grows _ t)

theorem State.endDesc_grows (s : State) (t : Nat) (m : Msg) (code : Nat) : s.Grows (s.endDesc t m code) :=
  ((s.cmpDesc_grows t m code).trans (State.dropMsg_grows _ _ _)).trans (State.issue_grows _ t)

theorem State.inject_grows (s : State) (t : Nat) (p : Pkt) : s.Grows (s.inject t p) := s.modSi_grows t _

theorem State.nack_grows (s : State) (t : Nat) (h : THdr) (code : Nat) : s.Grows (s.nack t h code) := by
  have hcount : s.Grows (s.countFnack t code) := by
    unfold State.countFnack
    split
    · exact s.modStop_grows t _
    · exact .refl s
  exact hcount.trans (State.inject_grows _ t _)

/-! ### Returns of the M-plane at their M-port -/

theorem State.descPart_grows (s : State) (t uid ofs : Nat) (read ok : Bool) (data : List Byte) :
    s.Grows (s.descPart t uid ofs read ok data) := by
  unfold State.descPart
  extract_lets s1 s2
  have h1 : s.Grows s1 := by
    unfold s1
    split
    · split
      · exact s.emit_grows _
      · exact .refl s
    · exact .refl s
  have h2 : s.Grows s2 := by
    unfold s2
    split
    · exact h1
    · exact h1.trans (State.modMsgs_grows _ _ _ _)
  split
  · exact h2
  · split
    · exact h2.trans (State.endDesc_grows _ _ _ _)
    · exact h2

theorem State.serveEnd_grows (s : State) (t : Nat) (v : Serve) : s.Grows (s.serveEnd t v) := by
  unfold State.serveEnd
  split
  · exact .refl s
  · extract_lets s1
    have h1 : s.Grows s1 := s.modMp_grows t _
    split
    · split
      · exact h1
      · exact h1.trans (.foldl (fun w p => w.inject_grows t p) _ _)
    · split
      · exact (h1.trans (State.modSi_grows _ t _)).trans (State.nack_grows _ _ _ _)
      · exact h1.trans (State.inject_grows _ t _)

theorem State.servePart_grows (s : State) (t id ofs : Nat) (ok : Bool) (data : List Byte) : s.Grows (s.servePart t id ofs ok data) := by
  unfold State.servePart
  split
  · exact .refl s
  · exact (s.modMp_grows t _).trans (State.serveEnd_grows _ _ _)

theorem State.mpReply_grows (s : State) (t : Nat) (tag : BitVec 8) (st : Nat) (data : List Byte) : s.Grows (s.mpReply t tag st data) := by
  unfold State.mpReply
  split
  · exact .refl s
  · exact s.emit_grows _

theorem State.mpDone_grows (s : State) (t : Nat) (r : MReq) (ok : Bool) (data : List Byte) : s.Grows (s.mpDone t r ok data) := by
  unfold State.mpDone
  extract_lets s1
  have h1 : s.Grows s1 := s.modMp_grows t _
  split
  · exact h1.trans (State.mpReply_grows _ _ _ _ _)
  · exact h1.trans (State.descPart_grows _ _ _ _ _ _ _)
  · exact h1.trans (State.servePart_grows _ _ _ _ _ _)
  · split
    · exact h1
    · exact h1.trans (State.modRake_grows _ _)
  · exact h1.trans (State.emit_grows _ _)

theorem State.mpReturn_grows (s : State) (t : Nat) (m : MMsg) : s.Grows (s.mpReturn t m) := by
  unfold State.mpReturn
  split
  · exact .refl s
  · exact ((s.modMp_grows t _).trans (State.mpDone_grows _ _ _ _ _)).trans (State.mpPump_sends _ t).grows

/-! ### Messages that wait in an M-router -/

theorem State.sliceTake_grows (s : State) (m : MMsg) : s.Grows (s.sliceTake m) := by
  unfold State.sliceTake
  split
  · exact (s.modAttach_grows m.slice _).trans (State.sliceDrain_sends _ _).grows
  · exact s.modAttach_grows m.slice _

theorem State.mGrant_grows (s : State) (t o sub i : Nat) (m : MMsg) : s.Grows (s.mGrant t o sub i m) := by
  unfold State.mGrant
  extract_lets s1
  have h1 : s.Grows s1 := s.modStop_grows t _
  split
  · split
    · exact (h1.trans (State.emit_grows _ _)).trans (State.modStop_grows _ _ _)
    · exact h1
  · split
    · exact (h1.trans (State.modMp_grows _ t _)).trans (State.mpReturn_grows _ t m)
    · exact h1.trans (State.sliceTake_grows _ m)

theorem State.mArbOne_grows (s : State) (t o sub : Nat) : s.Grows (s.mArbOne t o sub) := by
  unfold State.mArbOne
  split
  · exact .refl s
  · split
    · exact s.mGrant_grows _ _ _ _ _
    · exact .refl s

theorem State.mArb_grows (s : State) (t : Nat) : s.Grows (s.mArb t) := by
  unfold State.mArb
  split
  · exact .refl s
  · exact .foldl (fun v c => .foldl (fun w o => w.mArbOne_grows t o c) _ v) _ s

theorem State.mRoute_grows (s : State) (t port sub : Nat) (m : MMsg) : s.Grows (s.mRoute t port sub m) := by
  unfold State.mRoute
  split
  · exact .refl s
  · exact s.raise_grows _ _ _ _ _
  · exact (s.modStop_grows t _).trans (State.mArb_grows _ t)

theorem State.mRelease_grows (s : State) (t : Nat) : s.Grows (s.mRelease t) := by
  unfold State.mRelease
  dsimp only
  split
  · exact .refl s
  · exact (s.modStop_grows t _).trans (.foldl (fun v (e : Nat × Nat × MMsg) => v.mRoute_grows t e.1 e.2.1 e.2.2) _ _)

theorem State.mRelease_of_nil {s : State} {t : Nat} (h : (s.stop t).mheld = []) : s.mRelease t = s := by
  simp [State.mRelease, h]

/-- Where no message waits in an M-router, a release of any stops changes nothing. -/
theorem State.foldl_mRelease_of_nil {s : State} (h : ∀ t, (s.stop t).mheld = []) (ts : List Nat) :
    ts.foldl (fun s t => s.mRelease t) s = s := by
  induction ts with
  | nil => rfl
  | cons t ts ih => rw [List.foldl_cons, State.mRelease_of_nil (h t), ih]

/-! ### What waited goes on -/

/-- The M-ports and the attachments of a row go on. -/
theorem State.resumeSenders_sends (ts : List Nat) (s : State) :
    s.Sends (ts.foldl (fun s t => (slicesOf s.build t).foldl (fun s sl => s.sliceDrain sl) (s.mpPump t)) s) :=
  .foldl (fun v t => (v.mpPump_sends t).trans (.foldl (fun w sl => w.sliceDrain_sends sl) _ _)) ts s

theorem State.resumeRow_grows (s : State) (y : Nat) : s.Grows (s.resumeRow y) :=
  (State.Grows.foldl (fun v t => v.mRelease_grows t) _ s).trans (State.resumeSenders_sends _ _).grows

/-- Where no message waits in an M-router, only the M-ports and the attachments go on. -/
theorem State.resumeRow_sends {s : State} (h : ∀ t, (s.stop t).mheld = []) (y : Nat) : s.Sends (s.resumeRow y) := by
  unfold State.resumeRow
  rw [State.foldl_mRelease_of_nil h]
  exact State.resumeSenders_sends _ s

/-! ### Geometry (R14) -/

theorem State.logical_physX (s : State) {x y : Nat} (hx : x < cols s.build) (hy : y < 16) :
    s.logical (s.physX x y) y = some (tileId x y) := by
  unfold State.logical State.physX pcols
  by_cases h : x < (s.row y).col
  · have hlt : x < cols s.build + 1 := by omega
    simp [h, hlt, hy, Nat.ne_of_lt h]
  · have hlt : x + 1 ≠ (s.row y).col ∧ ¬ x + 1 < (s.row y).col := by omega
    simp [h, hx, hy, hlt]

theorem State.physX_eq_self (s : State) {x y : Nat} (hx : x < cols s.build) (h : (s.row y).col = pcols s.build - 1) :
    s.physX x y = x := by
  have hcol : x < (s.row y).col := by unfold pcols at h; omega
  simp [State.physX, hcol]

theorem tileId_injective (y : Nat) : Function.Injective fun x => tileId x y := by
  intro a b h
  simp only [tileId] at h
  omega

theorem State.row_setRow_self (s : State) (y : Nat) (r : Row) : (s.setRow y r).row y = r := Tab.get_set_self _ _ _ _

theorem State.row_setRow_ne (s : State) {y z : Nat} (r : Row) (h : z ≠ y) : (s.setRow y r).row z = s.row z := Tab.get_set_ne _ _ _ _ _ h

theorem State.row_congr {s u : State} (hb : u.build = s.build) (hr : u.rows = s.rows) (y : Nat) : u.row y = s.row y := by
  unfold State.row
  rw [hb, hr]

/-! ### The row takes its map -/

/-- The stop that physical tile P(px,y) holds under the map in force: the state of the logical tile that it carries, and a stop as reset leaves
it where it carries none. -/
def State.carried (s : State) (px y : Nat) : Stop :=
  match s.logical px y with
  | some t => s.stop t
  | none => Stop.init

theorem State.carried_mheld {s : State} (h : ∀ t, (s.stop t).mheld = []) (px y : Nat) : (s.carried px y).mheld = [] := by
  unfold State.carried
  split
  · exact h _
  · rfl

/-- A row has the map of the hold `h` in force, and waits for no other. -/
structure Row.Takes (r : Row) (h : RowHold) : Prop where
  col : r.col = h.col
  src : r.src = h.src
  hold : r.hold = none

/-- What a row's new map changes, before ports live again: `v` differs from `s` in the row, the row's fence bits, its stops, and the
crossings and PWR ports of its clients; each stop of the row is the one that its physical tile had. -/
structure State.Mapped (s : State) (y : Nat) (h : RowHold) (v : State) : Prop where
  only : v = { s with
    rows := v.rows, stops := v.stops, flt := { s.flt with fenced := v.flt.fenced }, xings := v.xings
    pwr := { s.pwr with ports := v.pwr.ports } }
  rows : ∃ r : Row, r.Takes h ∧ v.rows = (s.setRow y r).rows
  stops : v.stops = (List.range (cols s.build)).foldl
    (fun l x => l.set (tileId x y) ((s.carried (v.physX x y) y).rekey (s.stop (tileId x y)))) s.stops

theorem State.takeMap_mapped (s : State) (y : Nat) (h : RowHold) : ∃ v, s.Mapped y h v ∧ v.Sends (s.takeMap y h) := by
  unfold State.takeMap
  extract_lets r left new s1 gone moved _ _ s2
  refine ⟨s2, ⟨rfl, ⟨new, ⟨rfl, rfl, rfl⟩, rfl⟩, rfl⟩, ?_⟩
  clear_value gone s2
  split
  · split
    · refine .foldl (fun v p => ?_) _ _
      split
      · exact v.livePort_sends _ _
      · exact .refl v
    · exact .refl s2
  · exact .refl s2

theorem State.Mapped.stop_carried {s v : State} {y : Nat} {h : RowHold} (hv : s.Mapped y h v) {x : Nat} (hx : x < cols s.build) :
    v.stop (tileId x y) = (s.carried (v.physX x y) y).rekey (s.stop (tileId x y)) := by
  rw [State.stop, hv.stops]
  exact Tab.get_foldl_set_range Stop.init (tileId_injective y)
    (fun x => (s.carried (v.physX x y) y).rekey (s.stop (tileId x y))) s.stops hx

theorem State.Mapped.mheld {s v : State} {y : Nat} {h : RowHold} (hv : s.Mapped y h v) (hm : ∀ t, (s.stop t).mheld = []) (t : Nat) :
    (v.stop t).mheld = [] := by
  rw [State.stop, hv.stops]
  exact Tab.get_foldl_set_induction (P := fun st => st.mheld = []) Stop.init (fun x => tileId x y)
    (fun x => (s.carried (v.physX x y) y).rekey (s.stop (tileId x y))) s.stops _ hm
    (fun x => State.carried_mheld hm _ y) t

/-- Row `y` has its hold released and the block has reported a row remap timeout (R16). -/
def State.mapGivenUp (s : State) (y : Nat) : State := (s.setRow y { s.row y with hold := none }).raiseBlk 1 0x0106 0 0

theorem State.mapGivenUp_rows (s : State) (y : Nat) : (s.mapGivenUp y).rows = (s.setRow y { s.row y with hold := none }).rows :=
  (State.raise_grows _ _ _ _ _ _).rows

theorem State.mapGivenUp_out (s : State) (y : Nat) : ∃ f : FaultMsg, (s.mapGivenUp y).out = s.out ++ [.fault f] ∧
    f.code = 0x0106 ∧ f.unit = 0xA001 ∧ f.cls = BitVec.ofNat 2 (faultClass 0x0106) := by
  obtain ⟨f, hcode, hunit, hcls, hraise⟩ := (s.setRow y { s.row y with hold := none }).raise_eq (unitId uBlock 1) 0x0106 0 0 0
  refine ⟨f, ?_, hcode, hunit, hcls⟩
  rw [State.mapGivenUp, State.raiseBlk, hraise, State.setRow_out]

/-! ### The commands that end a hold -/

theorem State.fabricEmpty.mheld {s : State} (h : s.fabricEmpty) (t : Nat) : (s.stop t).mheld = [] := by
  obtain ⟨_, _, _, hheld⟩ := h t
  exact hheld

theorem State.fabricEmpty.rowDrained {s : State} (h : s.fabricEmpty) (y : Nat) : s.rowDrained y = true := by
  refine List.all_eq_true.mpr fun t _ => ?_
  obtain ⟨hrt, hc, hrx, hheld⟩ := h t
  simp [hrt, hc, hrx, hheld]

theorem exec_rowRemapDrained_eq (y : Nat) (s : State) : exec (.rowRemapDrained y) s = execRowRemapDrained y s := rfl
theorem exec_rowRemapTimeout_eq (y : Nat) (s : State) : exec (.rowRemapTimeout y) s = execRowRemapTimeout y s := rfl

/-- What resumes after a hold leaves every row as the end of the hold has made it. -/
theorem State.kept_resumeRow_row {s v : State} {y : Nat} {r : Row} (hv : v.rows = (s.setRow y r).rows) (z : Nat) :
    (s.kept (v.resumeRow y)).row z = (s.setRow y r).row z :=
  State.row_congr (s := s.setRow y r) (u := s.kept (v.resumeRow y)) rfl ((v.resumeRow_grows y).rows.trans hv) z

section
variable {y : Nat} {h : RowHold} {s : State} (hrun : s.running = true) (hh : (s.row y).hold = some h)
include hrun hh

theorem exec_rowRemapDrained_takes (hd : s.rowDrained y = true) (ht : s.ft < h.deadline) :
    exec (.rowRemapDrained y) s = .next (s.kept ((s.takeMap y h).resumeRow y)) := by
  rw [exec_rowRemapDrained_eq, execRowRemapDrained, fabAct_running hrun]
  simp [hh, hd, ht]

theorem exec_rowRemapDrained_waits (hw : s.rowDrained y = false ∨ h.deadline ≤ s.ft) : exec (.rowRemapDrained y) s = .next s := by
  have hcond : (s.rowDrained y && decide (s.ft < h.deadline)) = false := by
    rcases hw with hd | ht
    · simp [hd]
    · simp [Nat.not_lt.mpr ht]
  rw [exec_rowRemapDrained_eq, execRowRemapDrained, fabAct_running hrun]
  simp [hh, hcond, State.kept]

theorem exec_rowRemapTimeout_givesUp (ht : h.deadline ≤ s.ft) :
    exec (.rowRemapTimeout y) s = .next (s.kept ((s.mapGivenUp y).resumeRow y)) := by
  rw [exec_rowRemapTimeout_eq, execRowRemapTimeout, fabAct_running hrun]
  simp [hh, ht, State.mapGivenUp]

/-- A drained row takes the map of its hold, and no other row changes. -/
theorem drained_row_takes_map (hd : s.rowDrained y = true) (ht : s.ft < h.deadline) :
    ∃ u, exec (.rowRemapDrained y) s = .next u ∧ (u.row y).col = h.col ∧ (u.row y).src = h.src ∧ (u.row y).hold = none ∧
      (∀ z, z ≠ y → u.row z = s.row z) := by
  obtain ⟨v, hv, hsend⟩ := s.takeMap_mapped y h
  obtain ⟨r, hr, hrows⟩ := hv.rows
  refine ⟨_, exec_rowRemapDrained_takes hrun hh hd ht, ?_⟩
  have hu := State.kept_resumeRow_row (hsend.rows.trans hrows)
  have hy := (hu y).trans (s.row_setRow_self y r)
  rw [hy]
  exact ⟨hr.col, hr.src, hr.hold, fun z hz => (hu z).trans (s.row_setRow_ne r hz)⟩

/-- Where the planes are empty every physical stop keeps its queues, and nothing changes but what goes with the map and the M-plane's senders. -/
theorem empty_row_carries_stops (he : s.fabricEmpty) (ht : s.ft < h.deadline) :
    ∃ u, exec (.rowRemapDrained y) s = .next u ∧
      (∀ x, x < cols s.build → (u.stop (tileId x y)).q =
        match s.logical (u.physX x y) y with | some v => (s.stop v).q | none => QBlock.init) ∧
      u = { s with
        rows := u.rows, stops := u.stops, flt := { s.flt with fenced := u.flt.fenced }, xings := u.xings, slices := u.slices
        pwr := { s.pwr with ports := u.pwr.ports }, out := u.out } := by
  obtain ⟨v, hv, hsend⟩ := s.takeMap_mapped y h
  have hheld : ∀ t, ((s.takeMap y h).stop t).mheld = [] := fun t => (hsend.mheld t).trans (hv.mheld he.mheld t)
  have hall : v.Sends ((s.takeMap y h).resumeRow y) := hsend.trans (State.resumeRow_sends hheld y)
  refine ⟨_, exec_rowRemapDrained_takes hrun hh (he.rowDrained y) ht, fun x hx => ?_, ?_⟩
  · have hrow : (s.kept ((s.takeMap y h).resumeRow y)).row y = v.row y :=
      State.row_congr (u := s.kept _) (congrArg State.build hv.only).symm hall.rows y
    have hphys : (s.kept ((s.takeMap y h).resumeRow y)).physX x y = v.physX x y := by
      unfold State.physX; rw [hrow]
    have hq : ((s.kept ((s.takeMap y h).resumeRow y)).stop (tileId x y)).q = (s.carried (v.physX x y) y).q :=
      (hall.q _).trans (by rw [hv.stop_carried hx]; rfl)
    rw [hq, hphys]
    unfold State.carried
    cases s.logical (v.physX x y) y <;> rfl
  · rw [hall.only, hv.only]
    rfl

/-- The time limit gives the new map up and reports 0x0106 for block unit 1. -/
theorem timeout_gives_map_up (ht : h.deadline ≤ s.ft) :
    ∃ u f l, exec (.rowRemapTimeout y) s = .next u ∧ u.row y = { s.row y with hold := none } ∧ (∀ z, z ≠ y → u.row z = s.row z) ∧
      u.out = s.out ++ .fault f :: l ∧ f.code = 0x0106 ∧ f.unit = 0xA001 ∧ f.cls = BitVec.ofNat 2 (faultClass 0x0106) := by
  obtain ⟨f, hf, hcode, hunit, hcls⟩ := s.mapGivenUp_out y
  obtain ⟨l, hl⟩ := ((s.mapGivenUp y).resumeRow_grows y).out
  have hu := State.kept_resumeRow_row (s.mapGivenUp_rows y)
  refine ⟨_, f, l, exec_rowRemapTimeout_givesUp hrun hh ht, (hu y).trans (s.row_setRow_self y _),
    fun z hz => (hu z).trans (s.row_setRow_ne _ hz), ?_, hcode, hunit, hcls⟩
  rw [hf, List.append_assoc] at hl
  exact hl.symm

end

/-- Settles O20: nothing that resumes after a hold touches the repair map (`resumeRow_grows`), and on an empty die the M-plane's senders alone go
on (`resumeRow_sends`), so that the stops are those that `takeMap` carries over. -/
theorem rowsTakeTheirMaps : Obligations.RowsTakeTheirMaps := by
  unfold Obligations.RowsTakeTheirMaps
  exact ⟨fun _ _ _ hrun hd hh ht => drained_row_takes_map hrun hh hd ht,
    fun _ _ _ hrun he hh ht => empty_row_carries_stops hrun hh he ht,
    fun _ _ _ hrun hh hw => exec_rowRemapDrained_waits hrun hh hw,
    fun _ _ _ hrun hh ht => timeout_gives_map_up hrun hh ht,
    fun _ _ _ => rfl,
    fun _ _ s hx hcol => s.physX_eq_self hx hcol,
    fun _ _ s hx hy => s.logical_physX hx hy⟩

end Sys2Proof.Machine
end

section
/-! PROOF. Steering (R50, R51): the burst of a steering period, what its result makes of the trim, and what the accumulated error makes of the
out-of-bound flag. -/

namespace Sys2Proof.Machine

theorem clampI_eq_max_min {lo hi : Int} (h : lo ≤ hi) (v : Int) : clampI lo hi v = max lo (min hi v) := by
  unfold clampI
  split
  · omega
  · split <;> omega

/-! ### A burst starts (R45) -/

theorem startBurst_burst (s : State) (n : Nat) (use : BurstUse) :
    (startBurst s n use).tide.burst.get? n =
      some { use := use, sent := 1, done := 0, c1 := [], best := none, next := s.fc + 2000 } :=
  Tab.get?_set_self _ _ _

theorem startBurst_linksBut (s : State) (n : Nat) (use : BurstUse) : s.linksBut (startBurst s n use) n :=
  fun j hj => State.modLink_link_ne _ n j _ hj

theorem exec_tideSteerPeriod_due {s : State} {d : Nat} (hready : s.ready = true) (hdue : s.tide.steerDue = some d) (hd : d ≤ s.fc)
    (hlocked : s.tide.state = 2) (hchild : s.tide.child = true) :
    exec .tideSteerPeriod s =
      .next (startBurst (s.modTide fun t => { t with steerDue := some (d + msFc) }) s.tideLink .steer) := by
  have hexec : exec .tideSteerPeriod s = execTideSteerPeriod s := rfl
  rw [hexec, execTideSteerPeriod, tideAct_ready hready]
  simp only [hdue, hd, hlocked, hchild, and_self, if_true]
  rfl

/-! ### A burst ends (R45, R50) -/

theorem exec_tideBurstComplete_done {s : State} {n : Nat} {b : Burst} {r o d : Int} (hlink : s.linkRuns n)
    (hburst : s.tide.burst.get? n = some b) (hdone : b.done = 8) (hbest : b.best = some (r, o, d)) :
    exec (.tideBurstComplete n) s = .next { burstDone s n b o d with pending := s.pending, build := s.build } := by
  obtain ⟨hready, hn⟩ := hlink
  have hexec : exec (.tideBurstComplete n) s = execTideBurstComplete n s := rfl
  rw [hexec, execTideBurstComplete, if_pos hn, tideAct_ready hready]
  simp only [hburst, hbest, hdone, if_true]

/-- From tide `t` to `v` the steering burst on link `n`, of error `o`, has ended and moved the trim (R50); what R51 makes of the accumulated
error is still to come. -/
structure Tide.Steered (t v : Tide) (n : Nat) (o : Int) : Prop where
  trim : v.trim = max (-4000) (min 4000 (t.trim + 10 * (o - t.errPrev) + 10 * o))
  errPrev : v.errPrev = o
  sat : v.sat = (t.sat || decide (4000 < t.trim + 10 * (o - t.errPrev) + 10 * o ∨ t.trim + 10 * (o - t.errPrev) + 10 * o < -4000))
  burst : v.burst.get? n = none
  only : v = { t with
    burst := v.burst, ldly := v.ldly, ofs := v.ofs, trim := v.trim, sat := v.sat, errPrev := v.errPrev }

namespace Tide.Steered
variable {t v : Tide} {n : Nat} {o : Int} (h : t.Steered v n o)
include h

theorem heard : v.heard = t.heard := by rw [h.only]
theorem oob : v.oob = t.oob := by rw [h.only]
theorem suspended : v.suspended = t.suspended := by rw [h.only]
theorem count : v.count = t.count := by rw [h.only]
theorem phase : v.phase = t.phase := by rw [h.only]
theorem state : v.state = t.state := by rw [h.only]

end Tide.Steered

/-- A LOCKED child's result on the link that carries its tide moves the trim, is recorded as an input, and goes into the accumulated error. -/
theorem steerStep_locked {s : State} {n : Nat} {o : Int} (hchild : s.tide.child = true) (hlocked : s.tide.state = 2)
    (hn : n = s.tideLink) :
    ∃ v, steerStep s n o = takeAccErr v n o ∧ v = { s with
      tide := { s.tide with
        trim := (newTrim s.tide.trim s.tide.errPrev o).1, sat := s.tide.sat || (newTrim s.tide.trim s.tide.errPrev o).2
        errPrev := o }
      rake := v.rake } := by
  have hsteer : (s.tide.child && s.tide.state == 2 && n == s.tideLink) = true := by simp [hchild, hlocked, hn]
  rw [steerStep, if_pos hsteer]
  refine ⟨_, rfl, ?_⟩
  obtain ⟨k, hk⟩ := State.input_eq (s.modTide fun t => { t with
    trim := (newTrim s.tide.trim s.tide.errPrev o).1, sat := t.sat || (newTrim s.tide.trim s.tide.errPrev o).2
    errPrev := o }) (unitId uBlock 0) 4 (BitVec.ofInt 64 (newTrim s.tide.trim s.tide.errPrev o).1).toNat 0
  rw [hk]
  rfl

/-- The burst of a LOCKED child on the link that carries its tide steers, and then the accumulated error is taken. -/
theorem burstDone_steers {s : State} {n : Nat} {b : Burst} {o d : Int} (huse : b.use = .steer) (hchild : s.tide.child = true)
    (hlocked : s.tide.state = 2) (hn : n = s.tideLink) :
    ∃ v, burstDone s n b o d = takeAccErr v n o ∧ s.tide.Steered v.tide n o ∧ v = { s with tide := v.tide, rake := v.rake } := by
  unfold burstDone
  extract_lets s1
  obtain ⟨v, hv, honly⟩ := steerStep_locked (s := s1) (n := n) (o := o) hchild hlocked hn
  simp only [huse]
  refine ⟨v, hv, ?_⟩
  rw [honly]
  exact ⟨⟨clampI_eq_max_min (by decide) _, rfl, rfl, Tab.get?_del_self _ _, rfl⟩, rfl⟩

/-! ### A block unit's report (R454 to R456, R598) -/

theorem State.unitTile_blk (s : State) {idx : Nat} (h : idx < 4096) : s.unitTile (unitId uBlock idx) = ctlTile := by
  have htype : unitId uBlock idx / 4096 = 10 := by simp only [unitId, uBlock]; omega
  simp [State.unitTile, htype]

theorem State.raiseBlk_stopsBut (s : State) {idx : Nat} (h : idx < 4096) (code detN detV : Nat) :
    s.stopsBut (s.raiseBlk idx code detN detV) ctlTile :=
  fun j hj => s.raise_stop_ne _ _ _ _ _ _ (by rw [s.unitTile_blk h]; exact hj)

theorem State.raiseBlk_reported (s : State) (idx code detN detV : Nat) :
    s.reported (s.raiseBlk idx code detN detV) (unitId uBlock idx) code :=
  ⟨_, rfl, rfl, rfl, rfl, rfl⟩

/-! ### The accumulated error (R51) -/

theorem takeAccErr_within {s : State} {n : Nat} {err : Int} (h : ((Tab.get (0, 0) s.tide.heard n).2 + err).natAbs ≤ 8) :
    takeAccErr s n err = s.modTide fun t => { t with accErr := (Tab.get (0, 0) s.tide.heard n).2 + err } :=
  if_neg (Nat.not_lt.mpr h)

theorem takeAccErr_beyond {s : State} {n : Nat} {err : Int} (h : 8 < ((Tab.get (0, 0) s.tide.heard n).2 + err).natAbs) :
    takeAccErr s n err = (s.modTide fun t => { t with
      accErr := (Tab.get (0, 0) s.tide.heard n).2 + err, oob := true, suspended := true }).raiseBlk 0 0x0203 0 0 :=
  if_pos h

theorem takeAccErr_reported {s : State} {n : Nat} {err : Int} (h : 8 < ((Tab.get (0, 0) s.tide.heard n).2 + err).natAbs) :
    s.reported (takeAccErr s n err) 0xA000 0x0203 := by
  rw [takeAccErr_beyond h]
  exact State.raiseBlk_reported _ 0 0x0203 0 0

theorem takeAccErr_stopsBut (s : State) (n : Nat) (err : Int) : s.stopsBut (takeAccErr s n err) ctlTile := by
  unfold takeAccErr
  dsimp only
  split
  · exact State.raiseBlk_stopsBut _ (by decide) 0x0203 0 0
  · exact fun _ _ => rfl

/-! ### The steering burst's end -/

theorem exec_tideBurstComplete_steers {n : Nat} {s : State} {b : Burst} {r o d : Int} (hlink : s.linkRuns n)
    (hburst : s.tide.burst.get? n = some b) (huse : b.use = .steer) (hdone : b.done = 8) (hbest : b.best = some (r, o, d))
    (hchild : s.tide.child = true) (hlocked : s.tide.state = 2) (hn : n = s.tideLink) :
    ∃ v, exec (.tideBurstComplete n) s = .next { takeAccErr v n o with pending := s.pending, build := s.build } ∧
      s.tide.Steered v.tide n o ∧ v = { s with tide := v.tide, rake := v.rake } := by
  obtain ⟨v, hv, hsteered, honly⟩ := burstDone_steers (o := o) (d := d) huse hchild hlocked hn
  exact ⟨v, hv ▸ exec_tideBurstComplete_done hlink hburst hdone hbest, hsteered, honly⟩

/-- Settles O3: the end of a LOCKED child's steering burst is the trim's step (`Tide.Steered`) and then `takeAccErr`, which R51's bound splits. -/
theorem tideSteers : Obligations.TideSteers := by
  unfold Obligations.TideSteers
  refine ⟨fun s d hready hdue hd hlocked hchild => ?_,
    fun n s b r o d hlink hburst huse hdone hbest hchild hlocked hn hacc => ?_,
    fun n s b r o d hlink hburst huse hdone hbest hchild hlocked hn hacc => ?_⟩
  · exact ⟨_, exec_tideSteerPeriod_due hready hdue hd hlocked hchild, rfl, startBurst_burst _ _ _, rfl, startBurst_linksBut _ _ _⟩
  · obtain ⟨v, hexec, hsteered, honly⟩ := exec_tideBurstComplete_steers hlink hburst huse hdone hbest hchild hlocked hn
    rw [← hsteered.heard] at hacc ⊢
    rw [takeAccErr_within hacc] at hexec
    refine ⟨_, hexec, hsteered.trim, hsteered.errPrev, hsteered.sat, rfl, hsteered.oob, hsteered.suspended, hsteered.count,
      hsteered.phase, hsteered.state.trans hlocked, hsteered.burst, ?_⟩
    rw [honly]
    rfl
  · obtain ⟨v, hexec, hsteered, honly⟩ := exec_tideBurstComplete_steers hlink hburst huse hdone hbest hchild hlocked hn
    rw [← hsteered.heard] at hacc ⊢
    have hreported := takeAccErr_reported hacc
    have hstopsBut := takeAccErr_stopsBut v n o
    rw [takeAccErr_beyond hacc] at hexec hreported hstopsBut
    have hout : v.out = s.out := by rw [honly]
    have hstops : v.stops = s.stops := by rw [honly]
    refine ⟨_, hexec, rfl, rfl, ?_, hsteered.trim, hsteered.errPrev, hsteered.sat, rfl, hsteered.count, hsteered.phase,
      hsteered.state.trans hlocked, hsteered.burst, ?_, fun j hj => ?_⟩
    · obtain ⟨f, hf, hcode, hunit, hcls, htick⟩ := hreported
      exact ⟨f, hf.trans (congrArg (· ++ _) hout), hcode, hunit, hcls, htick.trans (congrArg (BitVec.setWidth 32) hsteered.count)⟩
    · rw [honly]
      rfl
    · exact (hstopsBut j hj).trans (State.stop_congr hstops j)

end Sys2Proof.Machine
end

section
/-! PROOF. The tide count (R38, R593): a tick in which a read of TIDE_NOW_LO that waited in the control port's line is performed. -/

namespace Sys2Proof.Machine

theorem exec_tideTick_clocked {s : State} (h : s.clocked = true) :
    exec .tideTick s = .next { tick s with pending := s.pending, build := s.build } := by
  have hexec : exec .tideTick s = execTideTick s := rfl
  rw [hexec, execTideTick, if_pos h, act]

/-- The block as two reads of window 0 have left it, that of CHK_VAL of check unit 0, which is busy up to fc 2 (R533), and behind it that of
TIDE_NOW_LO (R59); both entered as the count stood at 2 to the 32. -/
def State.nowReadWaits : State :=
  let s := State.reset
  let entry : Entry := { count := 0x100000000, rights := 7, bind := 0 }
  { s with
    tide := { s.tide with count := 0x100000000 }
    chk := [(0, { Check.init with busy := 2 })]
    ctrl := { s.ctrl with line :=
      [.todo false { win := 0, tag := 1, wofs := 0x20008, wdata := 0 } entry,
       .todo false { win := 0, tag := 2, wofs := 0x04000, wdata := 0 } entry] } }

/-- The read is performed at fc 2, and holds the high half of the count for its window. -/
theorem tick_nowReadWaits_nowHi : Tab.get 0 (tick State.nowReadWaits).tide.nowHi 0 = 1 := by decide +kernel

/-- Refutes O1: a tick performs the requests of the control port's line that need wait no longer (R593, log entry 1801), and with them a read of
TIDE_NOW_LO that stood behind a busy check unit's (`State.nowReadWaits`): the tick changes the held high half too, where the statement has
nothing of the tide change but count and phase. -/
theorem not_tideCountMovesAndReads : ¬ Obligations.TideCountMovesAndReads := by
  unfold Obligations.TideCountMovesAndReads
  rintro ⟨htick, -⟩
  obtain ⟨u, hexec, htide, -⟩ := htick State.nowReadWaits rfl rfl
  rw [exec_tideTick_clocked rfl] at hexec
  obtain rfl := Host.Outcome.next.inj hexec
  have hkept : (tick State.nowReadWaits).tide.nowHi = [] := (congrArg Tide.nowHi htide :)
  have hheld := tick_nowReadWaits_nowHi
  rw [hkept] at hheld
  exact absurd hheld (by decide)

end Sys2Proof.Machine
end

section
/-! PROOF. The sluice (R121 to R123): its evaluation, and the grant that brings it a floor (R122, R552). -/

namespace Sys2Proof.Machine

/-! ### A change of one stop, with what leaves the block -/

theorem State.modStop_stopOnly (s : State) (t : Nat) (f : Stop → Stop) : s.stopOnly (s.modStop t f) t :=
  ⟨rfl, fun j hj => State.modStop_stop_ne s t j f hj⟩

theorem State.modSl_stop_self (s : State) (t : Nat) (f : Sluice → Sluice) :
    (s.modSl t f).stop t = { s.stop t with sl := f (s.stop t).sl } :=
  State.modStop_stop_self s t _

theorem State.emits_nil (s : State) : s.emits [] = s :=
  congrArg (fun out => { s with out }) (List.append_nil s.out)

theorem State.emits_stop (s : State) (es : List OutEv) (t : Nat) : (s.emits es).stop t = s.stop t := rfl

theorem State.stopOnly.emits {s u : State} {t : Nat} (h : s.stopOnly u t) (es : List OutEv) : s.stopOnly (u.emits es) t := by
  obtain ⟨honly, hbut⟩ := h
  exact ⟨congrArg (State.emits · es) honly, hbut⟩

/-- What a form puts back is as it was where only a stop has changed. -/
theorem State.stopOnly.kept_eq {s u : State} {t : Nat} (h : s.stopOnly u t) : s.kept u = u := by
  obtain ⟨honly, -⟩ := h
  rw [honly]
  rfl

theorem exec_sluiceEval_due {s : State} {t : Nat} (hruns : s.stopRuns t) (htick : s.now % 16 = 0) (hphase : s.tide.phase = 0) :
    exec (.sluiceEval t) s =
      .next (s.modSl t (sluiceStep s.img.act.up s.img.act.dn (min 255 (s.heldFlits t + s.waitingFlits t)))) := by
  have hexec : exec (.sluiceEval t) s = execSluiceEval t s := rfl
  rw [hexec, execSluiceEval, atTile_runs hruns, if_pos ⟨htick, hphase⟩, State.modSl_eq, (s.modStop_stopOnly t _).kept_eq]

/-! ### A grant at its stop (R552) -/

/-- What a grant of payload `v` puts on the PWR port of tile `t` (R552): G and SLOW, where the tile has a client and the crossing is open. -/
def State.grantEvents (s : State) (t v : Nat) : List OutEv :=
  if s.clientKind t = 0 || s.shut (.pwr t) then [] else [.pwrGrant t (BitVec.ofNat 32 (b2n (bit v 60) * 2 ^ 31 + bits v 79 64))]

theorem State.grantEvents_noClient {s : State} {t : Nat} (h : s.clientKind t = 0) (v : Nat) : s.grantEvents t v = [] := by
  simp [State.grantEvents, h]

theorem State.grantEvents_open {s : State} {t : Nat} (hclient : s.clientKind t ≠ 0) (hshut : s.shut (.pwr t) = false) (v : Nat) :
    s.grantEvents t v = [.pwrGrant t (BitVec.ofNat 32 (b2n (bit v 60) * 2 ^ 31 + bits v 79 64))] := by
  simp [State.grantEvents, hclient, hshut]

/-- A grant that finds room in its crossing leaves its floor with the sluice, and itself on the PWR port. -/
theorem State.pwrGranted_room (s : State) (t v : Nat) :
    s.pwrGranted t v false = (s.modSl t fun sl => { sl with floorNext := bits v 63 61 }).emits (s.grantEvents t v) := by
  unfold State.pwrGranted State.grantEvents
  split
  · exact (State.emits_nil _).symm
  · rfl

theorem exec_pwrGrantReceived_grant {s : State} {t : Nat} {m : CMsg} (hruns : s.stopRuns t) (hkind : m.hdr.mkind = 0xD)
    (hlen : m.hdr.plen = 16) (htile : m.hdr.dtile.toNat = t) (hdir : bits (pwrVal m) 127 124 = 2) (hid : bits (pwrVal m) 111 96 = t) :
    exec (.pwrGrantReceived t m false) s =
      .next ((s.modSl t fun sl => { sl with floorNext := bits (pwrVal m) 63 61 }).emits (s.grantEvents t (pwrVal m))) := by
  have hexec : exec (.pwrGrantReceived t m false) s = execPwrGrantReceived t m false s := rfl
  rw [hexec, execPwrGrantReceived, atTile_runs hruns]
  dsimp only
  rw [if_pos ⟨hkind, hlen, htile⟩, if_pos ⟨hdir, hid⟩, State.pwrGranted_room, State.modSl_eq,
    ((s.modStop_stopOnly t _).emits _).kept_eq]

/-- Settles O10: an evaluation that is due is `sluiceStep` at its stop and nothing else, and a grant is a new floor there and the grant's
events (`State.grantEvents`). -/
theorem sluiceEvaluates : Obligations.SluiceEvaluates := by
  unfold Obligations.SluiceEvaluates
  refine ⟨fun t s hruns htick hphase => ?_, fun t m s hruns hkind hlen htile hdir hid => ?_⟩
  · refine ⟨_, exec_sluiceEval_due hruns htick hphase, ?_⟩
    rw [State.modSl_stop_self]
    exact ⟨rfl, rfl, rfl, rfl, rfl, rfl, s.modStop_stopOnly t _⟩
  · refine ⟨_, exec_pwrGrantReceived_grant hruns hkind hlen htile hdir hid, ?_, fun hclient => ?_, fun hclient hshut => ?_,
      (s.modStop_stopOnly t _).emits _⟩
    · rw [State.emits_stop, State.modSl_stop_self]
    · simp [State.grantEvents_noClient hclient]
    · simp [State.grantEvents_open hclient hshut]

end Sys2Proof.Machine
end

section
/-! PROOF. The memory plane's interleave (R311): the mix of a granule's bits loses nothing, a request of an M-port carries its granule's slice
and row, and a slice port presents them. -/

namespace Sys2Proof.Machine

/-! ### The formula (R311) -/

/-- The `h` of R311: a granule's number with its copies shifted down by 7 and by 14. -/
def granuleMix (g : Nat) : Nat := g ^^^ (g >>> 7) ^^^ (g >>> 14)

theorem granuleMap_eq (g : Nat) : granuleMap g = (granuleMix g % 96, granuleMix g / 96) := rfl

theorem granuleMix_testBit (g i : Nat) :
    (granuleMix g).testBit i = (g.testBit i ^^ g.testBit (7 + i) ^^ g.testBit (14 + i)) := by
  simp only [granuleMix, Nat.testBit_xor, Nat.testBit_shiftRight]

theorem granuleMix_xor (g h : Nat) : granuleMix (g ^^^ h) = granuleMix g ^^^ granuleMix h := by
  simp only [granuleMix, Nat.shiftRight_xor_distrib]
  ac_rfl

theorem testBit_above_log2 (g : Nat) {i : Nat} (hi : g.log2 < i) : g.testBit i = false :=
  Nat.testBit_lt_two_pow (Nat.lt_of_lt_of_le Nat.lt_log2_self (Nat.pow_le_pow_right Nat.zero_lt_two hi))

/-- The shifted copies do not reach the top bit of a granule's number, which the mix keeps. -/
theorem granuleMix_testBit_log2 {g : Nat} (hg : g ≠ 0) : (granuleMix g).testBit g.log2 = true := by
  rw [granuleMix_testBit, Nat.testBit_log2 hg, testBit_above_log2 g (i := 7 + g.log2) (by omega),
    testBit_above_log2 g (i := 14 + g.log2) (by omega)]
  rfl

theorem eq_zero_of_granuleMix_eq_zero {g : Nat} (h : granuleMix g = 0) : g = 0 := by
  refine Decidable.byContradiction fun hg => ?_
  have htop := granuleMix_testBit_log2 hg
  rw [h, Nat.zero_testBit] at htop
  exact Bool.false_ne_true htop

theorem granuleMix_injective : Function.Injective granuleMix := by
  intro g h hgh
  have hmix : granuleMix (g ^^^ h) = 0 := by rw [granuleMix_xor, hgh, Nat.xor_self]
  have hzero : g ^^^ h = 0 := eq_zero_of_granuleMix_eq_zero hmix
  calc g = g ^^^ h ^^^ h := by rw [Nat.xor_assoc, Nat.xor_self, Nat.xor_zero]
    _ = h := by rw [hzero, Nat.zero_xor]

theorem granuleMap_slice_lt (g : Nat) : (granuleMap g).1 < 96 := Nat.mod_lt _ (by decide)

/-- Slice and row are remainder and quotient, which give the mix again. -/
theorem granuleMap_injective : Function.Injective granuleMap := by
  intro g h hgh
  rw [granuleMap_eq, granuleMap_eq, Prod.mk.injEq] at hgh
  obtain ⟨hslice, hrow⟩ := hgh
  apply granuleMix_injective
  rw [← Nat.mod_add_div (granuleMix g) 96, hslice, hrow, Nat.mod_add_div]

/-! ### A request enters the M-port's line (R310) -/

theorem State.watch_of_nil {s : State} (h : s.img.act.watch = []) (unit plane addr n c : Nat) : s.watch unit plane addr n c = s := by
  rw [State.watch, h]
  rfl

/-- Without watchpoints, the M-port's line grows by the request to the granule's slice and row and to the byte in it. -/
theorem State.mpEnter_line {s : State} (h : s.img.act.watch = []) (t : Nat) (o : MOrig) (k : MKind) (a n : Nat) (d : List Byte) :
    ((s.mpEnter t o k a n d).stop t).mp.line = (s.stop t).mp.line ++
      [.req { (default : MReq) with
        orig := o, kind := k, slice := (granuleMap (a % 2 ^ 40 / 256)).1, row := (granuleMap (a % 2 ^ 40 / 256)).2, lo := a % 256, len := n,
        data := d }] := by
  simp only [State.mpEnter, State.watch_of_nil h, State.modMp_eq, State.modStop_stop_self]

/-! ### A slice port presents a request (R313, R589) -/

theorem Attach.next_single {a : Attach} {m : MMsg} (h : a.queue = [m]) : a.next = some m := by
  have hheads : headsOf [m] [] = [m] := by simp [headsOf]
  simp only [Attach.next, h, hheads]
  cases hg : m.guaranteed <;> simp [hg]

/-- What a slice port shows of request `m` under tag `tag` (R311, R589): the row and the byte in it, and a WRITE's bytes in their place. -/
def slicePresented (sl tag : Nat) (m : MMsg) : OutEv :=
  .slq sl (m.kind == .write) (m.row * 256 + m.lo) m.len tag (if m.kind == .write then List.replicate m.lo 0 ++ m.data else [])

theorem exec_sliceRequestPresent_single {s : State} {sl : Nat} {m : MMsg} (hruns : s.running = true) (hsl : sl < nSlices s.build)
    (hshut : s.shut (.slice sl) = false) (hbusy : (s.attach sl).busy = false) (hqueue : (s.attach sl).queue = [m])
    (hpend : (s.attach sl).pend = []) :
    ∃ u, exec (.sliceRequestPresent sl) s = .next u ∧ u.out = s.out ++ [slicePresented sl 0 m] := by
  have hexec : exec (.sliceRequestPresent sl) s = execSliceRequestPresent sl s := rfl
  have htag : firstBelow (fun k => !(s.attach sl).pend.any fun p => p.tag == k) 32 = some 0 := by rw [hpend]; rfl
  rw [hexec, execSliceRequestPresent, atSlice_runs hruns hsl]
  simp only [hbusy, hshut, Attach.next_single hqueue, htag]
  exact ⟨_, rfl, rfl⟩

/-- Settles O28: a granule's mix keeps its top bit and is linear, so that it is one to one, and remainder and quotient by 96 give it again; a
request carries that slice and row from the M-port's line to the slice port. -/
theorem interleaveIsOneToOne : Obligations.InterleaveIsOneToOne := by
  unfold Obligations.InterleaveIsOneToOne
  refine ⟨granuleMap_slice_lt, fun _ _ h => granuleMap_injective h, fun _ => rfl, fun t a n o k d s hwatch => ?_,
    fun sl m s hruns hsl hshut hbusy hqueue hpend => ?_⟩
  · exact ⟨_, State.mpEnter_line hwatch t o k a n d, rfl, rfl⟩
  · obtain ⟨u, hexec, hout⟩ := exec_sliceRequestPresent_single hruns hsl hshut hbusy hqueue hpend
    exact ⟨u, _, hexec, hout⟩

end Sys2Proof.Machine
end

section
/-! PROOF. Scan and trace (R496 to R508, R521, R528): the writes and reads of the HRV and RAKE pages that the control port performs at once, a
record's way from its source to the rake's buffer, and the two sinks. -/

namespace Sys2Proof.Machine

/-! ### Bytes in pieces -/

theorem ceilDiv_add_self {n : Nat} (hn : 0 < n) (k : Nat) : ceilDiv (k + n) n = ceilDiv k n + 1 := by
  rw [ceilDiv, ceilDiv, ← Nat.add_div_right _ hn]
  congr 1
  omega

theorem ceilDiv_zero {n : Nat} (hn : 0 < n) : ceilDiv 0 n = 0 := by
  rw [ceilDiv, Nat.zero_add, Nat.div_eq_of_lt (Nat.sub_lt hn Nat.one_pos)]

theorem ceilDiv_of_le {n k : Nat} (hk : 0 < k) (h : k ≤ n) : ceilDiv k n = 1 := by
  rw [ceilDiv]
  exact Nat.div_eq_of_lt_le (by omega) (by omega)

theorem flatten_chunksF {α : Type} {n : Nat} (hn : 0 < n) (f : Nat) (bs : List α) (h : bs.length ≤ f) :
    (chunksF n f bs).flatten = bs := by
  induction f generalizing bs with
  | zero => rw [List.eq_nil_of_length_eq_zero (Nat.le_zero.mp h)]; rfl
  | succ f ih =>
    cases bs with
    | nil => rfl
    | cons b bs =>
      have hrest : ((b :: bs).drop n).length ≤ f := by
        rw [List.length_drop]
        omega
      rw [chunksF, List.flatten_cons, ih _ hrest, List.take_append_drop]
      exact List.cons_ne_nil b bs

theorem length_chunksF {α : Type} {n : Nat} (hn : 0 < n) (f : Nat) (bs : List α) (h : bs.length ≤ f) :
    (chunksF n f bs).length = ceilDiv bs.length n := by
  induction f generalizing bs with
  | zero => rw [Nat.le_zero.mp h, ceilDiv_zero hn]; rfl
  | succ f ih =>
    cases bs with
    | nil => rw [List.length_nil, ceilDiv_zero hn]; rfl
    | cons b bs =>
      have hrest : ((b :: bs).drop n).length ≤ f := by
        rw [List.length_drop]
        omega
      rw [chunksF, List.length_cons, ih _ hrest, List.length_drop]
      · by_cases hlong : n ≤ (b :: bs).length
        · rw [← ceilDiv_add_self hn, Nat.sub_add_cancel hlong]
        · rw [Nat.sub_eq_zero_of_le (by omega), ceilDiv_of_le (k := (b :: bs).length) (Nat.succ_pos _) (by omega), ceilDiv_zero hn]
      · exact List.cons_ne_nil b bs

theorem flatten_chunks {α : Type} {n : Nat} (hn : 0 < n) (bs : List α) : (chunks n bs).flatten = bs :=
  flatten_chunksF hn _ bs (Nat.le_refl _)

theorem length_chunks {α : Type} {n : Nat} (hn : 0 < n) (bs : List α) : (chunks n bs).length = ceilDiv bs.length n :=
  length_chunksF hn _ bs (Nat.le_refl _)

/-- What is no longer than a piece is one piece. -/
theorem chunks_single {α : Type} {n : Nat} {bs : List α} (hpos : 0 < bs.length) (h : bs.length ≤ n) : chunks n bs = [bs] := by
  have hn : 0 < n := Nat.lt_of_lt_of_le hpos h
  obtain ⟨c, hc⟩ := List.length_eq_one_iff.mp ((length_chunks hn bs).trans (ceilDiv_of_le hpos h))
  have hflat := flatten_chunks hn bs
  rw [hc, List.flatten_singleton] at hflat
  rw [hc, hflat]

theorem length_slice (bs : List Byte) (i n : Nat) : (slice bs i n).length = n := by
  simp only [slice, List.length_append, List.length_replicate, List.length_take]
  omega

theorem length_recBytes (time : Word64) (typ unit nraw a b c : Nat) : (recBytes time typ unit nraw a b c).length = 32 := by
  simp only [recBytes, List.length_append, length_bytesOf]

theorem length_rawRecs (bs : List Byte) : (rawRecs bs).length = 32 * ceilDiv bs.length 32 := length_slice _ _ _

/-- The raw records of `ws` words, eight words in each (R500). -/
theorem length_rawRecs_words (ws : List Word) :
    (rawRecs (ws.flatMap fun w => bytesOf 4 w.toNat)).length = 32 * ceilDiv ws.length 8 := by
  have hbytes : (ws.flatMap fun w => bytesOf 4 w.toNat).length = ws.length * 4 := by
    simp [List.length_flatMap, List.map_const']
  rw [length_rawRecs, hbytes, ceilDiv, ceilDiv]
  omega

/-! ### A record at its source (R501, R502) -/

/-- Rake `r` is `k` but for what the sources hold and what they have lost. -/
def Rake.sourcesOnly (k r : Rake) : Prop :=
  r = { k with bufs := r.bufs, lostBy := r.lostBy, gaps := r.gaps, lost := r.lost }

theorem Rake.sourcesOnly.trig {k r : Rake} (h : k.sourcesOnly r) : r.trig = k.trig := by rw [h]

theorem Rake.sourcesOnly.state {k r : Rake} (h : k.sourcesOnly r) : r.state = k.state := by rw [h]

theorem Rake.sourcesOnly.armed {k r : Rake} (h : k.sourcesOnly r) : r.armed = k.armed := by rw [h]

theorem State.trace_sourcesOnly (s : State) (unit typ : Nat) (cls : Option Nat) (a b c : Nat) (raws : List Byte) :
    ∃ r, s.rake.sourcesOnly r ∧ s.trace unit typ cls a b c raws = { s with rake := r } := by
  obtain ⟨r, hr⟩ := s.trace_eq unit typ cls a b c raws
  have hrake : (s.trace unit typ cls a b c raws).rake = r := by rw [hr]
  refine ⟨r, hrake ▸ ?_, hr⟩
  unfold State.trace Rake.sourcesOnly
  split
  · dsimp only [State.modRake]
    split <;> rfl
  · rfl

/-- A request leaves no more than a record of its arrival, and that in reference mode only (R514). -/
theorem State.inputReq_sourcesOnly (s : State) (wr : Bool) (q : Req) :
    ∃ r, s.rake.sourcesOnly r ∧ (s.refMode = false → r = s.rake) ∧ s.inputReq wr q = { s with rake := r } := by
  unfold State.inputReq State.input
  split
  case isTrue href =>
    obtain ⟨r, hr, htrace⟩ := s.trace_sourcesOnly ..
    exact ⟨r, hr, fun h => absurd (href.symm.trans h) Bool.true_eq_false.mp, htrace⟩
  case isFalse => exact ⟨s.rake, rfl, fun _ => rfl, rfl⟩

theorem Rake.wants_of_src {r : Rake} {c : Nat} (hon : r.state = 1 ∨ r.state = 2) (hsrc : r.srcs.getLsbD c = true)
    (hmute : r.muting = false) (fc : Nat) : r.wants fc (some c) = true := by
  simp [Rake.wants, hon, hsrc, hmute]

/-- A record that is wanted and finds room at a source that has lost none joins what the source holds. -/
theorem State.trace_room {s : State} {unit : Nat} {cls : Option Nat} (hwants : s.rake.wants s.fc cls = true)
    (hlost : Tab.get? s.rake.lostBy unit = none) (hroom : (Tab.get [] s.rake.bufs unit).length < 16) (typ a b c : Nat) (raws : List Byte) :
    s.trace unit typ cls a b c raws = s.modRake fun r => { r with
      bufs := r.bufs.set unit (Tab.get [] r.bufs unit ++ [recBytes s.timeWord typ unit (raws.length / 32) a b c ++ raws])
      lostBy := r.lostBy.del unit } := by
  simp [State.trace, hwants, State.modRake, hlost, gapRecs, hroom]

/-! ### Registers of the HRV and RAKE pages (R417, R521, R523, R593) -/

/-- The block after the answer to `q`: of its units the harvest logic and the rake alone have changed, to `h` and `k`. -/
def State.hrvReply (s : State) (h : Harvest) (k : Rake) (q : Req) (code : Nat) (data : Word) : State :=
  { s with hrv := h, rake := k }.reply q.win.toNat q.tag code data

theorem State.hrvReply_replied (s : State) (h : Harvest) (k : Rake) (q : Req) (code : Nat) (data : Word) :
    s.replied (s.hrvReply h k q code data) q code data := rfl

/-- A request that is performed at once, by `f`, and answered with no change but to the harvest logic and the rake: `f` sees the block with a
rake that the record of the arrival may have changed in its sources. -/
theorem ctlEnter_hrvReply {s : State} {ofs : Nat} {q : Req} (hq : s.serves ofs q) (wr : Bool) (f : State → State) :
    ∃ r, s.rake.sourcesOnly r ∧ (s.refMode = false → r = s.rake) ∧ ∀ h k code data,
      f { s with rake := r } = s.hrvReply h k q code data → ctlEnter wr ofs q s f = .next (s.hrvReply h k q code data) := by
  obtain ⟨hready, hshut, hline, hentry, hstalls, hofs⟩ := hq
  obtain ⟨r, hr, href, hin⟩ := s.inputReq_sourcesOnly wr q
  refine ⟨r, hr, href, fun h k code data hf => ?_⟩
  have htake : s.ctlTake wr q f = s.hrvReply h k q code data := by
    simp [State.ctlTake, hshut, hline, hentry, hstalls, hin, hf]
  rw [ctlEnter, if_neg (fun h => h hofs), if_neg (by rw [ready_phase hready]; decide), runAct_ready hready, htake]
  rfl

theorem dbgWrite_allowed {s : State} {q : Req} (h : s.hasDbg q.win.toNat = true) (f : State → State × Nat) :
    dbgWrite q f s = (f s).1.replyW q (f s).2 := by
  simp [dbgWrite, h, ctlWrite]

theorem dbgWrite_refused {s : State} {q : Req} (h : s.hasDbg q.win.toNat = false) (f : State → State × Nat) :
    dbgWrite q f s = s.replyW q rDenied := by
  simp [dbgWrite, h]

theorem dbgRead_allowed {s : State} {q : Req} (h : s.hasDbg q.win.toNat = true) (f : State → State × Word) :
    dbgRead q f s = (f s).1.reply q.win.toNat q.tag rOk (f s).2 := by
  simp [dbgRead, h]

/-- A write through a window with DBG does what its register's function `f` does, and gets `f`'s code. -/
theorem ctlAct_dbgWrite {s : State} {ofs : Nat} {q : Req} (hq : s.serves ofs q) (hdbg : s.hasDbg q.win.toNat = true)
    (f : State → State × Nat) :
    ∃ r, s.rake.sourcesOnly r ∧ (s.refMode = false → r = s.rake) ∧ ∀ h k code,
      f { s with rake := r } = ({ s with hrv := h, rake := k }, code) →
      ctlAct ofs q s (dbgWrite q f) = .next (s.hrvReply h k q code 0) := by
  obtain ⟨r, hr, href, henter⟩ := ctlEnter_hrvReply hq true (dbgWrite q f)
  refine ⟨r, hr, href, fun h k code hf => henter h k code 0 ?_⟩
  rw [dbgWrite_allowed (s := { s with rake := r }) hdbg, hf]
  rfl

/-! ### The scan (R496, R521) -/

theorem exec_scanSelWrite_selects {s : State} {q : Req} (hq : s.serves 0x60024 q) (hdbg : s.hasDbg q.win.toNat = true) :
    ∃ r, exec (.scanSelWrite q) s =
      .next (s.hrvReply { s.hrv with scanUnit := q.wdata.extractLsb' 0 16, scanPos := 0 } r q rOk 0) := by
  obtain ⟨r, -, -, hact⟩ := ctlAct_dbgWrite hq hdbg fun s =>
    (s.modHrv fun h => { h with scanUnit := q.wdata.extractLsb' 0 16, scanPos := 0 }, rOk)
  exact ⟨r, hact _ r rOk rfl⟩

theorem exec_scanSelWrite_refused {s : State} {q : Req} (hq : s.serves 0x60024 q) (hdbg : s.hasDbg q.win.toNat = false) :
    ∃ r, exec (.scanSelWrite q) s = .next (s.hrvReply s.hrv r q rDenied 0) := by
  obtain ⟨r, -, -, henter⟩ := ctlEnter_hrvReply hq true (dbgWrite q fun s =>
    (s.modHrv fun h => { h with scanUnit := q.wdata.extractLsb' 0 16, scanPos := 0 }, rOk))
  exact ⟨r, henter _ r rDenied 0 (dbgWrite_refused (s := { s with rake := r }) hdbg _)⟩

/-- A read in a freeze gives the word at the read's place, of the stream as the record of the read's arrival has left it. -/
theorem exec_scanDataRead_frozen {s : State} {q : Req} (hq : s.serves 0x60028 q) (hdbg : s.hasDbg q.win.toNat = true)
    (hfrozen : 2 ≤ s.hrv.state) :
    ∃ r, (s.refMode = false → r = s.rake) ∧ exec (.scanDataRead q) s =
      .next (s.hrvReply { s.hrv with scanPos := s.hrv.scanPos + 1 } r q rOk
        (nth 0 ({ s with rake := r }.scanStream q.win.toNat s.hrv.scanUnit.toNat) s.hrv.scanPos)) := by
  obtain ⟨r, -, href, henter⟩ := ctlEnter_hrvReply hq false _
  refine ⟨r, href, henter _ r rOk _ ?_⟩
  rw [if_neg (by simp [Nat.not_lt.mpr hfrozen]), dbgRead_allowed (s := { s with rake := r }) hdbg]
  rfl

theorem exec_scanDataRead_busy {s : State} {q : Req} (hq : s.serves 0x60028 q) (hdbg : s.hasDbg q.win.toNat = true)
    (hlive : s.hrv.state < 2) :
    ∃ r, exec (.scanDataRead q) s = .next (s.hrvReply s.hrv r q rBusy 0) := by
  obtain ⟨r, -, -, henter⟩ := ctlEnter_hrvReply hq false _
  refine ⟨r, henter _ r rBusy 0 ?_⟩
  have hdbg' : ({ s with rake := r } : State).hasDbg q.win.toNat = true := hdbg
  rw [if_pos (by simp [hdbg', hlive])]
  rfl

/-- The head word of a unit's stream carries the unit id in its high half (R496). -/
theorem State.scanStream_head_unit {s : State} {u : BitVec 16} (h : s.hasUnit u.toNat = true) (w : Nat) :
    (nth 0 (s.scanStream w u.toNat) 0).extractLsb' 16 16 = u := by
  have hhead : nth 0 (s.scanStream w u.toNat) 0 = pack [(16, u.toNat), (16, (s.scanRegions w u.toNat).length)] := by
    simp [State.scanStream, h, nth]
  have hu := u.isLt
  rw [hhead]
  apply BitVec.eq_of_toNat_eq
  simp only [pack, List.foldl, BitVec.extractLsb'_toNat, BitVec.toNat_ofNat, Nat.shiftRight_eq_div_pow]
  omega

/-- A window with DBG begins an emission in a freeze to a trace port: of the selected unit, or with ALL of every unit (R497). -/
theorem exec_scanTrace_emits {s : State} {q : Req} {all : Bool} (hq : s.serves 0x6002C q) (hdbg : s.hasDbg q.win.toNat = true)
    (htrace : q.wdata.getLsbD 31 = true) (hall : q.wdata.getLsbD 30 = all) (hfrozen : 2 ≤ s.hrv.state) (hidle : s.hrv.scanTodo = [])
    (hsink : s.img.act.trace.sink = 2) (href : s.refMode = false) :
    exec (.scanTrace q) s = .next (s.hrvReply { s.hrv with
      scanAll := all
      scanTodo := (if all then s.allUnits else [s.hrv.scanUnit.toNat]).flatMap (s.stateRecs q.win.toNat) } s.rake q rOk 0) := by
  obtain ⟨r, -, hr, hact⟩ := ctlAct_dbgWrite hq hdbg fun s => s.scanCtl q
  obtain rfl := hr href
  subst hall
  refine hact _ _ rOk ?_
  simp [State.scanCtl, htrace, Nat.not_lt.mpr hfrozen, hidle, hsink, State.modHrv]

theorem exec_scanTrace_noPort {s : State} {q : Req} (hq : s.serves 0x6002C q) (hdbg : s.hasDbg q.win.toNat = true)
    (htrace : q.wdata.getLsbD 31 = true) (hfrozen : 2 ≤ s.hrv.state) (hidle : s.hrv.scanTodo = []) (hsink : s.img.act.trace.sink ≠ 2) :
    ∃ r, exec (.scanTrace q) s = .next (s.hrvReply s.hrv r q rError 0) := by
  obtain ⟨r, -, -, hact⟩ := ctlAct_dbgWrite hq hdbg fun s => s.scanCtl q
  refine ⟨r, hact _ _ rError ?_⟩
  simp [State.scanCtl, htrace, Nat.not_lt.mpr hfrozen, hidle, hsink]

/-! ### Trigger, REARM and MARK (R504, R505, R528) -/

theorem exec_rakeTrig_eq (src : Nat) (q : Option Req) (s : State) : exec (.rakeTrig src q) s = execRakeTrig src q s := rfl
theorem exec_rakeRearm_eq (q : Req) (s : State) : exec (.rakeRearm q) s = execRakeRearm q s := rfl

/-- The rake of an armed block whose trigger `src` has fired (R505, log entry 1712). -/
def State.triggered (s : State) (src : Nat) (k : Rake) : Rake :=
  { k with
    buf := k.buf ++ [recBytes s.timeWord 0x02 uHrv 0 src s.img.act.trace.post 0]
    tposVld := true, tpos := BitVec.ofNat 31 ((k.wp.toNat + k.buf.length) % s.regionRecs), armed := false, muting := true, muteAt := s.fc
    state := if s.img.act.trace.mode = 2 then 2 else k.state, postLeft := k.buf.length + 1 + s.img.act.trace.post }

theorem State.rakeTrigger_armed {s : State} {src : Nat} (htrig : s.rake.trig.getLsbD src = true) (hon : s.rake.state = 1 ∨ s.rake.state = 2)
    (harmed : s.rake.armed = true) : s.rakeTrigger src = { s with rake := s.triggered src s.rake } := by
  simp [State.rakeTrigger, htrig, hon, harmed, State.modRake, State.triggered]

theorem State.rakeTrigger_unarmed {s : State} {src : Nat} (htrig : s.rake.trig.getLsbD src = true)
    (hon : s.rake.state = 1 ∨ s.rake.state = 2) (harmed : s.rake.armed = false) :
    s.rakeTrigger src = { s with rake := { s.rake with xtrig := inc8 s.rake.xtrig } } := by
  simp [State.rakeTrigger, htrig, hon, harmed, State.modRake]

theorem State.rakeCtl_trig {s : State} {q : Req} (htrig : q.wdata.getLsbD 29 = true) (hrearm : q.wdata.getLsbD 28 = false) :
    s.rakeCtl q = (s.rakeTrigger 0, rOk) := by
  rw [State.rakeCtl, htrig, hrearm]
  rfl

theorem State.rakeCtl_rearm {s : State} {q : Req} (hwin : q.win = 0) (htrig : q.wdata.getLsbD 29 = false)
    (hrearm : q.wdata.getLsbD 28 = true) : s.rakeCtl q = (s.rearm, rOk) := by
  rw [State.rakeCtl, htrig, hrearm, hwin]
  rfl

section
variable {s : State} {q : Req} (hq : s.serves 0x70000 q) (htrig : q.wdata.getLsbD 29 = true) (hrearm : q.wdata.getLsbD 28 = false)
  (hdbg : s.hasDbg q.win.toNat = true)
include hq htrig hrearm hdbg

/-- A write of TRIG without REARM fires source 0, on the rake as the record of the write's arrival has left it. -/
theorem exec_rakeTrig_fires :
    ∃ r, s.rake.sourcesOnly r ∧ ∀ k, ({ s with rake := r } : State).rakeTrigger 0 = { s with rake := k } →
      exec (.rakeTrig 0 (some q)) s = .next (s.hrvReply s.hrv k q rOk 0) := by
  obtain ⟨r, hr, -, hact⟩ := ctlAct_dbgWrite hq hdbg fun s => s.rakeCtl q
  refine ⟨r, hr, fun k hfire => ?_⟩
  rw [exec_rakeTrig_eq, execRakeTrig, if_pos ⟨rfl, htrig⟩]
  exact hact _ k rOk (by rw [State.rakeCtl_trig htrig hrearm, hfire])

variable (hon : s.rake.state = 1 ∨ s.rake.state = 2) (hsrc : s.rake.trig.getLsbD 0 = true)
include hon hsrc

theorem exec_rakeTrig_armed (harmed : s.rake.armed = true) :
    ∃ r, s.rake.sourcesOnly r ∧ exec (.rakeTrig 0 (some q)) s = .next (s.hrvReply s.hrv (s.triggered 0 r) q rOk 0) := by
  obtain ⟨r, hr, hfires⟩ := exec_rakeTrig_fires hq htrig hrearm hdbg
  rw [← hr.trig] at hsrc
  rw [← hr.state] at hon
  rw [← hr.armed] at harmed
  exact ⟨r, hr, hfires _ (State.rakeTrigger_armed (s := { s with rake := r }) hsrc hon harmed)⟩

theorem exec_rakeTrig_unarmed (harmed : s.rake.armed = false) :
    ∃ r, s.rake.sourcesOnly r ∧
      exec (.rakeTrig 0 (some q)) s = .next (s.hrvReply s.hrv { r with xtrig := inc8 r.xtrig } q rOk 0) := by
  obtain ⟨r, hr, hfires⟩ := exec_rakeTrig_fires hq htrig hrearm hdbg
  rw [← hr.trig] at hsrc
  rw [← hr.state] at hon
  rw [← hr.armed] at harmed
  exact ⟨r, hr, hfires _ (State.rakeTrigger_unarmed (s := { s with rake := r }) hsrc hon harmed)⟩

end

theorem exec_rakeRearm_enters {q : Req} (htrig : q.wdata.getLsbD 29 = false) (hrearm : q.wdata.getLsbD 28 = true) (s : State) :
    exec (.rakeRearm q) s = ctlEnter true 0x70000 q s (ctlWrite q true true fun s => s.rakeCtl q) := by
  rw [exec_rakeRearm_eq, execRakeRearm, ctlAct, htrig, hrearm, if_pos (by decide)]

section
variable {s : State} {q : Req} (hq : s.serves 0x70000 q) (htrig : q.wdata.getLsbD 29 = false) (hrearm : q.wdata.getLsbD 28 = true)
include hq htrig hrearm

theorem exec_rakeRearm_window0 (hwin : q.win = 0) :
    ∃ r, s.rake.sourcesOnly r ∧
      exec (.rakeRearm q) s = .next (s.hrvReply s.hrv ({ s with rake := r } : State).rearm.rake q rOk 0) := by
  obtain ⟨r, hr, -, henter⟩ := ctlEnter_hrvReply hq true (ctlWrite q true true fun s => s.rakeCtl q)
  refine ⟨r, hr, (exec_rakeRearm_enters htrig hrearm s).trans (henter _ _ rOk 0 ?_)⟩
  rw [ctlWrite, if_neg (by simp [hwin]), if_neg (by simp), State.rakeCtl_rearm hwin htrig hrearm]
  rfl

theorem exec_rakeRearm_otherWindow (hwin : q.win ≠ 0) :
    ∃ r, s.rake.sourcesOnly r ∧ exec (.rakeRearm q) s = .next (s.hrvReply s.hrv r q rDenied 0) := by
  obtain ⟨r, hr, -, henter⟩ := ctlEnter_hrvReply hq true (ctlWrite q true true fun s => s.rakeCtl q)
  refine ⟨r, hr, (exec_rakeRearm_enters htrig hrearm s).trans (henter _ _ rDenied 0 ?_)⟩
  rw [ctlWrite, if_pos (by simpa using hwin)]
  rfl

end

/-- A MARK record of the value written and its window joins what the trace unit's own source holds (R528). -/
theorem exec_rakeMarkWrite_marks {s : State} {q : Req} (hq : s.serves 0x70020 q) (hdbg : s.hasDbg q.win.toNat = true)
    (href : s.refMode = false) (hwants : s.rake.wants s.fc (some 0) = true) (hlost : Tab.get? s.rake.lostBy uHrv = none)
    (hroom : (Tab.get [] s.rake.bufs uHrv).length < 16) :
    exec (.rakeMarkWrite q) s = .next (s.hrvReply s.hrv { s.rake with
      bufs := s.rake.bufs.set uHrv (Tab.get [] s.rake.bufs uHrv ++ [recBytes s.timeWord 0x03 uHrv 0 q.wdata.toNat q.win.toNat 0])
      lostBy := s.rake.lostBy.del uHrv } q rOk 0) := by
  obtain ⟨r, -, hr, hact⟩ := ctlAct_dbgWrite hq hdbg fun s => (s.trace uHrv 0x03 (some 0) q.wdata.toNat q.win.toNat 0 [], rOk)
  obtain rfl := hr href
  refine hact _ _ rOk ?_
  rw [State.trace_room hwants hlost hroom, List.append_nil]
  rfl

/-! ### From a source to the rake's buffer (R497, R501) -/

theorem exec_rakeRecordSend_eq (s : State) : exec .rakeRecordSend s = execRakeRecordSend s := rfl

theorem exec_rakeRecordSend_on {s : State} (hready : s.ready = true) (hon : s.rake.state = 1 ∨ s.rake.state = 2) :
    exec .rakeRecordSend s = .next (s.kept s.scanFeed.ringMove.rakeGap) := by
  rw [exec_rakeRecordSend_eq, execRakeRecordSend, runAct_ready hready, if_pos hon]

theorem exec_rakeRecordSend_off {s : State} (hready : s.ready = true) (hrun : s.rake.state ≠ 1) (hpost : s.rake.state ≠ 2) :
    exec .rakeRecordSend s = .next s := by
  rw [exec_rakeRecordSend_eq, execRakeRecordSend, runAct_ready hready, if_neg (by simp [hrun, hpost])]
  rfl

theorem State.scanFeed_of_nil {s : State} (h : s.hrv.scanTodo = []) : s.scanFeed = s := by
  rw [State.scanFeed, h]

theorem Rake.pick_single {r : Rake} {unit : Nat} {rec : TrRec} {rs : List TrRec} (h : r.bufs = [(unit, rec :: rs)]) (fc : Nat) :
    r.pick fc = some (unit, rec :: rs) := by
  simp [Rake.pick, h]

theorem Rake.take_room {r : Rake} {bs : TrRec} (h : r.buf.length + (chunks 32 bs).length ≤ 256) :
    r.take bs = { r with buf := r.buf ++ chunks 32 bs } := by
  simp [Rake.take, h]

theorem State.rakeGap_of_none {s : State} (h : s.rake.ownLost = none) : s.rakeGap = s := by
  simp [State.rakeGap, h]

/-- Where one source alone holds records and the rake has room for the next and has lost none, it goes over, and nothing else changes. -/
theorem State.ringMove_rakeGap_single {s : State} {unit : Nat} {rec : TrRec} {rs : List TrRec} (hbufs : s.rake.bufs = [(unit, rec :: rs)])
    (hroom : s.rake.buf.length + (chunks 32 rec).length ≤ 256) (hlost : s.rake.ownLost = none) :
    s.ringMove.rakeGap = { s with rake := { s.rake with bufs := s.rake.bufs.set unit rs, buf := s.rake.buf ++ chunks 32 rec } } := by
  have hmove : s.ringMove =
      { s with rake := { s.rake with bufs := s.rake.bufs.set unit rs, buf := s.rake.buf ++ chunks 32 rec } } := by
    rw [State.ringMove, Rake.pick_single hbufs]
    exact congrArg (fun k => { s with rake := k }) (Rake.take_room (r := { s.rake with bufs := s.rake.bufs.set unit rs }) hroom)
  rw [hmove]
  exact State.rakeGap_of_none hlost

/-- The STATE record of an emission: unit, fields A and B, and the words behind them in raw records (R497, R500). -/
def State.stateRec (s : State) (x a b : Nat) (ws : List Word) : TrRec :=
  recBytes s.timeWord 0x0A x (ceilDiv ws.length 8) a b 0 ++ rawRecs (ws.flatMap fun w => bytesOf 4 w.toNat)

theorem State.length_stateRec (s : State) (x a b : Nat) (ws : List Word) :
    (s.stateRec x a b ws).length = 32 * (1 + ceilDiv ws.length 8) := by
  rw [State.stateRec, List.length_append, length_recBytes, length_rawRecs_words]
  omega

/-- The STATE record of an emission enters its unit's empty source. -/
theorem State.scanFeed_room {s : State} {x a b : Nat} {ws : List Word} {l : List (Nat × Nat × Nat × List Word)}
    (htodo : s.hrv.scanTodo = (x, a, b, ws) :: l) (hbufs : s.rake.bufs = []) (hlost : s.rake.lostBy = [])
    (hwants : s.rake.wants s.fc (some 6) = true) :
    s.scanFeed = { s with
      hrv := { s.hrv with scanTodo := l }
      rake := { s.rake with bufs := [(x, [s.stateRec x a b ws])] } } := by
  have hempty : Tab.get [] s.rake.bufs x = [] := by rw [hbufs]; rfl
  have hnone : Tab.get? s.rake.lostBy x = none := by rw [hlost]; rfl
  have htrace := State.trace_room (s := s.modHrv fun h => { h with scanTodo := l }) hwants hnone (by simp [State.modHrv, hempty]) 0x0A a b 0
    (rawRecs (ws.flatMap fun w => bytesOf 4 w.toNat))
  rw [State.scanFeed, htodo]
  dsimp only
  rw [if_pos (by simp [hempty]), htrace, length_rawRecs_words, Nat.mul_div_cancel_left _ (by decide : 0 < 32)]
  simp [State.modRake, State.modHrv, hbufs, hlost, Tab.get, Tab.set, Tab.del, State.timeWord, State.stateRec]

theorem exec_rakeRecordSend_source {s : State} {unit : Nat} {rec : TrRec} {rs : List TrRec} (hready : s.ready = true)
    (hon : s.rake.state = 1 ∨ s.rake.state = 2) (htodo : s.hrv.scanTodo = []) (hbufs : s.rake.bufs = [(unit, rec :: rs)])
    (hrec : rec.length = 32) (hroom : s.rake.buf.length < 256) (hlost : s.rake.ownLost = none) :
    exec .rakeRecordSend s =
      .next { s with rake := { s.rake with bufs := s.rake.bufs.set unit rs, buf := s.rake.buf ++ [rec] } } := by
  have hone : chunks 32 rec = [rec] := chunks_single (by omega) (Nat.le_of_eq hrec)
  have hmove := State.ringMove_rakeGap_single hbufs (by rw [hone]; exact hroom) hlost
  rw [exec_rakeRecordSend_on hready hon, State.scanFeed_of_nil htodo, hmove, hone]
  rfl

/-- The next STATE record of an emission goes by its unit's empty source into the rake's empty buffer (R497, R500). -/
theorem exec_rakeRecordSend_state {s : State} {x a b : Nat} {ws : List Word} {l : List (Nat × Nat × Nat × List Word)}
    (hready : s.ready = true) (hon : s.rake.state = 1 ∨ s.rake.state = 2) (htodo : s.hrv.scanTodo = (x, a, b, ws) :: l)
    (hbufs : s.rake.bufs = []) (hlost : s.rake.lostBy = []) (hwants : s.rake.wants s.fc (some 6) = true) (hbuf : s.rake.buf = [])
    (hown : s.rake.ownLost = none) (hws : ws.length ≤ 2040) :
    exec .rakeRecordSend s = .next { s with
      hrv := { s.hrv with scanTodo := l }
      rake := { s.rake with bufs := [(x, [])], buf := chunks 32 (s.stateRec x a b ws) } } := by
  have hfeed := State.scanFeed_room htodo hbufs hlost hwants
  have hroom : (chunks 32 (s.stateRec x a b ws)).length ≤ 256 := by
    rw [length_chunks (by decide), State.length_stateRec, ceilDiv, ceilDiv]
    omega
  have hmove := State.ringMove_rakeGap_single (s := s.scanFeed) (unit := x) (rs := []) (by rw [hfeed])
    (by rw [hfeed]; simpa [hbuf] using hroom) (by rw [hfeed]; exact hown)
  rw [exec_rakeRecordSend_on hready hon, hmove, hfeed]
  simp [hbuf, Tab.set, State.kept]

/-! ### The sinks (R503 to R508) -/

theorem exec_rakeSinkWrite_eq (s : State) : exec .rakeSinkWrite s = execRakeSinkWrite s := rfl
theorem exec_traceCodewordSlot_eq (up : Option (List Byte)) (s : State) :
    exec (.traceCodewordSlot up) s = execTraceCodewordSlot up s := rfl

theorem Rake.ready_run {r : Rake} {n : Nat} (hrun : r.state = 1) (hn : 0 < n) (hbuf : n ≤ r.buf.length) : r.ready n = some n := by
  simp [Rake.ready, hrun, hn, hbuf]

theorem Rake.sent_of_not_post {r : Rake} (h : r.state ≠ 2) (n : Nat) :
    r.sent n = { r with buf := r.buf.drop n, postLeft := r.postLeft - n } := by
  simp [Rake.sent, h]

theorem State.mpEnter_sends {s : State} (h : s.img.act.watch = []) (t : Nat) (o : MOrig) (k : MKind) (a n : Nat) (d : List Byte) :
    s.Sends (s.mpEnter t o k a n d) := by
  unfold State.mpEnter
  dsimp only
  rw [State.watch_of_nil h]
  exact s.modStop_sends t _ rfl rfl

theorem Rake.advance_within {r : Rake} {size k : Nat} (h : r.wp.toNat + k < size) (mode : Nat) :
    r.advance mode size k = { r with wp := r.wp + BitVec.ofNat 31 k } := by
  rw [Rake.advance, if_pos h]

theorem Rake.advance_stop {r : Rake} {mode size k : Nat} (h : r.wp.toNat + k = size) (hmode : mode = 0) :
    r.advance mode size k = Rake.freeze { r with wp := BitVec.ofNat 31 size } := by
  rw [Rake.advance, if_neg (by omega), if_pos hmode]

theorem Rake.advance_wrap {r : Rake} {mode size k : Nat} (h : r.wp.toNat + k = size) (hmode : mode ≠ 0) :
    r.advance mode size k = { r with wp := 0, wrapped := true } := by
  rw [Rake.advance, if_neg (by omega), if_neg hmode]

section
variable {s : State} (hstop : s.stopRuns ctlTile) (hsink : s.img.act.trace.sink = 1) (hwatch : s.img.act.watch = [])
  (hrun : s.rake.state = 1) (hbuf : 8 ≤ s.rake.buf.length)
include hstop hsink hwatch hrun hbuf

/-- A RUN rake with a whole unit of eight records and as much room in its region sends it (R503). -/
theorem exec_rakeSinkWrite_sends (hroom : s.rake.wp.toNat + 8 ≤ s.regionRecs) :
    ∃ u, exec .rakeSinkWrite s = .next u ∧ u.rake = (s.rake.advance s.img.act.trace.mode s.regionRecs 8).sent 8 := by
  have hunit : min 8 (s.regionRecs - s.rake.wp.toNat) = 8 := by omega
  have hready : s.rake.ready (min 8 (s.regionRecs - s.rake.wp.toNat)) = some 8 := by
    rw [hunit]
    exact Rake.ready_run hrun (by decide) hbuf
  rw [exec_rakeSinkWrite_eq, execRakeSinkWrite, atTile_runs hstop]
  simp only [hready, hsink, if_true]
  refine ⟨_, rfl, ?_⟩
  have hsend := (State.mpEnter_sends hwatch ctlTile
    (.rake 8 (timeOf (nth [] (s.rake.buf.take 8) 0)) (timeOf (nth [] (s.rake.buf.take 8) (8 - 1)))) .write
    (s.img.act.trace.base + 32 * s.rake.wp.toNat) (32 * 8) (s.rake.buf.take 8).flatten).trans (State.mpPump_sends _ ctlTile)
  have hrake := congrArg State.rake hsend.only
  exact congrArg (fun r : Rake => (r.advance s.img.act.trace.mode s.regionRecs 8).sent 8) hrake

theorem exec_rakeSinkWrite_within (hwp : s.rake.wp.toNat + 8 < s.regionRecs) :
    ∃ u, exec .rakeSinkWrite s = .next u ∧ u.rake.wp = s.rake.wp + 8 ∧ u.rake.buf = s.rake.buf.drop 8 ∧ u.rake.state = 1 := by
  obtain ⟨u, hexec, hrake⟩ := exec_rakeSinkWrite_sends hstop hsink hwatch hrun hbuf (Nat.le_of_lt hwp)
  rw [Rake.advance_within hwp, Rake.sent_of_not_post (by simp [hrun])] at hrake
  refine ⟨u, hexec, ?_⟩
  rw [hrake]
  exact ⟨rfl, rfl, hrun⟩

/-- At the region's end a STOP rake is FROZEN and drops what it held (R504, log entry 1713). -/
theorem exec_rakeSinkWrite_stops (hwp : s.rake.wp.toNat + 8 = s.regionRecs) (hmode : s.img.act.trace.mode = 0) :
    ∃ u, exec .rakeSinkWrite s = .next u ∧ u.rake.state = 3 ∧ u.rake.buf = [] := by
  obtain ⟨u, hexec, hrake⟩ := exec_rakeSinkWrite_sends hstop hsink hwatch hrun hbuf (Nat.le_of_eq hwp)
  rw [Rake.advance_stop hwp hmode, Rake.sent_of_not_post (by simp [Rake.freeze])] at hrake
  refine ⟨u, hexec, ?_⟩
  rw [hrake]
  exact ⟨rfl, rfl⟩

theorem exec_rakeSinkWrite_wraps (hwp : s.rake.wp.toNat + 8 = s.regionRecs) (hmode : s.img.act.trace.mode ≠ 0) :
    ∃ u, exec .rakeSinkWrite s = .next u ∧ u.rake.state = 1 ∧ u.rake.wp = 0 ∧ u.rake.wrapped = true := by
  obtain ⟨u, hexec, hrake⟩ := exec_rakeSinkWrite_sends hstop hsink hwatch hrun hbuf (Nat.le_of_eq hwp)
  rw [Rake.advance_wrap hwp hmode, Rake.sent_of_not_post (by simp [hrun])] at hrake
  refine ⟨u, hexec, ?_⟩
  rw [hrake]
  exact ⟨hrun, rfl, rfl⟩

end

theorem State.setPass_of_eq {s : State} {b : Bool} (h : s.start.trcPass = b) : s.setPass b = s := by
  rw [State.setPass, if_pos h]

/-- The rake at a slot of the chain to which `up` comes from upstream, with nothing waiting before it (R507 to R509). -/
def Rake.atSlot (r : Rake) (up : Option (List Byte)) : Rake := { r with txup := true, rxlock := r.rxlock || up.isSome, up := up.toList }

section
variable {s : State} (hready : s.ready = true) (hsink : s.img.act.trace.sink = 2) (hup : s.rake.up = []) (hpass : s.start.trcPass = true)
include hready hsink hup hpass

theorem exec_traceCodewordSlot_upstream (c : List Byte) :
    exec (.traceCodewordSlot (some c)) s = .next { s with
      out := s.out ++ [.trace c], rake := { (s.rake.atSlot (some c)).slot false with up := [] } } := by
  rw [exec_traceCodewordSlot_eq, execTraceCodewordSlot, runAct_ready hready, if_pos hsink]
  dsimp only
  rw [State.setPass_of_eq (s := s.modRake _) hpass]
  simp [State.modRake, hup, State.emit, State.kept, Rake.atSlot, Rake.slot]

theorem exec_traceCodewordSlot_none :
    exec (.traceCodewordSlot none) s = .next (s.kept ({ s with rake := s.rake.atSlot none } : State).ownSlot) := by
  rw [exec_traceCodewordSlot_eq, execTraceCodewordSlot, runAct_ready hready, if_pos hsink]
  dsimp only
  rw [State.setPass_of_eq (s := s.modRake _) hpass]
  simp [State.modRake, hup, Rake.atSlot]

end

theorem State.ownSlot_full {s : State} (hrun : s.rake.state = 1) (hbuf : 19 ≤ s.rake.buf.length) (hshare : s.rake.share64 = true) :
    s.ownSlot = { s with
      out := s.out ++ [.trace (slice (s.cwhdr ++ (s.rake.buf.take 19).flatten) 0 640)]
      rake := Rake.sent { (s.rake.slot true) with own := s.rake.own + 1 } 19 } := by
  simp [State.ownSlot, Rake.ready_run hrun (by decide) hbuf, hshare, State.modRake, State.emit]

theorem State.ownSlot_beyondShare {s : State} (hshare : s.rake.share64 = false) : s.ownSlot = s.modRake fun r => r.slot false := by
  unfold State.ownSlot
  split
  · rw [hshare]; rfl
  · rfl

/-- Settles O52, with the model's choices of log entries 1712 (the TRIGGER record always has room) and 1713 (a FROZEN rake drops what it held):
an access of the HRV and RAKE pages changes the harvest logic and the rake alone, and the record of its arrival stands in the rake's sources only
(`Rake.sourcesOnly`), which leaves every field of the rake that a clause names; a move to the rake's buffer is `ringMove_rakeGap_single`, and a sink
takes from it by `Rake.advance`, `Rake.sent` and `ownSlot`. -/
theorem scansAndRecords : Obligations.ScansAndRecords := by
  unfold Obligations.ScansAndRecords
  refine ⟨fun q s hq hdbg => ?_, fun q s hq hdbg => ?_, fun q s hq hdbg hfrozen href => ?_, fun q s hq hdbg hfrozen hpos hunit => ?_,
    fun q s hq hdbg hlive => ?_, fun q s hq hdbg htrace hall hfrozen hidle hsink href => ?_,
    fun q s hq hdbg htrace hall hfrozen hidle hsink href => ?_,
    fun x a b ws l s hready hon htodo hbufs hlost hsrc hmute hbuf hown _ hws => ?_,
    fun q s hq hdbg htrace hfrozen hidle hsink => ?_, fun q s hq hdbg htrig hrearm hon hsrc harmed => ?_,
    fun q s hq hdbg htrig hrearm hon hsrc harmed => ?_, fun q s hq hwin htrig hrearm hoff => ?_, fun q s hq hwin htrig hrearm => ?_,
    fun q s hq hdbg href hon hsrc hmute hlost hroom => ?_, fun unit r rs s hready hon htodo hbufs hr hroom hlost => ?_,
    fun _ hready hrun hpost => exec_rakeRecordSend_off hready hrun hpost,
    fun _ hstop hsink hwatch hrun hbuf hwp => exec_rakeSinkWrite_within hstop hsink hwatch hrun hbuf hwp,
    fun _ hstop hsink hwatch hrun hbuf hwp hmode => exec_rakeSinkWrite_stops hstop hsink hwatch hrun hbuf hwp hmode,
    fun _ hstop hsink hwatch hrun hbuf hwp hmode => exec_rakeSinkWrite_wraps hstop hsink hwatch hrun hbuf hwp hmode,
    fun c s hready hsink hup hpass => ?_, fun s hready hsink hup hpass hrun hbuf hshare => ?_, fun s hready hsink hup hpass hshare => ?_⟩
  · obtain ⟨r, hexec⟩ := exec_scanSelWrite_selects hq hdbg
    exact ⟨_, hexec, s.hrvReply_replied .., rfl, rfl⟩
  · obtain ⟨r, hexec⟩ := exec_scanSelWrite_refused hq hdbg
    exact ⟨_, hexec, s.hrvReply_replied .., rfl⟩
  · obtain ⟨r, hr, hexec⟩ := exec_scanDataRead_frozen hq hdbg hfrozen
    obtain rfl := hr href
    exact ⟨_, hexec, s.hrvReply_replied .., rfl, rfl, rfl⟩
  · obtain ⟨r, -, hexec⟩ := exec_scanDataRead_frozen hq hdbg hfrozen
    refine ⟨_, _, hexec, s.hrvReply_replied .., ?_⟩
    rw [hpos]
    exact State.scanStream_head_unit (s := { s with rake := r }) hunit _
  · obtain ⟨r, hexec⟩ := exec_scanDataRead_busy hq hdbg hlive
    exact ⟨_, hexec, s.hrvReply_replied .., rfl⟩
  · exact ⟨_, exec_scanTrace_emits hq hdbg htrace hall hfrozen hidle hsink href, s.hrvReply_replied .., List.flatMap_singleton ..⟩
  · exact ⟨_, exec_scanTrace_emits hq hdbg htrace hall hfrozen hidle hsink href, s.hrvReply_replied .., rfl⟩
  · exact ⟨_, exec_rakeRecordSend_state hready hon htodo hbufs hlost (Rake.wants_of_src hon hsrc hmute s.fc) hbuf hown hws, rfl,
      flatten_chunks (by decide) (s.stateRec x a b ws)⟩
  · obtain ⟨r, hexec⟩ := exec_scanTrace_noPort hq hdbg htrace hfrozen hidle hsink
    exact ⟨_, hexec, s.hrvReply_replied .., rfl⟩
  · obtain ⟨r, hr, hexec⟩ := exec_rakeTrig_armed hq htrig hrearm hdbg hon hsrc harmed
    refine ⟨_, hexec, s.hrvReply_replied .., rfl, rfl, rfl, ?_⟩
    rw [hr]
    exact ⟨rfl, rfl⟩
  · obtain ⟨r, hr, hexec⟩ := exec_rakeTrig_unarmed hq htrig hrearm hdbg hon hsrc harmed
    refine ⟨_, hexec, s.hrvReply_replied .., ?_⟩
    rw [hr]
    exact ⟨rfl, rfl, rfl⟩
  · obtain ⟨r, hr, hexec⟩ := exec_rakeRearm_window0 hq htrig hrearm hwin
    refine ⟨_, hexec, s.hrvReply_replied .., ?_⟩
    rw [hr]
    exact ⟨if_neg hoff, rfl, rfl, rfl, rfl⟩
  · obtain ⟨r, hr, hexec⟩ := exec_rakeRearm_otherWindow hq htrig hrearm hwin
    exact ⟨_, hexec, s.hrvReply_replied .., hr.state, hr.armed⟩
  · exact ⟨_, exec_rakeMarkWrite_marks hq hdbg href (Rake.wants_of_src hon hsrc hmute s.fc) hlost hroom, s.hrvReply_replied ..,
      Tab.get_set_self _ _ _ _⟩
  · exact ⟨_, exec_rakeRecordSend_source hready hon htodo hbufs hr hroom hlost, rfl, rfl, Tab.get_set_self _ _ _ _, rfl, rfl⟩
  · exact ⟨_, exec_traceCodewordSlot_upstream hready hsink hup hpass c, rfl, rfl, rfl, rfl, rfl⟩
  · refine ⟨_, exec_traceCodewordSlot_none hready hsink hup hpass, ?_⟩
    rw [State.ownSlot_full (s := { s with rake := s.rake.atSlot none }) hrun hbuf hshare,
      Rake.sent_of_not_post (by simp [Rake.slot, Rake.atSlot, hrun])]
    exact ⟨rfl, rfl, rfl, rfl⟩
  · refine ⟨_, exec_traceCodewordSlot_none hready hsink hup hpass, ?_⟩
    rw [State.ownSlot_beyondShare (s := { s with rake := s.rake.atSlot none }) hshare]
    exact ⟨rfl, rfl⟩

end Sys2Proof.Machine
end

section
/-! PROOF. Check units (R531 to R545): the remainder's width, the accesses of a CHK page that the control port performs at once, and the scan
engine's reads and returns. -/

namespace Sys2Proof.Machine

/-! ### The remainder (R531, R532) -/

theorem and_chkMask_lt (w : Nat) (v : BitVec 64) : (v &&& chkMask w).toNat < 2 ^ w := by
  rcases Nat.lt_or_ge w 64 with hw | hw
  · have hmask : (chkMask w).toNat = 2 ^ w - 1 :=
      Nat.mod_eq_of_lt (Nat.lt_of_le_of_lt (Nat.sub_le _ 1) (Nat.pow_lt_pow_right (by decide) hw))
    rw [BitVec.toNat_and, hmask, Nat.and_two_pow_sub_one_eq_mod]
    exact Nat.mod_lt _ (Nat.two_pow_pos w)
  · exact Nat.lt_of_lt_of_le (BitVec.isLt _) (Nat.pow_le_pow_right (by decide) hw)

theorem chkBit_lt (w : Nat) (p v : BitVec 64) (t : Bool) : (chkBit w p v t).toNat < 2 ^ w := by
  unfold chkBit
  dsimp only
  split
  · rw [BitVec.toNat_xor]
    exact Nat.xor_lt_two_pow (and_chkMask_lt w _) (and_chkMask_lt w _)
  · exact and_chkMask_lt w _

/-- A byte leaves V within the width, whatever it was. -/
theorem Check.feedByte_v_lt (c : Check) (b : Byte) : (c.feedByte b).v.toNat < 2 ^ c.w := chkBit_lt _ _ _ _

theorem Check.feed_v_lt (c : Check) {bs : List Byte} (h : bs ≠ []) : (c.feed bs).v.toNat < 2 ^ c.w := by
  induction bs generalizing c with
  | nil => exact absurd rfl h
  | cons b bs ih =>
    cases bs with
    | nil => exact c.feedByte_v_lt b
    | cons b' bs => exact ih (c.feedByte b) (List.cons_ne_nil b' bs)

/-- A feed changes V alone. -/
theorem Check.feed_eq (c : Check) (bs : List Byte) : c.feed bs = { c with v := (c.feed bs).v } := by
  induction bs generalizing c with
  | nil => rfl
  | cons b bs ih => exact ih (c.feedByte b)

/-- A feed does not look at the READs of a scan. -/
theorem Check.feed_withReads (c : Check) (l : List ScanRead) (bs : List Byte) :
    ({ c with reads := l } : Check).feed bs = { c.feed bs with reads := l } := by
  induction bs generalizing c with
  | nil => rfl
  | cons b bs ih => exact ih (c.feedByte b)

/-! ### Accesses of a CHK page (R417, R534, R541, R593) -/

/-- The block after the answer to `q`: of its units the check units and the rake alone have changed, to `t` and `r`. -/
def State.chkReply (s : State) (t : Tab Check) (r : Rake) (q : Req) (code : Nat) (data : Word) : State :=
  { s with chk := t, rake := r }.reply q.win.toNat q.tag code data

theorem State.chkReply_replied (s : State) (t : Tab Check) (r : Rake) (q : Req) (code : Nat) (data : Word) :
    s.replied (s.chkReply t r q code data) q code data := rfl

/-- The block after the answer to `q` with unit `k` changed to `c`. -/
def State.unitReply (s : State) (k : Nat) (c : Check) (r : Rake) (q : Req) (code : Nat) (data : Word) : State :=
  s.chkReply (s.chk.set k c) r q code data

theorem State.unitReply_replied (s : State) (k : Nat) (c : Check) (r : Rake) (q : Req) (code : Nat) (data : Word) :
    s.replied (s.unitReply k c r q code data) q code data := rfl

@[simp] theorem State.unitReply_check_self (s : State) (k : Nat) (c : Check) (r : Rake) (q : Req) (code : Nat) (data : Word) :
    (s.unitReply k c r q code data).check k = c := Tab.get_set_self _ _ _ _

theorem State.unitReply_check_ne (s : State) {k j : Nat} (h : j ≠ k) (c : Check) (r : Rake) (q : Req) (code : Nat) (data : Word) :
    (s.unitReply k c r q code data).check j = s.check j := Tab.get_set_ne _ _ _ _ _ h

/-- A request that is performed at once, by `f`, and answered with no change but to the check units and the rake: `f` sees the block with a rake
that the record of the arrival may have changed. -/
theorem ctlEnter_chkReply {s : State} {ofs : Nat} {q : Req} (hq : s.serves ofs q) (wr : Bool) (f : State → State) :
    ∃ r, ∀ t code data, f { s with rake := r } = s.chkReply t r q code data →
      ctlEnter wr ofs q s f = .next (s.chkReply t r q code data) := by
  obtain ⟨r, hr⟩ := ctlEnter_serves hq wr f
  refine ⟨r, fun t code data hf => ?_⟩
  rw [hr, hf]
  rfl

theorem State.serves.qOfs_eq {s : State} {ofs : Nat} {q : Req} (h : s.serves ofs q) : qOfs q = ofs := by
  obtain ⟨-, -, -, -, -, hofs⟩ := h
  exact hofs

theorem State.serves.entry_none {s : State} {ofs : Nat} {q : Req} (h : s.serves ofs q) : s.ctrl.entry = none := by
  obtain ⟨-, -, -, hentry, -, -⟩ := h
  exact hentry

theorem atCheck_lt {u : Nat} (h : u < 8) (r : Host.Outcome State Fault Refusal) : atCheck u r = r := if_pos h

theorem chkWrite_busy {s : State} {u : Nat} {q : Req} (hdbg : s.hasDbg q.win.toNat = true)
    (h : (s.check u).owner ≠ some q.win.toNat ∨ (s.check u).state = 2) (f : State → State × Nat) :
    chkWrite u q true f s = s.replyW q rBusy := by
  have hbusy : (s.check u).owner ≠ some q.win.toNat ∨ (true && (s.check u).state == 2) = true := by simpa using h
  rw [chkWrite, dbgWrite_allowed hdbg, if_pos hbusy]

theorem chkWrite_holder {s : State} {u : Nat} {q : Req} (hdbg : s.hasDbg q.win.toNat = true)
    (howner : (s.check u).owner = some q.win.toNat) (hstate : (s.check u).state ≠ 2) (f : State → State × Nat) :
    chkWrite u q true f s = (f s).1.replyW q (f s).2 := by
  have hfree : ¬((s.check u).owner ≠ some q.win.toNat ∨ (true && (s.check u).state == 2) = true) := by simp [howner, hstate]
  rw [chkWrite, dbgWrite_allowed hdbg, if_neg hfree]

section
variable {s : State} {q : Req} {ofs u : Nat} (hq : s.serves ofs q) (hdbg : s.hasDbg q.win.toNat = true)
include hq hdbg

theorem ctlAct_chkWrite_busy (h : (s.check u).owner ≠ some q.win.toNat ∨ (s.check u).state = 2) (f : State → State × Nat) :
    ∃ r, ctlAct ofs q s (chkWrite u q true f) = .next (s.chkReply s.chk r q rBusy 0) := by
  obtain ⟨r, henter⟩ := ctlEnter_chkReply hq true (chkWrite u q true f)
  exact ⟨r, henter s.chk rBusy 0 (chkWrite_busy (s := { s with rake := r }) hdbg h f)⟩

/-- The holder's write of a register makes `f` of a unit without a scan; `f` may read the clock and sees the unit alone. -/
theorem ctlAct_chkWrite_holder (howner : (s.check u).owner = some q.win.toNat) (hstate : (s.check u).state ≠ 2)
    (f : State → Check → Check) (hf : ∀ r, f { s with rake := r } = f s) :
    ∃ r, ctlAct ofs q s (chkWrite u q true fun s => (s.modCheck u (f s), rOk)) = .next (s.unitReply u (f s (s.check u)) r q rOk 0) := by
  obtain ⟨r, henter⟩ := ctlEnter_chkReply hq true (chkWrite u q true fun s => (s.modCheck u (f s), rOk))
  refine ⟨r, henter _ rOk 0 ?_⟩
  rw [chkWrite_holder (s := { s with rake := r }) hdbg howner hstate, hf]
  rfl

end

/-! ### CHK_CTL (R535, R540 to R542) -/

/-- The five command bits of a CHK_CTL write (R542). -/
theorem chkBits_of_extract {w : Word} {b : BitVec 5} (h : w.extractLsb' 27 5 = b) :
    chkClaimBit w = b.getLsbD 4 ∧ chkReleaseBit w = b.getLsbD 3 ∧ chkInitBit w = b.getLsbD 2 ∧ chkStartBit w = b.getLsbD 1 ∧
      chkAbortBit w = b.getLsbD 0 := by
  subst h
  simp [chkClaimBit, chkReleaseBit, chkInitBit, chkStartBit, chkAbortBit]

section
variable {k : Nat} {q : Req} {s : State} (hk : k < 8)
include hk

theorem chkCtlForm_true : chkCtlForm k q true s = ctlAct (chkOfs k 0) q s (dbgWrite q fun s => s.chkCtl k q) := atCheck_lt hk _

theorem exec_chkClaim_ctl (hclaim : chkClaimBit q.wdata = true) :
    exec (.chkClaim k q) s = ctlAct (chkOfs k 0) q s (dbgWrite q fun s => s.chkCtl k q) := by
  have hexec : exec (.chkClaim k q) s = execChkClaim k q s := rfl
  rw [hexec, execChkClaim, hclaim, chkCtlForm_true hk]

theorem exec_chkRelease_ctl (h : q.wdata.extractLsb' 27 5 = 8) :
    exec (.chkRelease k q) s = ctlAct (chkOfs k 0) q s (dbgWrite q fun s => s.chkCtl k q) := by
  have hexec : exec (.chkRelease k q) s = execChkRelease k q s := rfl
  obtain ⟨hclaim, hrelease, -⟩ := chkBits_of_extract h
  rw [hexec, execChkRelease, hclaim, hrelease]
  exact chkCtlForm_true hk

theorem exec_chkInit_ctl (h : q.wdata.extractLsb' 27 5 = 4) :
    exec (.chkInit k q) s = ctlAct (chkOfs k 0) q s (dbgWrite q fun s => s.chkCtl k q) := by
  have hexec : exec (.chkInit k q) s = execChkInit k q s := rfl
  obtain ⟨hclaim, hrelease, hinit, -⟩ := chkBits_of_extract h
  rw [hexec, execChkInit, hclaim, hrelease, hinit]
  exact chkCtlForm_true hk

theorem exec_chkStart_ctl (h : q.wdata.extractLsb' 27 5 = 2) :
    exec (.chkStart k q) s = ctlAct (chkOfs k 0) q s (dbgWrite q fun s => s.chkCtl k q) := by
  have hexec : exec (.chkStart k q) s = execChkStart k q s := rfl
  obtain ⟨hclaim, hrelease, hinit, hstart, -⟩ := chkBits_of_extract h
  rw [hexec, execChkStart, hclaim, hrelease, hinit, hstart]
  exact chkCtlForm_true hk

theorem exec_chkAbort_ctl (h : q.wdata.extractLsb' 27 5 = 1) :
    exec (.chkAbort k q) s = ctlAct (chkOfs k 0) q s (dbgWrite q fun s => s.chkCtl k q) := by
  have hexec : exec (.chkAbort k q) s = execChkAbort k q s := rfl
  obtain ⟨hclaim, hrelease, hinit, hstart, habort⟩ := chkBits_of_extract h
  rw [hexec, execChkAbort, hclaim, hrelease, hinit, hstart, habort]
  exact chkCtlForm_true hk

end

section
variable {s : State} {q : Req} {c : Check}

theorem State.chkCtlCode_noRight (hstart : chkStartBit q.wdata = true) (hright : s.scanRight q.win.toNat c = false) :
    s.chkCtlCode q c = rDenied := by
  simp [State.chkCtlCode, hstart, hright]

theorem State.chkCtlCode_otherHolds {o : Nat} (hstart : chkStartBit q.wdata = false) (howner : c.owner = some o) (ho : o ≠ q.win.toNat)
    (hwin : q.win ≠ 0) : s.chkCtlCode q c = rBusy := by
  have hwin' : q.win.toNat ≠ 0 := fun h => hwin (BitVec.eq_of_toNat_eq h)
  simp [State.chkCtlCode, hstart, howner, ho, hwin']

/-- Window 0 releases a unit that another window holds, whatever the unit does (R541, log entry 1804). -/
theorem State.chkCtlCode_window0 {o : Nat} (hbits : q.wdata.extractLsb' 27 5 = 8) (hlo : 1 ≤ chkWidth q.wdata)
    (hhi : chkWidth q.wdata ≤ 64) (howner : c.owner = some o) (ho : o ≠ 0) (hwin : q.win = 0) : s.chkCtlCode q c = rOk := by
  obtain ⟨hclaim, hrelease, -, hstart, -⟩ := chkBits_of_extract hbits
  have hwidth : ¬(chkWidth q.wdata = 0 ∨ 64 < chkWidth q.wdata) := by omega
  simp [State.chkCtlCode, hclaim, hrelease, hstart, howner, ho, hwin, hwidth]

/-- The code for the window that holds the unit, or claims a free one (R534, R535, R541, R542, log entry 1802). -/
theorem State.chkCtlCode_holder (hheld : c.owner = some q.win.toNat ∨ chkClaimBit q.wdata = true ∧ c.owner = none)
    (hright : chkStartBit q.wdata = false ∨ s.scanRight q.win.toNat c = true) :
    s.chkCtlCode q c =
      if chkWidth q.wdata = 0 ∨ 64 < chkWidth q.wdata then rError
      else if c.state = 2 ∧ (c.ctlChanges q.wdata = true ∨ chkInitBit q.wdata = true) then rBusy
      else if chkStartBit q.wdata = true then s.startCode c
      else rOk := by
  have hdenied : (chkStartBit q.wdata && !s.scanRight q.win.toNat c) = false := by
    rcases hright with h | h <;> simp [h]
  rcases hheld with h | ⟨hclaim, h⟩
  · simp [State.chkCtlCode, hdenied, h]
  · simp [State.chkCtlCode, hdenied, h, hclaim]

/-- Without START and without a scan, any width of 1 to 64 is taken. -/
theorem State.chkCtlCode_noScan (hheld : c.owner = some q.win.toNat ∨ chkClaimBit q.wdata = true ∧ c.owner = none)
    (hstart : chkStartBit q.wdata = false) (hlo : 1 ≤ chkWidth q.wdata) (hhi : chkWidth q.wdata ≤ 64) (hstate : c.state ≠ 2) :
    s.chkCtlCode q c = rOk := by
  rw [State.chkCtlCode_holder hheld (.inl hstart), if_neg (by omega), if_neg (fun h => hstate h.1), hstart]
  rfl

end

theorem State.startCode_idle {s : State} {c : Check} (h : s.startCode c = rOk) : c.state ≠ 2 := by
  intro hscan
  unfold State.startCode at h
  rw [if_pos hscan] at h
  split at h <;> exact absurd h (by decide)

section
variable {s : State} {q : Req} {k : Nat} (hq : s.serves (chkOfs k 0) q) (hdbg : s.hasDbg q.win.toNat = true)
include hq hdbg

theorem ctlAct_chkCtl_refused {code : Nat} (hcode : s.chkCtlCode q (s.check k) = code) (hne : code ≠ rOk) :
    ∃ r, ctlAct (chkOfs k 0) q s (dbgWrite q fun s => s.chkCtl k q) = .next (s.chkReply s.chk r q code 0) := by
  obtain ⟨r, henter⟩ := ctlEnter_chkReply hq true (dbgWrite q fun s => s.chkCtl k q)
  refine ⟨r, henter s.chk code 0 ?_⟩
  have hctl : ({ s with rake := r } : State).chkCtl k q = ({ s with rake := r }, code) := by
    subst hcode
    exact if_pos hne
  rw [dbgWrite_allowed (s := { s with rake := r }) hdbg, hctl]
  rfl

theorem ctlAct_chkCtl_holder (hcode : s.chkCtlCode q (s.check k) = rOk)
    (hheld : (s.check k).owner = some q.win.toNat ∨ chkClaimBit q.wdata = true) :
    ∃ r, ctlAct (chkOfs k 0) q s (dbgWrite q fun s => s.chkCtl k q) =
      .next (s.unitReply k ((s.check k).ctl q.win.toNat q.wdata) r q rOk 0) := by
  obtain ⟨r, henter⟩ := ctlEnter_chkReply hq true (dbgWrite q fun s => s.chkCtl k q)
  refine ⟨r, henter _ rOk 0 ?_⟩
  have hctl : ({ s with rake := r } : State).chkCtl k q =
      (({ s with rake := r } : State).modCheck k fun c => c.ctl q.win.toNat q.wdata, rOk) :=
    (if_neg (not_not_intro hcode)).trans (if_pos hheld)
  rw [dbgWrite_allowed (s := { s with rake := r }) hdbg, hctl]
  rfl

theorem ctlAct_chkCtl_window0 (hcode : s.chkCtlCode q (s.check k) = rOk)
    (hheld : ¬((s.check k).owner = some q.win.toNat ∨ chkClaimBit q.wdata = true)) :
    ∃ r, ctlAct (chkOfs k 0) q s (dbgWrite q fun s => s.chkCtl k q) =
      .next (s.unitReply k { (s.check k).abort with owner := none } r q rOk 0) := by
  obtain ⟨r, henter⟩ := ctlEnter_chkReply hq true (dbgWrite q fun s => s.chkCtl k q)
  refine ⟨r, henter _ rOk 0 ?_⟩
  have hctl : ({ s with rake := r } : State).chkCtl k q =
      (({ s with rake := r } : State).modCheck k fun c => { c.abort with owner := none }, rOk) :=
    (if_neg (not_not_intro hcode)).trans (if_neg hheld)
  rw [dbgWrite_allowed (s := { s with rake := r }) hdbg, hctl]
  rfl

end

theorem ctlAct_chkCtl_denied {s : State} {q : Req} {k : Nat} (hq : s.serves (chkOfs k 0) q) (hdbg : s.hasDbg q.win.toNat = false) :
    ∃ r, ctlAct (chkOfs k 0) q s (dbgWrite q fun s => s.chkCtl k q) = .next (s.chkReply s.chk r q rDenied 0) := by
  obtain ⟨r, henter⟩ := ctlEnter_chkReply hq true (dbgWrite q fun s => s.chkCtl k q)
  exact ⟨r, henter s.chk rDenied 0 (dbgWrite_refused (s := { s with rake := r }) hdbg _)⟩

/-! ### What CHK_CTL makes of a unit (R542, log entry 1803) -/

/-- A unit with the parameters of a CHK_CTL write; one that changes them masks V and counts as a use. -/
def Check.withCtl (c : Check) (w : Word) : Check :=
  if c.ctlChanges w then
    { c with w := chkWidth w, refin := w.getLsbD 17, refout := w.getLsbD 16, v := c.v &&& chkMask (chkWidth w), alive := c.alive + 1 }
  else c

theorem Check.withCtl_same {c : Check} {w : Word} (h : c.ctlChanges w = false) : c.withCtl w = c := if_neg (by simp [h])

/-- Changed or not, the parameters are those written, and of the rest V and the use count alone may differ. -/
theorem Check.withCtl_eq (c : Check) (w : Word) :
    ∃ v a, c.withCtl w = { c with w := chkWidth w, refin := w.getLsbD 17, refout := w.getLsbD 16, v := v, alive := a } := by
  unfold Check.withCtl
  split
  case isTrue => exact ⟨_, _, rfl⟩
  case isFalse h =>
    simp only [Check.ctlChanges, Bool.not_eq_true, Bool.or_eq_false_iff, bne_eq_false_iff_eq] at h
    obtain ⟨⟨hw, hin⟩, hout⟩ := h
    exact ⟨c.v, c.alive, by rw [← hw, ← hin, ← hout]⟩

theorem Check.abort_scan {c : Check} (h : c.state = 2) : c.abort = { c with state := 0, reads := [] } := if_pos h
theorem Check.abort_noScan {c : Check} (h : c.state ≠ 2) : c.abort = c := if_neg h

section
variable {c : Check} {w : Word} (win : Nat)

theorem Check.ctl_claim (h : w.extractLsb' 27 5 = 16) :
    c.ctl win w = ({ c with owner := some win, alive := c.alive + 1 } : Check).withCtl w := by
  obtain ⟨hclaim, hrelease, hinit, hstart, habort⟩ := chkBits_of_extract h
  simp [Check.ctl, Check.withCtl, hclaim, hrelease, hinit, hstart, habort]

theorem Check.ctl_release (h : w.extractLsb' 27 5 = 8) :
    c.ctl win w = { (if win = 0 then (c.withCtl w).abort else c.withCtl w) with owner := none } := by
  obtain ⟨hclaim, hrelease, hinit, hstart, habort⟩ := chkBits_of_extract h
  simp [Check.ctl, Check.withCtl, hclaim, hrelease, hinit, hstart, habort]

theorem Check.ctl_init (h : w.extractLsb' 27 5 = 4) :
    c.ctl win w = { ((c.withCtl w).setV (c.withCtl w).i) with alive := (c.withCtl w).alive + 1 } := by
  obtain ⟨hclaim, hrelease, hinit, hstart, habort⟩ := chkBits_of_extract h
  simp [Check.ctl, Check.withCtl, hclaim, hrelease, hinit, hstart, habort]

theorem Check.ctl_start (h : w.extractLsb' 27 5 = 2) : c.ctl win w = (c.withCtl w).start := by
  obtain ⟨hclaim, hrelease, hinit, hstart, habort⟩ := chkBits_of_extract h
  simp [Check.ctl, Check.withCtl, hclaim, hrelease, hinit, hstart, habort]

theorem Check.ctl_abort (h : w.extractLsb' 27 5 = 1) : c.ctl win w = c.abort.withCtl w := by
  obtain ⟨hclaim, hrelease, hinit, hstart, habort⟩ := chkBits_of_extract h
  simp [Check.ctl, Check.withCtl, hclaim, hrelease, hinit, hstart, habort]

end

/-! ### The commands of CHK_CTL (R535, R537, R541) -/

theorem State.hasDbg_window0 {s : State} {w : BitVec 3} (hentry : s.ctrl.entry = none) (hw : w = 0) : s.hasDbg w.toNat = true := by
  subst hw
  simp [State.hasDbg, State.reqRights, hentry, State.rights]

section
variable {k : Nat} {q : Req} {s : State} (hk : k < 8) (hq : s.serves (chkOfs k 0) q)
include hk hq

theorem exec_chkClaim_noRight (hdbg : s.hasDbg q.win.toNat = false) (hclaim : chkClaimBit q.wdata = true) :
    ∃ r, exec (.chkClaim k q) s = .next (s.chkReply s.chk r q rDenied 0) := by
  rw [exec_chkClaim_ctl hk hclaim]
  exact ctlAct_chkCtl_denied hq hdbg

/-- Window 0 ends the scan of another window's unit and frees it (R541, log entry 1804). -/
theorem exec_chkRelease_window0 {o : Nat} (hwin : q.win = 0) (hbits : q.wdata.extractLsb' 27 5 = 8) (hlo : 1 ≤ chkWidth q.wdata)
    (hhi : chkWidth q.wdata ≤ 64) (howner : (s.check k).owner = some o) (ho : o ≠ 0) :
    ∃ r, exec (.chkRelease k q) s = .next (s.unitReply k { (s.check k).abort with owner := none } r q rOk 0) := by
  obtain ⟨hclaim, -⟩ := chkBits_of_extract hbits
  rw [exec_chkRelease_ctl hk hbits]
  refine ctlAct_chkCtl_window0 hq (State.hasDbg_window0 hq.entry_none hwin) (State.chkCtlCode_window0 hbits hlo hhi howner ho hwin) ?_
  simp [howner, ho, hwin, hclaim]

variable (hdbg : s.hasDbg q.win.toNat = true)
include hdbg

theorem exec_chkClaim_otherHolds {o : Nat} (hclaim : chkClaimBit q.wdata = true) (hstart : chkStartBit q.wdata = false)
    (howner : (s.check k).owner = some o) (ho : o ≠ q.win.toNat) (hwin : q.win ≠ 0) :
    ∃ r, exec (.chkClaim k q) s = .next (s.chkReply s.chk r q rBusy 0) := by
  rw [exec_chkClaim_ctl hk hclaim]
  exact ctlAct_chkCtl_refused hq hdbg (State.chkCtlCode_otherHolds hstart howner ho hwin) (by decide)

theorem exec_chkClaim_badWidth (hclaim : chkClaimBit q.wdata = true) (hstart : chkStartBit q.wdata = false)
    (howner : (s.check k).owner = none) (hwidth : chkWidth q.wdata = 0 ∨ 64 < chkWidth q.wdata) :
    ∃ r, exec (.chkClaim k q) s = .next (s.chkReply s.chk r q rError 0) := by
  rw [exec_chkClaim_ctl hk hclaim]
  refine ctlAct_chkCtl_refused hq hdbg ?_ (by decide)
  rw [State.chkCtlCode_holder (.inr ⟨hclaim, howner⟩) (.inl hstart), if_pos hwidth]

theorem exec_chkStart_noRight (hbits : q.wdata.extractLsb' 27 5 = 2) (hright : s.scanRight q.win.toNat (s.check k) = false) :
    ∃ r, exec (.chkStart k q) s = .next (s.chkReply s.chk r q rDenied 0) := by
  obtain ⟨-, -, -, hstart, -⟩ := chkBits_of_extract hbits
  rw [exec_chkStart_ctl hk hbits]
  exact ctlAct_chkCtl_refused hq hdbg (State.chkCtlCode_noRight hstart hright) (by decide)

variable (hlo : 1 ≤ chkWidth q.wdata) (hhi : chkWidth q.wdata ≤ 64)
include hlo hhi

theorem exec_chkClaim_free (hbits : q.wdata.extractLsb' 27 5 = 16) (howner : (s.check k).owner = none) (hstate : (s.check k).state ≠ 2) :
    ∃ r, exec (.chkClaim k q) s = .next (s.unitReply k
      (({ s.check k with owner := some q.win.toNat, alive := (s.check k).alive + 1 } : Check).withCtl q.wdata) r q rOk 0) := by
  obtain ⟨hclaim, -, -, hstart, -⟩ := chkBits_of_extract hbits
  rw [exec_chkClaim_ctl hk hclaim, ← Check.ctl_claim _ hbits]
  exact ctlAct_chkCtl_holder hq hdbg (State.chkCtlCode_noScan (.inr ⟨hclaim, howner⟩) hstart hlo hhi hstate) (.inr hclaim)

variable (howner : (s.check k).owner = some q.win.toNat)
include howner

theorem exec_chkRelease_holder (hbits : q.wdata.extractLsb' 27 5 = 8) (hstate : (s.check k).state ≠ 2) :
    ∃ r, exec (.chkRelease k q) s = .next (s.unitReply k ((s.check k).ctl q.win.toNat q.wdata) r q rOk 0) := by
  obtain ⟨-, -, -, hstart, -⟩ := chkBits_of_extract hbits
  rw [exec_chkRelease_ctl hk hbits]
  exact ctlAct_chkCtl_holder hq hdbg (State.chkCtlCode_noScan (.inl howner) hstart hlo hhi hstate) (.inl howner)

theorem exec_chkInit_holder (hbits : q.wdata.extractLsb' 27 5 = 4) (hstate : (s.check k).state ≠ 2) :
    ∃ r, exec (.chkInit k q) s = .next (s.unitReply k ((s.check k).ctl q.win.toNat q.wdata) r q rOk 0) := by
  obtain ⟨-, -, -, hstart, -⟩ := chkBits_of_extract hbits
  rw [exec_chkInit_ctl hk hbits]
  exact ctlAct_chkCtl_holder hq hdbg (State.chkCtlCode_noScan (.inl howner) hstart hlo hhi hstate) (.inl howner)

theorem exec_chkInit_scan (hbits : q.wdata.extractLsb' 27 5 = 4) (hstate : (s.check k).state = 2) :
    ∃ r, exec (.chkInit k q) s = .next (s.chkReply s.chk r q rBusy 0) := by
  obtain ⟨-, -, hinit, hstart, -⟩ := chkBits_of_extract hbits
  rw [exec_chkInit_ctl hk hbits]
  refine ctlAct_chkCtl_refused hq hdbg ?_ (by decide)
  rw [State.chkCtlCode_holder (.inl howner) (.inl hstart), if_neg (by omega), if_pos ⟨hstate, .inr hinit⟩]

theorem exec_chkStart_starts (hbits : q.wdata.extractLsb' 27 5 = 2) (hright : s.scanRight q.win.toNat (s.check k) = true)
    (hcode : s.startCode (s.check k) = rOk) :
    ∃ r, exec (.chkStart k q) s = .next (s.unitReply k ((s.check k).withCtl q.wdata).start r q rOk 0) := by
  obtain ⟨-, -, -, hstart, -⟩ := chkBits_of_extract hbits
  rw [exec_chkStart_ctl hk hbits, ← Check.ctl_start q.win.toNat hbits]
  refine ctlAct_chkCtl_holder hq hdbg ?_ (.inl howner)
  rw [State.chkCtlCode_holder (.inl howner) (.inr hright), if_neg (by omega), if_neg (fun h => State.startCode_idle hcode h.1),
    hstart]
  exact hcode

theorem exec_chkStart_refused {c : Nat} (hbits : q.wdata.extractLsb' 27 5 = 2) (hright : s.scanRight q.win.toNat (s.check k) = true)
    (hsame : (s.check k).ctlChanges q.wdata = false) (hcode : s.startCode (s.check k) = c) (hne : c ≠ rOk) :
    ∃ r, exec (.chkStart k q) s = .next (s.chkReply s.chk r q c 0) := by
  obtain ⟨-, -, hinit, hstart, -⟩ := chkBits_of_extract hbits
  rw [exec_chkStart_ctl hk hbits]
  refine ctlAct_chkCtl_refused hq hdbg ?_ hne
  rw [State.chkCtlCode_holder (.inl howner) (.inr hright), if_neg (by omega), if_neg (by simp [hsame, hinit]), hstart]
  exact hcode

theorem exec_chkAbort_scan (hbits : q.wdata.extractLsb' 27 5 = 1) (hstate : (s.check k).state = 2)
    (hsame : (s.check k).ctlChanges q.wdata = false) :
    ∃ r, exec (.chkAbort k q) s = .next (s.unitReply k { s.check k with state := 0, reads := [] } r q rOk 0) := by
  obtain ⟨-, -, hinit, hstart, -⟩ := chkBits_of_extract hbits
  have habort : (s.check k).ctl q.win.toNat q.wdata = { s.check k with state := 0, reads := [] } := by
    rw [Check.ctl_abort _ hbits, Check.abort_scan hstate]
    exact Check.withCtl_same hsame
  rw [exec_chkAbort_ctl hk hbits, ← habort]
  refine ctlAct_chkCtl_holder hq hdbg ?_ (.inl howner)
  rw [State.chkCtlCode_holder (.inl howner) (.inl hstart), if_neg (by omega), if_neg (by simp [hsame, hinit]), hstart]
  rfl

end

/-! ### Register feed and saving (R533, R539, log entry 1801) -/

section
variable {k : Nat} {q : Req} {s : State} (hk : k < 8)
include hk

theorem exec_chkData8_write : exec (.chkData8 k q) s = ctlAct (chkOfs k 0x28) q s (chkWrite k q true fun s => s.chkFeed k 1 q.wdata) :=
  atCheck_lt hk _

theorem exec_chkData16_write : exec (.chkData16 k q) s = ctlAct (chkOfs k 0x2C) q s (chkWrite k q true fun s => s.chkFeed k 2 q.wdata) :=
  atCheck_lt hk _

theorem exec_chkData32_write : exec (.chkData32 k q) s = ctlAct (chkOfs k 0x30) q s (chkWrite k q true fun s => s.chkFeed k 4 q.wdata) :=
  atCheck_lt hk _

theorem exec_chkValWrite_write (hi : Bool) :
    exec (.chkValWrite k hi q) s = ctlAct (chkOfs k (if hi then 0x24 else 0x20)) q s (chkWrite k q true fun s =>
      (s.modCheck k fun c => { (c.setV (halfSet c.v hi q.wdata)) with alive := c.alive + 1 }, rOk)) :=
  atCheck_lt hk _

end

/-- A write of `n` bytes by the holder feeds them, and keeps the unit for `n` fc. -/
theorem ctlAct_chkFeed {s : State} {q : Req} {ofs k : Nat} (hq : s.serves ofs q) (hdbg : s.hasDbg q.win.toNat = true)
    (howner : (s.check k).owner = some q.win.toNat) (hstate : (s.check k).state ≠ 2) (n : Nat) :
    ∃ r, ctlAct ofs q s (chkWrite k q true fun s => s.chkFeed k n q.wdata) =
      .next (s.unitReply k { (s.check k).feed (bytesOf n q.wdata.toNat) with busy := s.fc + n } r q rOk 0) :=
  ctlAct_chkWrite_holder hq hdbg howner hstate (fun s c => { c.feed (bytesOf n q.wdata.toNat) with busy := s.fc + n }) fun _ => rfl

theorem bytesOf_ne_nil {n : Nat} (h : 0 < n) (v : Nat) : bytesOf n v ≠ [] :=
  List.ne_nil_of_length_pos (by rwa [length_bytesOf])

/-- A write of V leaves the unit in no ERROR (R537). -/
theorem Check.setV_state_ne (c : Check) (v : BitVec 64) : (c.setV v).state ≠ 3 := by
  dsimp only [Check.setV]
  split <;> omega

theorem exec_chkValWrite_holder {s : State} {q : Req} {k : Nat} (hk : k < 8) (hi : Bool)
    (hq : s.serves (chkOfs k (if hi then 0x24 else 0x20)) q) (hdbg : s.hasDbg q.win.toNat = true)
    (howner : (s.check k).owner = some q.win.toNat) (hstate : (s.check k).state ≠ 2) :
    ∃ r, exec (.chkValWrite k hi q) s = .next (s.unitReply k
      { ((s.check k).setV (halfSet (s.check k).v hi q.wdata)) with alive := (s.check k).alive + 1 } r q rOk 0) := by
  rw [exec_chkValWrite_write hk]
  exact ctlAct_chkWrite_holder hq hdbg howner hstate
    (fun _ c => { (c.setV (halfSet c.v hi q.wdata)) with alive := c.alive + 1 }) fun _ => rfl

theorem exec_chkValRead_captures {s : State} {q : Req} {k : Nat} (hk : k < 8) (hq : s.serves (chkOfs k 0x20) q)
    (hdbg : s.hasDbg q.win.toNat = true) :
    ∃ r, exec (.chkValRead k q) s = .next (s.unitReply k { s.check k with
      capHi := (s.check k).capHi.set q.win.toNat ((s.check k).v.extractLsb' 32 32)
      capDone := (s.check k).capDone.set q.win.toNat (s.check k).done } r q rOk ((s.check k).v.extractLsb' 0 32)) := by
  have hexec : exec (.chkValRead k q) s = execChkValRead k q s := rfl
  obtain ⟨r, henter⟩ := ctlEnter_chkReply hq false (dbgRead q fun s => s.chkValLo k q.win.toNat)
  refine ⟨r, ?_⟩
  rw [hexec, execChkValRead, atCheck_lt hk]
  exact henter _ rOk _ (dbgRead_allowed (s := { s with rake := r }) hdbg _)

/-- An access of a unit that a feed keeps busy is stalled (R533). -/
theorem State.ctlStalls_busy {s : State} {q : Req} {k o : Nat} (hk : k < 8) (ho : o < 0x80) (hofs : qOfs q = chkOfs k o)
    (hbusy : s.fc < (s.check k).busy) : s.ctlStalls q = true := by
  have hunit : (chkOfs k o - 0x80000) / 0x80 = k := by unfold chkOfs; omega
  have hpage : 0x80000 ≤ chkOfs k o ∧ chkOfs k o < 0x80400 := by unfold chkOfs; omega
  simp [State.ctlStalls, hofs, hunit, hpage, hbusy]

/-- What comes while the unit is busy waits in the control port's line, judged as it entered (R593, log entry 1801). -/
theorem exec_chkData8_waits {s : State} {q : Req} {k : Nat} (hk : k < 8) (hready : s.ready = true) (hshut : s.shut .control = false)
    (hline : s.ctrl.line = []) (hofs : qOfs q = chkOfs k 0x28) (href : s.refMode = false) (hbusy : s.fc < (s.check k).busy) :
    exec (.chkData8 k q) s = .next { s with ctrl := { s.ctrl with line := [.todo true q (s.entryOf q.win.toNat)] } } := by
  have hstalls : s.ctlStalls q = true := State.ctlStalls_busy hk (by decide) hofs hbusy
  have hin : s.inputReq true q = s := by simp [State.inputReq, State.input, href]
  have hqueue : s.ctlQueue true q = { s with ctrl := { s.ctrl with line := [.todo true q (s.entryOf q.win.toNat)] } } := by
    simp [State.ctlQueue, hline, hin]
  rw [exec_chkData8_write hk, ctlAct, ctlEnter, if_neg (not_not_intro hofs), if_neg (by rw [ready_phase hready]; decide),
    runAct_ready hready, State.ctlTake, hshut, if_neg (by decide), hstalls, if_neg (by simp), hqueue]
  rfl

/-! ### Registers without a command of their own (R534, R595) -/

/-- REGISTER_WRITE performs a write of the CHK page as the block's own page table has it (R595). -/
theorem exec_registerWrite_chk {s : State} {q : Req} {o : Nat} (ho : qOfs q = o) (hlo : 0x80000 ≤ o) (hhi : o < 0x80400) :
    exec (.registerWrite q) s = ctlAct o q s fun s => s.blockWrite q := by
  have hexec : exec (.registerWrite q) s = execRegisterWrite q s := rfl
  rw [hexec]
  simp only [execRegisterWrite, ho]
  rw [if_neg (by omega), if_neg (by omega)]
  split
  case h_14 => rfl
  all_goals omega

theorem State.blockWrite_chk {s : State} {q : Req} {k o : Nat} (hk : k < 8) (ho : o < 0x80) (hofs : qOfs q = chkOfs k o)
    (hreg : (s.chkReg (s.check k) q.win.toNat o).isSome = true) : s.blockWrite q = s.chkPage k o q := by
  have hpage : chkOfs k o / 0x10000 = 8 := by unfold chkOfs; omega
  have hin : chkOfs k o % 0x10000 = 0x80 * k + o := by unfold chkOfs; omega
  have hunit : (0x80 * k + o) / 0x80 = k := by omega
  have hrel : (0x80 * k + o) % 0x80 = o := by omega
  have hval : s.blockVal q.win.toNat (qOfs q) = s.chkReg (s.check k) q.win.toNat o := by
    simp only [State.blockVal, hofs, hpage, hin, State.chkVal, hunit, hrel]
    exact if_pos (by omega)
  have hthere : ¬(s.blockVal q.win.toNat (qOfs q)).isNone = true := by
    rw [hval, Option.isNone_iff_eq_none]
    exact Option.isSome_iff_ne_none.mp hreg
  rw [State.blockWrite, if_neg hthere]
  simp only [hofs, hpage, hin, hunit, hrel]

/-- The registers of the parameters P, I and X (R540, R544, R545). -/
theorem State.chkReg_param (s : State) (c : Check) (w : Nat) {o : Nat} (hword : o % 4 = 0) (hlo : 0x08 ≤ o) (hhi : o < 0x20) :
    (s.chkReg c w o).isSome = true := by
  have ho : o = 0x08 ∨ o = 0x0C ∨ o = 0x10 ∨ o = 0x14 ∨ o = 0x18 ∨ o = 0x1C := by omega
  rcases ho with rfl | rfl | rfl | rfl | rfl | rfl <;> rfl

theorem State.chkPage_param {s : State} {k o : Nat} {q : Req} (hlo : 0x08 ≤ o) (hhi : o < 0x20) :
    s.chkPage k o q = chkWrite k q true (fun s => (s.modCheck k fun c => c.paramWrite o q.wdata, rOk)) s := by
  unfold State.chkPage
  split
  case h_7 => rw [decide_eq_true hhi]
  all_goals omega

section
variable {s : State} {q : Req} {k : Nat} (hk : k < 8) (hdbg : s.hasDbg q.win.toNat = true)
include hk hdbg

/-- A parameter is not written under a scan, nor by a window that does not hold the unit (R534). -/
theorem exec_registerWrite_param_busy {o : Nat} (hword : o % 4 = 0) (hlo : 0x08 ≤ o) (hhi : o < 0x20) (hq : s.serves (chkOfs k o) q)
    (h : (s.check k).owner ≠ some q.win.toNat ∨ (s.check k).state = 2) :
    ∃ r, exec (.registerWrite q) s = .next (s.chkReply s.chk r q rBusy 0) := by
  obtain ⟨r, henter⟩ := ctlEnter_chkReply hq true fun s => s.blockWrite q
  refine ⟨r, ?_⟩
  rw [exec_registerWrite_chk hq.qOfs_eq (by unfold chkOfs; omega) (by unfold chkOfs; omega)]
  refine henter s.chk rBusy 0 ?_
  rw [State.blockWrite_chk (s := { s with rake := r }) hk (by omega) hq.qOfs_eq (State.chkReg_param _ _ _ hword hlo hhi),
    State.chkPage_param hlo hhi]
  exact chkWrite_busy (s := { s with rake := r }) hdbg h _

/-- A write of CHK_CTL with none of its command bits is refused under a scan where it changes a parameter (R534, log entry 1802). -/
theorem exec_registerWrite_ctl_busy (hq : s.serves (chkOfs k 0) q) (hbits : q.wdata.extractLsb' 27 5 = 0) (hlo : 1 ≤ chkWidth q.wdata)
    (hhi : chkWidth q.wdata ≤ 64) (howner : (s.check k).owner = some q.win.toNat) (hstate : (s.check k).state = 2)
    (hchanges : (s.check k).ctlChanges q.wdata = true) :
    ∃ r, exec (.registerWrite q) s = .next (s.chkReply s.chk r q rBusy 0) := by
  obtain ⟨-, -, -, hstart, -⟩ := chkBits_of_extract hbits
  have hpage : (fun s => State.blockWrite s q) = dbgWrite q fun s => s.chkCtl k q :=
    funext fun s => State.blockWrite_chk hk (by decide) hq.qOfs_eq rfl
  rw [exec_registerWrite_chk hq.qOfs_eq (by unfold chkOfs; omega) (by unfold chkOfs; omega), hpage]
  refine ctlAct_chkCtl_refused hq hdbg ?_ (by decide)
  rw [State.chkCtlCode_holder (.inl howner) (.inl hstart), if_neg (by omega), if_pos ⟨hstate, .inl hchanges⟩]

end

/-! ### What a form and a report leave of the check units -/

theorem State.kept_check (s u : State) (k : Nat) : (s.kept u).check k = u.check k := rfl

theorem State.raiseBlk_check (s : State) (idx code detN detV k : Nat) : (s.raiseBlk idx code detN detV).check k = s.check k := rfl

/-- A report by a block `v` with the clocks and the output of `s` is one of `s`. -/
theorem State.kept_reported {s v u : State} {unit code : Nat} (hout : v.out = s.out) (hstamp : v.stamp = s.stamp)
    (h : v.reported u unit code) : s.reported (s.kept u) unit code := by
  obtain ⟨f, hu, hcode, hunit, hcls, htick⟩ := h
  exact ⟨f, hout ▸ hu, hcode, hunit, hcls, htick.trans hstamp⟩

/-! ### The scan engine (R536, R537) -/

theorem State.scanNext_wantsRead {s : State} {k : Nat} (h : s.scanNext = some k) : (s.check k).wantsRead = true :=
  List.find?_some (p := fun u => (s.check u).wantsRead) h

theorem Check.wantsRead_lt {c : Check} (h : c.wantsRead = true) : c.next < c.stop := by
  simp only [Check.wantsRead, Bool.and_eq_true, decide_eq_true_eq] at h
  exact h.2

/-- The bytes of a unit's next READ (R536): up to the end of its granule or of the scan. -/
def Check.readLen (c : Check) : Nat := min (256 - c.next % 256) (c.stop - c.next)

theorem Check.readLen_bounds {c : Check} (h : c.next < c.stop) :
    0 < c.readLen ∧ c.readLen ≤ 256 ∧ c.next % 256 + c.readLen ≤ 256 ∧ c.next + c.readLen ≤ c.stop := by
  unfold Check.readLen
  omega

/-- A unit whose next READ has been issued. -/
def Check.issueRead (c : Check) : Check :=
  { c with
    next := c.next + c.readLen, issued := c.issued + 1
    reads := c.reads ++ [{ tag := BitVec.ofNat 8 c.issued, addr := c.next, got := none }] }

/-- Beside the unit and the engine's turn, a READ that is issued changes only what its way to the slice takes (`State.Sends`). -/
theorem exec_scanReadIssue_issues {s : State} {k : Nat} (hstop : s.stopRuns ctlTile) (hwatch : s.img.act.watch = [])
    (hnext : s.scanNext = some k) :
    ∃ v, State.Sends { s.modCheck k Check.issueRead with chkPtr := k } v ∧ exec .scanReadIssue s = .next (s.kept v) := by
  have hexec : exec .scanReadIssue s = execScanReadIssue s := rfl
  refine ⟨_, (State.mpEnter_sends (s := { s.modCheck k Check.issueRead with chkPtr := k }) hwatch ctlTile
    (.scan k ((s.check k).issued % 256)) .read (s.check k).next (s.check k).readLen []).trans (State.mpPump_sends _ ctlTile), ?_⟩
  rw [hexec, execScanReadIssue, atTile_runs hstop, hnext]
  rfl

theorem exec_scanReadIssue_none {s : State} (hstop : s.stopRuns ctlTile) (hnext : s.scanNext = none) :
    exec .scanReadIssue s = .next s := by
  have hexec : exec .scanReadIssue s = execScanReadIssue s := rfl
  rw [hexec, execScanReadIssue, atTile_runs hstop, hnext]
  rfl

theorem exec_scanReadReturn_noScan {s : State} {k : Nat} (hk : k < 8) (hrun : s.running = true) (hstate : (s.check k).state ≠ 2)
    (tag : BitVec 8) (ok : Bool) (d : List Byte) : exec (.scanReadReturn k tag ok d) s = .next s := by
  have hexec : exec (.scanReadReturn k tag ok d) s = execScanReadReturn k tag ok d s := rfl
  rw [hexec, execScanReadReturn, atCheck_lt hk, fabAct_running hrun, if_neg hstate]
  rfl

/-- The answer of the only outstanding READ is in its place before it is fed. -/
theorem exec_scanReadReturn_answers {s : State} {k : Nat} {r : ScanRead} (hk : k < 8) (hrun : s.running = true)
    (hstate : (s.check k).state = 2) (hreads : (s.check k).reads = [r]) (hgot : r.got = none) (ok : Bool) (d : List Byte) :
    exec (.scanReadReturn k r.tag ok d) s = .next (s.kept
      ((s.modCheck k fun c => { c with reads := [{ r with got := some (if ok then some d else none) }] }).scanFeedData k 2)) := by
  have hexec : exec (.scanReadReturn k r.tag ok d) s = execScanReadReturn k r.tag ok d s := rfl
  rw [hexec, execScanReadReturn, atCheck_lt hk, fabAct_running hrun, if_pos hstate, hreads]
  simp [State.modCheck, hreads, hgot]

section
variable {s : State} {k : Nat} {r : ScanRead} {rest : List ScanRead} (hreads : (s.check k).reads = r :: rest)
include hreads

/-- Data in its turn is fed, and the READ is done. -/
theorem State.scanFeedData_data {d : List Byte} (hgot : r.got = some (some d)) (f : Nat) :
    s.scanFeedData k (f + 1) =
      (s.modCheck k fun c => { (c.feed d) with done := c.done + BitVec.ofNat 32 d.length, reads := rest }).scanFeedData k f := by
  rw [State.scanFeedData, hreads]
  simp only [hgot]

/-- An ERROR in its turn ends the scan and is reported. -/
theorem State.scanFeedData_error (hgot : r.got = some none) (f : Nat) :
    s.scanFeedData k (f + 1) =
      (s.modCheck k fun c => { c with state := 3, reads := [] }).raiseBlk 4 0x0C01 k (r.addr % 2 ^ 32) := by
  rw [State.scanFeedData, hreads]
  simp only [hgot]

end

/-- With no READ outstanding the scan is over where its last byte has come. -/
theorem State.scanFeedData_nil {s : State} {k : Nat} (hreads : (s.check k).reads = []) (f : Nat) :
    (s.scanFeedData k (f + 1)).out = s.out ∧ (s.scanFeedData k (f + 1)).check k =
      { s.check k with state := if (s.check k).next = (s.check k).stop then 0 else (s.check k).state } := by
  rw [State.scanFeedData, hreads]
  dsimp only
  split
  case isTrue => exact ⟨rfl, s.modCheck_check_self k _⟩
  case isFalse => exact ⟨rfl, rfl⟩

section
variable {s : State} {k : Nat} {r : ScanRead} (hk : k < 8) (hrun : s.running = true) (hstate : (s.check k).state = 2)
  (hreads : (s.check k).reads = [r]) (hgot : r.got = none)
include hk hrun hstate hreads hgot

/-- The data of the only outstanding READ is fed, and the scan is over with its last byte (R536). -/
theorem exec_scanReadReturn_data (d : List Byte) :
    ∃ u, exec (.scanReadReturn k r.tag true d) s = .next u ∧ u.out = s.out ∧ u.check k = { (s.check k).feed d with
      done := (s.check k).done + BitVec.ofNat 32 d.length, reads := []
      state := if (s.check k).next = (s.check k).stop then 0 else 2 } := by
  refine ⟨_, exec_scanReadReturn_answers hk hrun hstate hreads hgot true d, ?_⟩
  rw [State.scanFeedData_data (r := { r with got := some (some d) }) (rest := []) (by simp) rfl]
  obtain ⟨hout, hcheck⟩ := State.scanFeedData_nil (s := ((s.modCheck k fun c =>
      { c with reads := [{ r with got := some (some d) }] }).modCheck k fun c =>
        { (c.feed d) with done := c.done + BitVec.ofNat 32 d.length, reads := [] })) (k := k) (by simp) 0
  refine ⟨hout, hcheck.trans ?_⟩
  simp only [State.modCheck_check_self, Check.feed_withReads]
  rw [Check.feed_eq]
  simp only [hstate]

/-- An ERROR for the only outstanding READ ends the scan, with V and the count as they were (R537). -/
theorem exec_scanReadReturn_error (d : List Byte) :
    ∃ u, exec (.scanReadReturn k r.tag false d) s = .next u ∧ s.reported u (unitId uBlock 4) 0x0C01 ∧
      u.check k = { s.check k with state := 3, reads := [] } := by
  refine ⟨_, exec_scanReadReturn_answers hk hrun hstate hreads hgot false d, ?_⟩
  rw [State.scanFeedData_error (r := { r with got := some none }) (rest := []) (by simp) rfl]
  refine ⟨State.kept_reported rfl rfl (State.raiseBlk_reported _ 4 0x0C01 k _), ?_⟩
  rw [State.kept_check, State.raiseBlk_check, State.modCheck_check_self, State.modCheck_check_self]

end

/-! ### The statement -/

/-- The block after a refusal of `q`: no check unit has changed. -/
theorem refused_of_chkReply {o : Host.Outcome State Fault Refusal} {s : State} {q : Req} {code : Nat}
    (h : ∃ r, o = .next (s.chkReply s.chk r q code 0)) : ∃ u, o = .next u ∧ s.replied u q code 0 ∧ u.chk = s.chk := by
  obtain ⟨r, hr⟩ := h
  exact ⟨_, hr, s.chkReply_replied .., rfl⟩

/-- A feed by the holder, with V within the width after it. -/
theorem fed_of_unitReply {o : Host.Outcome State Fault Refusal} {s : State} {q : Req} {k n : Nat} (hn : 0 < n)
    (h : ∃ r, o = .next (s.unitReply k { (s.check k).feed (bytesOf n q.wdata.toNat) with busy := s.fc + n } r q rOk 0)) :
    ∃ u, o = .next u ∧ s.replied u q rOk 0 ∧
      u.check k = { ((s.check k).feed (bytesOf n q.wdata.toNat)) with busy := s.fc + n } ∧
      (u.check k).v.toNat < 2 ^ (s.check k).w ∧ ∀ j, j ≠ k → u.check j = s.check j := by
  obtain ⟨r, hr⟩ := h
  refine ⟨_, hr, s.unitReply_replied .., s.unitReply_check_self .., ?_, fun j hj => s.unitReply_check_ne hj ..⟩
  rw [State.unitReply_check_self]
  exact (s.check k).feed_v_lt (bytesOf_ne_nil hn _)

/-- Settles O53, with the model's choices of log entries 1801 (an access of a busy unit waits in the control port's line), 1802 (CHK_CTL counts as
a parameter write where it changes a parameter), 1803 (the order of several bits) and 1804 (window 0's release): an access that the control port
performs at once changes the check units and the rake alone (`State.chkReply`); the code of a CHK_CTL write is `State.chkCtlCode_holder`, and its
effect `Check.withCtl` beside the command's own; a feed keeps V within the width by `Check.feed_v_lt`; a scan's READ leaves by
`exec_scanReadIssue_issues`, and what returns is fed or ends the scan by `State.scanFeedData`. -/
theorem checkUnitsCompute : Obligations.CheckUnitsCompute := by
  unfold Obligations.CheckUnitsCompute
  refine ⟨fun k q s hk hq hdbg hbits hlo hhi howner hstate => ?_,
    fun k o q s hk hq hdbg hclaim hstart howner ho hwin =>
      refused_of_chkReply (exec_chkClaim_otherHolds hk hq hdbg hclaim hstart howner ho hwin),
    fun k q s hk hq hdbg hclaim => refused_of_chkReply (exec_chkClaim_noRight hk hq hdbg hclaim),
    fun k q s hk hq hdbg hclaim hstart howner hwidth =>
      refused_of_chkReply (exec_chkClaim_badWidth hk hq hdbg hclaim hstart howner hwidth),
    fun k q s hk hq hdbg hbits hlo hhi howner hstate => ?_, fun k o q s hk hq hwin hbits hlo hhi howner ho hstate => ?_,
    fun k q s hk hq hdbg hbits hlo hhi howner hstate => ?_,
    fun k q s hk hq hdbg hbits hlo hhi howner hstate => refused_of_chkReply (exec_chkInit_scan hk hq hdbg hlo hhi howner hbits hstate),
    fun k q s hk hq hdbg hbits hlo hhi howner hright hcode => ?_,
    fun k c q s hk hq hdbg hbits hlo hhi howner hright hsame hcode hne =>
      refused_of_chkReply (exec_chkStart_refused hk hq hdbg hlo hhi howner hbits hright hsame hcode hne),
    fun k q s hk hq hdbg hbits hright => refused_of_chkReply (exec_chkStart_noRight hk hq hdbg hbits hright),
    fun k q s hk hq hdbg hbits hlo hhi howner hstate hsame => ?_,
    fun k q s hk hq hdbg howner hstate => ?_, fun k q s hk hq hdbg howner hstate => ?_, fun k q s hk hq hdbg howner hstate => ?_,
    fun k q s hk hready hshut hline hofs href hbusy => ⟨_, exec_chkData8_waits hk hready hshut hline hofs href hbusy, rfl⟩,
    fun k q s hk hq hdbg h => ?_, fun k q s hk hq hdbg h => ?_, fun k q s hk hq hdbg h => ?_, fun k hi q s hk hq hdbg h => ?_,
    fun k o q s hk hword hlo hhi hq hdbg h => refused_of_chkReply (exec_registerWrite_param_busy hk hdbg hword hlo hhi hq h),
    fun k q s hk hq hdbg hbits hlo hhi howner hstate hchanges =>
      refused_of_chkReply (exec_registerWrite_ctl_busy hk hdbg hq hbits hlo hhi howner hstate hchanges),
    fun k q s hk hq hdbg => ?_, fun k q s hk hq hdbg howner hstate => ?_, fun k q s hk hq hdbg howner hstate => ?_,
    fun k s hstop hwatch hnext => ?_, fun s hstop hnext => exec_scanReadIssue_none hstop hnext,
    fun k r d s hk hrun hstate hreads hgot => ?_, fun k r d s hk hrun hstate hreads hgot => ?_,
    fun k tag ok d s hk hrun hstate => exec_scanReadReturn_noScan hk hrun hstate tag ok d⟩
  · obtain ⟨r, hexec⟩ := exec_chkClaim_free hk hq hdbg hlo hhi hbits howner hstate
    obtain ⟨v, a, hctl⟩ := Check.withCtl_eq { s.check k with owner := some q.win.toNat, alive := (s.check k).alive + 1 } q.wdata
    refine ⟨_, hexec, s.unitReply_replied .., ?_⟩
    rw [hctl, State.unitReply_check_self]
    exact ⟨rfl, rfl, rfl, rfl, rfl, rfl, rfl, fun j hj => s.unitReply_check_ne hj .., rfl, rfl⟩
  · obtain ⟨r, hexec⟩ := exec_chkRelease_holder hk hq hdbg hlo hhi howner hbits hstate
    obtain ⟨v, a, hctl⟩ := Check.withCtl_eq (s.check k) q.wdata
    refine ⟨_, hexec, s.unitReply_replied .., ?_⟩
    have hidle : ((s.check k).withCtl q.wdata).state ≠ 2 := by rwa [hctl]
    rw [Check.ctl_release _ hbits, Check.abort_noScan hidle, ite_self, hctl, State.unitReply_check_self]
    exact ⟨rfl, rfl, fun j hj => s.unitReply_check_ne hj ..⟩
  · obtain ⟨r, hexec⟩ := exec_chkRelease_window0 hk hq hwin hbits hlo hhi howner ho
    rw [Check.abort_scan hstate] at hexec
    exact ⟨_, hexec, s.unitReply_replied .., s.unitReply_check_self .., fun j hj => s.unitReply_check_ne hj ..⟩
  · obtain ⟨r, hexec⟩ := exec_chkInit_holder hk hq hdbg hlo hhi howner hbits hstate
    obtain ⟨v, a, hctl⟩ := Check.withCtl_eq (s.check k) q.wdata
    refine ⟨_, hexec, s.unitReply_replied .., ?_⟩
    rw [Check.ctl_init _ hbits, hctl, State.unitReply_check_self]
    exact ⟨rfl, rfl, rfl, howner, fun j hj => s.unitReply_check_ne hj ..⟩
  · obtain ⟨r, hexec⟩ := exec_chkStart_starts hk hq hdbg hlo hhi howner hbits hright hcode
    obtain ⟨v, a, hctl⟩ := Check.withCtl_eq (s.check k) q.wdata
    refine ⟨_, hexec, s.unitReply_replied .., ?_⟩
    rw [hctl, State.unitReply_check_self]
    exact ⟨rfl, rfl, rfl, rfl, rfl⟩
  · obtain ⟨r, hexec⟩ := exec_chkAbort_scan hk hq hdbg hlo hhi howner hbits hstate hsame
    exact ⟨_, hexec, s.unitReply_replied .., s.unitReply_check_self .., rfl, fun j hj => s.unitReply_check_ne hj ..⟩
  · rw [exec_chkData8_write hk]
    exact fed_of_unitReply (by decide) (ctlAct_chkFeed hq hdbg howner hstate 1)
  · rw [exec_chkData16_write hk]
    exact fed_of_unitReply (by decide) (ctlAct_chkFeed hq hdbg howner hstate 2)
  · rw [exec_chkData32_write hk]
    exact fed_of_unitReply (by decide) (ctlAct_chkFeed hq hdbg howner hstate 4)
  · rw [exec_chkData32_write hk]
    exact refused_of_chkReply (ctlAct_chkWrite_busy hq hdbg h _)
  · rw [exec_chkData8_write hk]
    exact refused_of_chkReply (ctlAct_chkWrite_busy hq hdbg h _)
  · rw [exec_chkData16_write hk]
    exact refused_of_chkReply (ctlAct_chkWrite_busy hq hdbg h _)
  · rw [exec_chkValWrite_write hk]
    exact refused_of_chkReply (ctlAct_chkWrite_busy hq hdbg h _)
  · obtain ⟨r, hexec⟩ := exec_chkValRead_captures hk hq hdbg
    refine ⟨_, hexec, s.unitReply_replied .., ?_⟩
    rw [State.unitReply_check_self]
    exact ⟨rfl, Tab.get?_set_self .., Tab.get?_set_self ..⟩
  · obtain ⟨r, hexec⟩ := exec_chkValWrite_holder hk true hq hdbg howner hstate
    refine ⟨_, hexec, s.unitReply_replied .., ?_⟩
    rw [State.unitReply_check_self]
    exact ⟨rfl, (s.check k).setV_state_ne (halfSet (s.check k).v true q.wdata)⟩
  · obtain ⟨r, hexec⟩ := exec_chkValWrite_holder hk false hq hdbg howner hstate
    refine ⟨_, hexec, s.unitReply_replied .., ?_⟩
    rw [State.unitReply_check_self]
    exact ⟨rfl, (s.check k).setV_state_ne (halfSet (s.check k).v false q.wdata)⟩
  · obtain ⟨v, hsend, hexec⟩ := exec_scanReadIssue_issues hstop hwatch hnext
    have hwants := State.scanNext_wantsRead hnext
    obtain ⟨hpos, hle, hgranule, hstop⟩ := Check.readLen_bounds (Check.wantsRead_lt hwants)
    have hcheck : (s.kept v).check k = (s.check k).issueRead := by
      have hchk : v.chk = (s.modCheck k Check.issueRead).chk := by rw [hsend.only]
      exact (congrArg (Tab.get Check.init · k) hchk).trans (s.modCheck_check_self k _)
    refine ⟨_, (s.check k).readLen, hexec, ?_, hpos, hle, hgranule, hstop, ?_⟩
    · exact (congrArg State.chkPtr hsend.only :)
    · rw [hcheck]
      exact ⟨rfl, rfl, rfl⟩
  · obtain ⟨u, hexec, hout, hcheck⟩ := exec_scanReadReturn_data hk hrun hstate hreads hgot d
    refine ⟨u, hexec, ?_⟩
    rw [hcheck]
    exact ⟨rfl, rfl, rfl, rfl, hout⟩
  · obtain ⟨u, hexec, hreported, hcheck⟩ := exec_scanReadReturn_error hk hrun hstate hreads hgot d
    refine ⟨u, hexec, hreported, ?_⟩
    rw [hcheck]
    exact ⟨rfl, rfl, rfl⟩

end Sys2Proof.Machine
end
